-- ==== Sys2Proof/Word.lean ====
section
/-! DEFINITION. The byte that the supervisory port and the field lines carry. -/

namespace Sys2Proof

/-- One byte of the supervisory port or of a field line (09 R177, 11 R204). -/
abbrev Byte := BitVec 8

end Sys2Proof
end

