-- ==== Sys2Proof/Syntax.lean ====
section
/-! DEFINITION. The commands the block takes: one constructor per row of the table of operations and events,
and the host's command names (11 R208). -/

namespace Sys2Proof

/-- The commands of the command code table (11 R208). -/
inductive Cmd
  | readResult
  | createConnection
  | editConnection
  | suspend
  | resume
  | retireConnection
  | addDrop
  | removeDrop
  | readConnection
  | readDrop
  | setStreamPointer
  | streamReadTable
  | runPass
  | setPassParameters
  | readPassStatus
  | readCurtailmentList
  | setDemoteThreshold
  | clearShortfall
  | setPlantOffer
  | setEmergencyOffer
  | clearTrip
  | readPlant
  | lineInit
  | startLine
  | stopLine
  | lineReset
  | clearLineErrors
  | readLine
  | setCommsHold
  | setMeter
  | setBranchLimit
  | setRegulation
  | setCascade
  | readBranch
  | setValveDrive
  | homeValve
  | readValve
  | readAttention
  | ackAttention
  | setGroupLevel
  | setThreshold
  | readChangedSet
deriving DecidableEq, Repr

/-- One waiting command: a row of the table.

A host command carries the parameter bytes sent with its command byte, in the order of 11 R208. All of them make the
whole command; fewer leave it open (09 R180), to be continued by `parameterByte` or ended by another command byte
(assumption log 1). -/
inductive Instr
  /-- READ_RESULT (R188); no parameter bytes. -/
  | readResult
  /-- CREATE_CONNECTION (R12); parameter bytes: id, line, class, S(2), c, M(2), fallback(2), n, n addresses. -/
  | createConnection (params : List Byte)
  /-- EDIT_CONNECTION (R22); parameter bytes: id; class; S(2); c; M(2); fallback(2); hold(2). -/
  | editConnection (params : List Byte)
  /-- SUSPEND (R17); parameter bytes: id. -/
  | suspend (params : List Byte)
  /-- RESUME (R19); parameter bytes: id. -/
  | resume (params : List Byte)
  /-- RETIRE_CONNECTION (R20); parameter bytes: id. -/
  | retireConnection (params : List Byte)
  /-- ADD_DROP (R25); parameter bytes: id, address. -/
  | addDrop (params : List Byte)
  /-- REMOVE_DROP (R26); parameter bytes: id, address. -/
  | removeDrop (params : List Byte)
  /-- READ_CONNECTION (R27); parameter bytes: id. -/
  | readConnection (params : List Byte)
  /-- READ_DROP (R28); parameter bytes: line, address. -/
  | readDrop (params : List Byte)
  /-- SET_STREAM_POINTER (R189); parameter bytes: id. -/
  | setStreamPointer (params : List Byte)
  /-- STREAM_READ_TABLE (R190); no parameter bytes. -/
  | streamReadTable
  /-- RUN_PASS (R36); no parameter bytes. -/
  | runPass
  /-- SET_PASS_PARAMETERS (R37); parameter bytes: interval; ramp percent; deadband(2). -/
  | setPassParameters (params : List Byte)
  /-- READ_PASS_STATUS (R56); no parameter bytes. -/
  | readPassStatus
  /-- READ_CURTAILMENT_LIST (R63); no parameter bytes. -/
  | readCurtailmentList
  /-- SET_DEMOTE_THRESHOLD (R70); parameter bytes: threshold. -/
  | setDemoteThreshold (params : List Byte)
  /-- CLEAR_SHORTFALL (R71); parameter bytes: id. -/
  | clearShortfall (params : List Byte)
  /-- SET_PLANT_OFFER (R75); parameter bytes: offer(3); setpoint(2). -/
  | setPlantOffer (params : List Byte)
  /-- SET_EMERGENCY_OFFER (R78); parameter bytes: emergency offer(3). -/
  | setEmergencyOffer (params : List Byte)
  /-- CLEAR_TRIP (R83); no parameter bytes. -/
  | clearTrip
  /-- READ_PLANT (R85); no parameter bytes. -/
  | readPlant
  /-- LINE_INIT (R89); parameter bytes: line, rate code, spacing(2), timeout(2), mode. -/
  | lineInit (params : List Byte)
  /-- START_LINE (R90); parameter bytes: line. -/
  | startLine (params : List Byte)
  /-- STOP_LINE (R91); parameter bytes: line. -/
  | stopLine (params : List Byte)
  /-- LINE_RESET (R92); parameter bytes: line. -/
  | lineReset (params : List Byte)
  /-- CLEAR_LINE_ERRORS (R108); parameter bytes: line. -/
  | clearLineErrors (params : List Byte)
  /-- READ_LINE (R109); parameter bytes: line. -/
  | readLine (params : List Byte)
  /-- SET_COMMS_HOLD (R125); parameter bytes: setting(2). -/
  | setCommsHold (params : List Byte)
  /-- SET_METER (R136); parameter bytes: branch, K(2), prescale, gate mode. -/
  | setMeter (params : List Byte)
  /-- SET_BRANCH_LIMIT (R147); parameter bytes: branch, limit(2). -/
  | setBranchLimit (params : List Byte)
  /-- SET_REGULATION (R151); parameter bytes: branch; base(2); trim. -/
  | setRegulation (params : List Byte)
  /-- SET_CASCADE (R143); parameter bytes: branch, setting. -/
  | setCascade (params : List Byte)
  /-- READ_BRANCH (R153); parameter bytes: branch. -/
  | readBranch (params : List Byte)
  /-- SET_VALVE_DRIVE (R158); parameter bytes: drive, travel(2), excitation, rate(2), ratio, tolerance. -/
  | setValveDrive (params : List Byte)
  /-- HOME_VALVE (R168); parameter bytes: drive; and the level of the drive's home switch. -/
  | homeValve (params : List Byte) (home : Bool)
  /-- READ_VALVE (R174); parameter bytes: drive. -/
  | readValve (params : List Byte)
  /-- READ_ATTENTION (R198); no parameter bytes. -/
  | readAttention
  /-- ACK_ATTENTION (R199); parameter bytes: group, cause mask. -/
  | ackAttention (params : List Byte)
  /-- SET_GROUP_LEVEL (R197); parameter bytes: group, level. -/
  | setGroupLevel (params : List Byte)
  /-- SET_THRESHOLD (R197); parameter bytes: threshold. -/
  | setThreshold (params : List Byte)
  /-- READ_CHANGED_SET (R202); no parameter bytes. -/
  | readChangedSet
  /-- BAD_COMMAND (R181): a completed command byte whose code names no command. -/
  | badCommand (code : Byte)
  /-- PARAMETER_BYTE (R182): a completed parameter byte, and the level of the home switch its command may read. -/
  | parameterByte (b : Byte) (home : Bool)
  /-- DATA_BYTE_PERIOD (R185): one byte period of a read completed by a parameter byte; its SDI value is ignored. -/
  | dataBytePeriod
  /-- SEL_ASSERT (R177): SEL goes low. -/
  | selAssert
  /-- SEL_RELEASE (R178): SEL goes high. -/
  | selRelease
  /-- PART_RESET (R29): part reset, and the raw TRIP level at reset release. -/
  | partReset (trip : Bool)
  /-- TRIP_INPUT_SAMPLE (R80): the raw TRIP level at a 1 ms tick. -/
  | tripInputSample (asserted : Bool)
  /-- QUALIFIED_ASSERTION (R81): the sample that qualifies an asserted TRIP level. -/
  | qualifiedAssertion
  /-- QUALIFIED_DEASSERTION (R82): the sample that qualifies a deasserted TRIP level. -/
  | qualifiedDeassertion
  /-- INTERVAL_TICK (R35): the 1 s tick that brings the interval counter to the allotment interval. -/
  | intervalTick
  /-- PUBLICATION (R53): the pass in flight ends and publishes. -/
  | publication
  /-- IDLE_LINE_SELECTION (R94): the 1 ms tick at which an idle POLLING line selects. -/
  | idleLineSelection (line : Fin 8)
  /-- POLL_SPACING_EXPIRY (R98): the tick that ends the poll spacing. -/
  | pollSpacingExpiry (line : Fin 8)
  /-- POLL_SENT (R95): the poll's last byte has gone out; in LOOPBACK, the frame its echo assembled to, none when broken or incomplete. -/
  | pollSent (line : Fin 8) (echo : Option (List Byte))
  /-- REPLY_START (R97): the first character of a frame arrives. -/
  | replyStart (line : Fin 8)
  /-- RESPONSE_TIMEOUT (R96): the expiry tick of the response timer. -/
  | responseTimeout (line : Fin 8)
  /-- FRAME_RECEIVED (R101): a complete frame, from its lead byte to its CRC. -/
  | frameReceived (line : Fin 8) (bytes : List Byte)
  /-- BROKEN_FRAME (R99): a bad lead, length or stop bit. -/
  | brokenFrame (line : Fin 8)
  /-- GAP_LIMIT_EXPIRY (R99): more than 30 bit times inside a frame. -/
  | gapLimitExpiry (line : Fin 8)
  /-- CONTENTION (R105): a character read back differs from the one sent. -/
  | contention (line : Fin 8)
  /-- COMMS_HOLD_EXPIRY (R127): the 1 s tick that brings the comms hold remaining to 0. -/
  | commsHoldExpiry (id : Fin 96)
  /-- METER_EDGE (R138): a rising edge of MTRn. -/
  | meterEdge (branch : Fin 8)
  /-- GATE_ARMED_START (R137): the first 1 s tick after arming, and the level of MTRn at it. -/
  | gateArmedStart (branch : Fin 8) (high : Bool)
  /-- GATE_CLOSE (R140): the 1 s tick that brings the elapsed seconds to the gate length. -/
  | gateClose (branch : Fin 8)
  /-- STEP_TIMER_EXPIRY (R161): a step-timer expiry in MOVING. -/
  | stepTimerExpiry (drive : Fin 8)
  /-- HOMING_STEP_EXPIRY (R169): a step-timer expiry in HOMING, and the level of the home switch. -/
  | homingStepExpiry (drive : Fin 8) (home : Bool)
  /-- ENCODER_SAMPLE (R164): one sample of VnENCA and VnENCB. -/
  | encoderSample (drive : Fin 8) (a b : Bool)
  /-- SCK_FALLING_EDGE (R186): a falling SCK edge; the SDI sample of the rising edge before it, when that edge shifted a bit without completing a byte. -/
  | sckFallingEdge (rose : Option Bool)
deriving DecidableEq, Repr

end Sys2Proof
end

