-- ==== Sys2Proof/Decode.lean ====
section
/-! DEFINITION. The command code table of the supervisory port, and the table's bits (it gives none). -/

namespace Sys2Proof

/-- The code of each command (11 R208). -/
def Cmd.code : Cmd → Byte
  | .readResult => 0x00
  | .createConnection => 0x10
  | .editConnection => 0x11
  | .suspend => 0x12
  | .resume => 0x13
  | .retireConnection => 0x14
  | .addDrop => 0x15
  | .removeDrop => 0x16
  | .readConnection => 0x17
  | .readDrop => 0x18
  | .setStreamPointer => 0x19
  | .streamReadTable => 0x1A
  | .runPass => 0x20
  | .setPassParameters => 0x21
  | .readPassStatus => 0x22
  | .readCurtailmentList => 0x28
  | .setDemoteThreshold => 0x29
  | .clearShortfall => 0x2A
  | .setPlantOffer => 0x30
  | .setEmergencyOffer => 0x31
  | .clearTrip => 0x32
  | .readPlant => 0x33
  | .lineInit => 0x40
  | .startLine => 0x41
  | .stopLine => 0x42
  | .lineReset => 0x43
  | .clearLineErrors => 0x44
  | .readLine => 0x45
  | .setCommsHold => 0x46
  | .setMeter => 0x50
  | .setBranchLimit => 0x51
  | .setRegulation => 0x52
  | .setCascade => 0x53
  | .readBranch => 0x54
  | .setValveDrive => 0x60
  | .homeValve => 0x61
  | .readValve => 0x62
  | .readAttention => 0x70
  | .ackAttention => 0x71
  | .setGroupLevel => 0x72
  | .setThreshold => 0x73
  | .readChangedSet => 0x74

/-- Every command once, in the order of the code table. -/
def Cmd.all : List Cmd :=
  [.readResult, .createConnection, .editConnection, .suspend, .resume, .retireConnection, .addDrop, .removeDrop,
   .readConnection, .readDrop, .setStreamPointer, .streamReadTable, .runPass, .setPassParameters] ++
  [.readPassStatus, .readCurtailmentList, .setDemoteThreshold, .clearShortfall, .setPlantOffer, .setEmergencyOffer,
   .clearTrip, .readPlant, .lineInit, .startLine, .stopLine, .lineReset, .clearLineErrors, .readLine] ++
  [.setCommsHold, .setMeter, .setBranchLimit, .setRegulation, .setCascade, .readBranch, .setValveDrive, .homeValve,
   .readValve, .readAttention, .ackAttention, .setGroupLevel, .setThreshold, .readChangedSet]

/-- The command a code names, or none: then the command byte is BAD_COMMAND (11 R208, 09 R181). -/
def Cmd.ofCode (b : Byte) : Option Cmd :=
  Cmd.all.find? (fun c => c.code == b)

/-- The three command kinds (09 section 9.4). -/
inductive CmdKind
  | whole | field | read
deriving DecidableEq, Repr

/-- The kind of each command (11 R208, 09 R183, R184, R185). -/
def Cmd.kind : Cmd → CmdKind
  | .readResult | .readConnection | .readDrop | .streamReadTable | .readPassStatus | .readCurtailmentList | .readPlant
  | .readLine | .readBranch | .readValve | .readAttention | .readChangedSet => .read
  | .editConnection | .setPassParameters | .setPlantOffer | .setRegulation => .field
  | .createConnection | .suspend | .resume | .retireConnection | .addDrop | .removeDrop | .setStreamPointer | .runPass
  | .setDemoteThreshold | .clearShortfall | .setEmergencyOffer | .clearTrip | .lineInit | .startLine | .stopLine
  | .lineReset | .clearLineErrors | .setCommsHold | .setMeter | .setBranchLimit | .setCascade | .setValveDrive
  | .homeValve | .ackAttention | .setGroupLevel | .setThreshold => .whole

/-- How many parameter bytes each command takes (11 R208). CREATE CONNECTION takes 11 and then as many addresses as its
drop count byte says (01 R11). -/
def Cmd.paramCount : Cmd → Nat
  | .readResult | .streamReadTable | .runPass | .readPassStatus | .readCurtailmentList | .clearTrip | .readPlant
  | .readAttention | .readChangedSet => 0
  | .suspend | .resume | .retireConnection | .readConnection | .setStreamPointer | .setDemoteThreshold
  | .clearShortfall | .startLine | .stopLine | .lineReset | .clearLineErrors | .readLine | .readBranch | .homeValve
  | .readValve | .setThreshold => 1
  | .addDrop | .removeDrop | .readDrop | .setCommsHold | .setCascade | .ackAttention | .setGroupLevel => 2
  | .setEmergencyOffer | .setBranchLimit => 3
  | .setPassParameters | .setRegulation => 4
  | .setPlantOffer | .setMeter => 5
  | .lineInit => 7
  | .setValveDrive => 8
  | .createConnection | .editConnection => 11

/-- The drop counts that CREATE CONNECTION goes on with: 1, 2 or 3 (01 R11). -/
def validDropCount (n : Nat) : Bool := 1 ≤ n && n ≤ 3

/-- The parameter bytes a command is complete with, once these have been received (09 R182, 01 R11). A bad drop count
ends CREATE CONNECTION at the drop count byte. -/
def Cmd.paramsNeeded (c : Cmd) (params : List Byte) : Nat :=
  match c with
  | .createConnection =>
    if params.length < 11 then 11
    else if validDropCount (params.getD 10 0).toNat then 11 + (params.getD 10 0).toNat
    else 11
  | c => c.paramCount

/-- The command that a word spells by the bits of spec/opcode_table.json. No row of the table gives bits, so no word
spells a command. -/
def decodeTableWord (_nbits _w : Nat) : Option Instr := none

end Sys2Proof
end

