-- ==== Sys2Proof/Machine/Operands.lean ====
section
/-! DEFINITION. Values out of bytes and bytes out of values: byte order, sign, clamping, the frame form and the CRC. -/

namespace Sys2Proof.Machine

/-- Parameter byte i as a number. -/
def arg (a : List Byte) (i : Nat) : Nat := (a.getD i 0).toNat

/-- Two bytes from index i, most significant first (00 section 1.6.6). -/
def arg2 (a : List Byte) (i : Nat) : Nat := arg a i * 256 + arg a (i + 1)

/-- Three bytes from index i, most significant first. -/
def arg3 (a : List Byte) (i : Nat) : Nat := arg a i * 65536 + arg2 a (i + 1)

/-- A 16-bit value read as two's complement (11 section 11, R204). -/
def signed16 (n : Nat) : Int := if n < 32768 then (n : Int) else (n : Int) - 65536

/-- A value brought into a range (00 section 1.6.4). -/
def clampNat (lo hi v : Nat) : Nat := max lo (min hi v)

/-- A signed value brought into a range. -/
def clampInt (lo hi v : Int) : Int := max lo (min hi v)

/-- An optional field: 65535 is the absent value (01 R2). -/
def optField (n : Nat) : Option Nat := if n = 65535 then none else some n

/-- The inverse of `optField`: the image shows absent as 65535 (11 R205). -/
def optImage (o : Option Nat) : Nat := o.getD 65535

/-- A count that saturates at a bound (00 section 1.6.3). -/
def satSucc (bound n : Nat) : Nat := min bound (n + 1)

/-- A 16-bit count that wraps (00 section 1.6.3). -/
def wrapSucc16 (n : Nat) : Nat := (n + 1) % 65536

/-! ## Encoding of read data (11) -/

/-- One byte. -/
def b1 (n : Nat) : List Byte := [BitVec.ofNat 8 n]

/-- Two bytes, most significant first. -/
def b2 (n : Nat) : List Byte := [BitVec.ofNat 8 (n / 256), BitVec.ofNat 8 n]

/-- Three bytes, most significant first. -/
def b3 (n : Nat) : List Byte := [BitVec.ofNat 8 (n / 65536), BitVec.ofNat 8 (n / 256), BitVec.ofNat 8 n]

/-- Four bytes, most significant first. -/
def b4 (n : Nat) : List Byte := BitVec.ofNat 8 (n / 16777216) :: b3 n

/-- A signed value in two bytes of two's complement. -/
def i2 (v : Int) : List Byte := b2 (v % 65536).toNat

/-- A signed value in three bytes of two's complement. -/
def i3 (v : Int) : List Byte := b3 (v % 16777216).toNat

/-- A flag byte, bit 0 first (11). -/
def flags (bits : List Bool) : List Byte :=
  b1 (bits.foldr (fun b acc => (if b then 1 else 0) + 2 * acc) 0)

/-! ## Field-line frames (05 R99, R100, 11 R204) -/

/-- One bit of the CRC register, most significant bit first. -/
def crcBit (r : BitVec 16) : BitVec 16 :=
  if r.msb then (r <<< 1) ^^^ 0x1021#16 else r <<< 1

/-- One byte into the CRC register. -/
def crcByte (r : BitVec 16) (b : Byte) : BitVec 16 :=
  let x := r ^^^ ((b.zeroExtend 16) <<< 8)
  crcBit (crcBit (crcBit (crcBit (crcBit (crcBit (crcBit (crcBit x)))))))

/-- The CRC over a list of bytes: start FFFF hex, no final inversion (05 R100). -/
def crc (bytes : List Byte) : BitVec 16 := bytes.foldl crcByte 0xFFFF#16

/-- The lead byte of every frame. -/
def lead : Byte := 0xC5

/-- A frame from its length byte through its last field, with the lead before it and the CRC behind it (11 R204). -/
def frameOf (body : List Byte) : List Byte := lead :: body ++ b2 (crc body).toNat

/-- The characters form one complete frame: the lead, a length of 3 to 29, and 4 + length characters (05 R99). -/
def completeFrame (bytes : List Byte) : Bool :=
  bytes.getD 0 0 == lead && 3 ≤ arg bytes 1 && arg bytes 1 ≤ 29 && bytes.length == 4 + arg bytes 1

/-- The bytes the CRC covers: the length byte through the last field. -/
def frameBody (bytes : List Byte) : List Byte := (bytes.drop 1).take (bytes.length - 3)

/-- The received CRC agrees with the computed one (05 R100). -/
def crcGood (bytes : List Byte) : Bool :=
  crc (frameBody bytes) == BitVec.ofNat 16 (arg2 bytes (bytes.length - 2))

end Sys2Proof.Machine
end

