-- ==== Sys2Proof/Config.lean ====
section
/-! DEFINITION. The sizes the spec fixes, and the one input level it leaves to the plant. -/

namespace Sys2Proof.Config

/-- Drop slots in the Drop Pool (01 R8). -/
def slots : Nat := 160

/-- Longest time from a snapshot to its publication, in ms (02 R30). -/
def passLimitMs : Nat := 10

/-- Samples in a row that qualify a TRIP level (04 R80). -/
def qualifySamples : Nat := 50

/-- Bytes of a record image (11 R205). -/
def imageBytes : Nat := 30

/-- FREE VALUE. The level of MTRn at a 1 s tick that no command describes: the branch, then how many free
values were read before it (07 R137; assumption log 9). -/
opaque meterHigh : Nat → Nat → Bool

end Sys2Proof.Config
end

