-- ==== Sys2Proof/Machine/State.lean ====
section
/-! DEFINITION. Every piece of state the spec gives the CV4860, as plain data, and the machine after reset. -/

namespace Sys2Proof.Machine

/-- The block has no fault that stops it: a refused command or a FAULT state of a line or a drive is a next state.
The type has no constructor, so no meaning can raise one (safe). -/
inductive Fault
deriving DecidableEq, Repr

/-- Why a step has no meaning. -/
inductive Refusal
  /-- Raised only by an arm of `exec` whose command is not modelled yet, with its mnemonic (safe). No arm does. -/
  | notModelled (mnemonic : String)
deriving DecidableEq, Repr

/-! ## Service connections and drops -/

/-- States of a connection record (01 R1). -/
inductive ConnState
  | vacant | pending | active | suspended | retiring
deriving DecidableEq, Repr

/-- One connection record (01 R1 to R6). -/
structure Conn where
  state : ConnState
  /-- generation, 0-255 -/
  gen : Nat
  line : Fin 8
  cls : Nat
  /-- subscription S, kW -/
  sub : Nat
  /-- committed delta-T c, tenths of K -/
  dt : Nat
  /-- maximum flow M, tenths of L/s -/
  maxFlow : Nat
  fallback : Option Nat
  hold : Option Nat
  /-- suspend cause COMMS -/
  comms : Bool
  /-- suspend cause LINE -/
  lineCause : Bool
  /-- suspend cause SUPERVISOR -/
  supervisor : Bool
  expired : Bool
  /-- comms hold remaining, s -/
  holdLeft : Nat
  /-- demand D, kW -/
  demand : Nat
  /-- demand at snapshot, kW -/
  demandSnap : Nat
  granted : Nat
  /-- flow ceiling, tenths of L/s -/
  ceiling : Nat
  /-- shortfall score, 0-255 -/
  score : Nat
  lowDt : Bool
  curtailed : Bool
  ramp : Bool
  moved : Bool
deriving DecidableEq, Repr

/-- A VACANT record: the cleared values of 01 R1, with the generation it last had. -/
def Conn.vacant (gen : Nat) : Conn :=
  { state := .vacant, gen := gen, line := 0, cls := 0, sub := 0, dt := 0, maxFlow := 0, fallback := none, hold := none,
    comms := false, lineCause := false, supervisor := false, expired := false, holdLeft := 0, demand := 0,
    demandSnap := 0, granted := 0, ceiling := 0, score := 0, lowDt := false, curtailed := false, ramp := false,
    moved := false }

/-- Where a drop came from (01 R7). -/
inductive Origin
  | create | add
deriving DecidableEq, Repr

/-- Drop states (06 R112). -/
inductive DropState
  | joining | live | silent
deriving DecidableEq, Repr

/-- Grant modes of a poll (06 R114, 11 R204). -/
inductive GrantMode
  | commission | openService | hold | fallback | close
deriving DecidableEq, Repr

/-- A drop slot in use (06 R111). Slots have no visible number (01 R8; assumption log 24). -/
structure Drop where
  line : Fin 8
  addr : Nat
  conn : Fin 96
  origin : Origin
  state : DropState
  missed : Nat
  demand : Nat
  supply : Int
  ret : Int
  stale : Bool
  flow : Nat
  valve : Nat
  localOverride : Bool
  sensorFault : Bool
  share : Nat
  mode : Option GrantMode
  closePolls : Nat
  closed : Bool
deriving DecidableEq, Repr

/-- A slot as it is when taken into use (01 R8, 06 R111). -/
def Drop.fresh (line : Fin 8) (addr : Nat) (conn : Fin 96) (origin : Origin) : Drop :=
  { line := line, addr := addr, conn := conn, origin := origin, state := .joining, missed := 0, demand := 0, supply := 0,
    ret := 0, stale := false, flow := 0, valve := 0, localOverride := false, sensorFault := false, share := 0,
    mode := none, closePolls := 0, closed := false }

/-! ## The Allotment Engine -/

/-- The snapshot's copy of one record (02 R38). -/
structure SnapRec where
  id : Fin 96
  gen : Nat
  state : ConnState
  eff : Nat
  sub : Nat
  dt : Nat
  maxFlow : Nat
  fallback : Option Nat
  hold : Option Nat
  demand : Nat
  /-- granted power at the snapshot, G_prev -/
  gPrev : Nat
  /-- flow ceiling at the snapshot -/
  ceiling : Nat
  expired : Bool
  line : Fin 8
  /-- address and current share of each drop -/
  shares : List (Nat × Nat)
deriving DecidableEq, Repr

/-- What a pass computes from (02 R38). -/
structure Snapshot where
  recs : List SnapRec
  offer : Nat
  ramp : Nat
  limits : Vector Nat 8
  listed : List (Fin 96)
deriving DecidableEq, Repr

/-- An entry of the curtailment list (03 R58). -/
structure CurtailEntry where
  id : Fin 96
  /-- class at joining -/
  cls : Nat
  /-- pass at joining -/
  pass : Nat
deriving DecidableEq, Repr

/-- The Allotment Engine (02 R30). It is COMPUTING exactly while it holds a snapshot. -/
structure Engine where
  pend : Bool
  rerun : Bool
  rampUnfinished : Bool
  overcommit : Bool
  /-- allotment interval, s -/
  interval : Nat
  /-- ramp percent -/
  rampPct : Nat
  deadband : Nat
  /-- interval counter, s -/
  counter : Nat
  passCount : Nat
  abandoned : Nat
  skipped : Nat
  headroom : Nat
  /-- records taken by the latest snapshot -/
  snapCount : Nat
  snap : Option Snapshot
  /-- ms ticks since the snapshot; the model's own (assumption log 7) -/
  passMs : Nat
  curtail : List CurtailEntry
deriving DecidableEq, Repr

/-! ## Plant, lines, branches, drives -/

/-- The plant record (04 R74, R85). -/
structure Plant where
  offer : Nat
  setpoint : Int
  emergency : Nat
  latch : Bool
  /-- qualified input level, true when asserted -/
  level : Bool
  /-- raw input level at the latest sample -/
  raw : Bool
  /-- qualifier run -/
  run : Nat
  snapOffer : Nat
deriving DecidableEq, Repr

/-- Line states (05 R88). -/
inductive LineState
  | down | ready | polling | loopback | faulted
deriving DecidableEq, Repr

/-- Line modes (05 R87). -/
inductive LineMode
  | normal | loopback
deriving DecidableEq, Repr

/-- Exchange phases (05 R87, section 5.3). -/
inductive LinePhase
  | none | sending | awaiting | receiving | spacing
deriving DecidableEq, Repr

/-- One Field Line Controller (05 R87), with its timers, transmitter and receiver. -/
structure Line where
  state : LineState
  /-- stop pending -/
  stop : Bool
  rate : Nat
  spacing : Nat
  timeout : Nat
  mode : LineMode
  walk : Nat
  phase : LinePhase
  polled : Nat
  rounds : Nat
  /-- consecutive-bad count -/
  bad : Nat
  latch : Bool
  crcCount : Nat
  brokenCount : Nat
  strayCount : Nat
  lateCount : Nat
  loopGood : Nat
  loopBad : Nat
  /-- LnTE -/
  te : Bool
  /-- the frame formed for the latest exchange -/
  tx : List Byte
  /-- ticks to the response timer's expiry; 0 once it has expired or is stopped -/
  respLeft : Nat
  /-- ticks to the end of the poll spacing -/
  spaceLeft : Nat
  /-- the receiver is assembling a frame -/
  assembling : Bool
  /-- a selection waits for the frame being assembled to end -/
  due : Bool
  /-- the exchange whose poll is being sent has been cut -/
  cut : Bool
deriving DecidableEq, Repr

/-- A line after part reset or LINE RESET (05 R87, R92, R110). -/
def Line.reset : Line :=
  { state := .down, stop := false, rate := 0, spacing := 100, timeout := 50, mode := .normal, walk := 0, phase := .none,
    polled := 0, rounds := 0, bad := 0, latch := false, crcCount := 0, brokenCount := 0, strayCount := 0, lateCount := 0,
    loopGood := 0, loopBad := 0, te := false, tx := [], respLeft := 0, spaceLeft := 0, assembling := false, due := false,
    cut := false }

/-- Gate modes (07 R136). -/
inductive GateMode
  | off | s1 | s4 | s10 | openGate
deriving DecidableEq, Repr

/-- Gate states (07 R135). -/
inductive GateState
  | shut | armed | counting | totalizing
deriving DecidableEq, Repr

/-- One Branch Meter (07 R135). -/
structure Branch where
  limit : Nat
  /-- meter constant K, mL per pulse -/
  k : Nat
  prescale : Nat
  mode : GateMode
  gate : GateState
  elapsed : Nat
  /-- divider phase -/
  divider : Bool
  live : Nat
  liveOver : Bool
  last : Nat
  lastOver : Bool
  flow : Nat
  flowValid : Bool
  /-- even branch: cascaded; odd branch: consumed -/
  cascade : Bool
  overRun : Nat
  overdrawn : Bool
  base : Nat
  trim : Nat
  limited : Bool
  stranded : Nat
deriving DecidableEq, Repr

/-- A branch after part reset (07 R135, R154). -/
def Branch.reset : Branch :=
  { limit := 65535, k := 1000, prescale := 1, mode := .off, gate := .shut, elapsed := 0, divider := false, live := 0,
    liveOver := false, last := 0, lastOver := false, flow := 0, flowValid := false, cascade := false, overRun := 0,
    overdrawn := false, base := 0, trim := 20, limited := false, stranded := 0 }

/-- Drive states (08 R156). -/
inductive DriveState
  | unhomed | homing | idle | moving | fault
deriving DecidableEq, Repr

/-- Excitations (08 R159). -/
inductive Excitation
  | wave | twoPhase | half
deriving DecidableEq, Repr

/-- Fault reasons of a drive (08 R155). -/
inductive FaultReason
  | none | stall | encoder | homeLimit
deriving DecidableEq, Repr

/-- One Valve Drive (08 R155), with its step timer and its latest encoder sample. -/
structure Drive where
  state : DriveState
  travel : Nat
  excitation : Excitation
  /-- steps per second -/
  rate : Nat
  /-- encoder counts per half-step -/
  ratio : Nat
  /-- stall tolerance, counts -/
  tolerance : Nat
  position : Nat
  known : Bool
  target : Nat
  phase : Nat
  coils : Bool
  encoder : Int
  /-- step pending check -/
  stepPending : Bool
  homingSteps : Nat
  reason : FaultReason
  homeSample : Bool
  /-- the running step interval, microseconds; 0 when the step timer is stopped -/
  timer : Nat
  encA : Bool
  encB : Bool
  /-- an encoder sample has been taken since reset release (assumption log 17) -/
  encSeen : Bool
deriving DecidableEq, Repr

/-- A drive after part reset (08 R155, R175). -/
def Drive.reset : Drive :=
  { state := .unhomed, travel := 2000, excitation := .half, rate := 200, ratio := 4, tolerance := 16, position := 0,
    known := false, target := 0, phase := 0, coils := false, encoder := 0, stepPending := false, homingSteps := 0,
    reason := .none, homeSample := false, timer := 0, encA := false, encB := false, encSeen := false }

/-! ## Attention Unit and Supervisory Port -/

/-- The seventeen causes (10 R194). -/
inductive Cause
  | trip | overcommit | headroomZero
  | passPublished | passAbandoned
  | stateChanged | lowDtChanged | retireDone
  | lineFaulted | crcLatched | loopError
  | overdrawn | meterOverrange | branchLimited
  | valveFault | homeDone | homeFailed
deriving DecidableEq, Repr

/-- What the Attention Unit holds of one cause: its pending flag and its unit set, bit n for unit n. -/
structure CauseRec where
  pending : Bool
  units : BitVec 8
deriving DecidableEq, Repr

/-- The Attention Unit (10 R194, R196, R201). -/
structure Attention where
  /-- the causes in the order of the table of R194 -/
  causes : Vector CauseRec 17
  levels : Vector Nat 6
  threshold : Nat
  /-- the ATN output -/
  atn : Bool
  /-- the changed-connection set, bit i for id i -/
  changed : BitVec 96
deriving DecidableEq, Repr

/-- Result codes (09 R187). -/
inductive Result
  | ok | clamped | incomplete | badCommand | badId | badParam | badState | occupied | dropInUse | dropPoolFull
deriving DecidableEq, Repr

/-- Command phases (09 R180). -/
inductive PortPhase
  | idle | collecting | data
deriving DecidableEq, Repr

/-- The Supervisory Port: byte assembler, command record and output (09 R177, R180, R186). -/
structure Port where
  /-- SEL is low -/
  selLow : Bool
  /-- SEL has been seen high since reset release (R193) -/
  seenHigh : Bool
  bitCount : Nat
  /-- the bits held, latest in bit 0 -/
  bits : Byte
  /-- the most significant bit of the byte due out has been placed -/
  msb : Bool
  /-- the level of SDO; none while it is not driven -/
  sdo : Option Bool
  phase : PortPhase
  cmd : Option Cmd
  /-- parameter position -/
  pos : Nat
  /-- bytes of the field in progress -/
  field : List Byte
  /-- target of an open EDIT CONNECTION or SET REGULATION -/
  target : Nat
  /-- a field of the open command was clamped -/
  clamped : Bool
  /-- the read in DATA was accepted -/
  readOk : Bool
  /-- output position: byte periods of the data phase completed, the dummy byte included -/
  outPos : Nat
  /-- the captured read data -/
  captured : Option (List Byte)
  /-- captured changed-connection ids not yet delivered -/
  held : Option (BitVec 96)
  result : Result
  pointer : Fin 96
  /-- the byte shifted out in the latest completed byte period; the model's own -/
  lastOut : Byte
deriving DecidableEq, Repr

/-- The port after reset with SEL at the given level (09 R193). -/
def Port.reset (selLow : Bool) : Port :=
  { selLow := selLow, seenHigh := !selLow, bitCount := 0, bits := 0, msb := false, sdo := none, phase := .idle,
    cmd := none, pos := 0, field := [], target := 0, clamped := false, readOk := false, outPos := 0, captured := none,
    held := none, result := .ok, pointer := 0, lastOut := 0 }

/-! ## The whole part -/

/-- What the model keeps of the present moment, which lasts from one tick of the Timebase to the next. Two events of one
moment arrive together in the sense of 08 R173 and 12 R209 (DESIGN CHOICE, assumption logs 34 and 36). -/
structure Moment where
  /-- the drives whose step timer an expiry of this moment restarted -/
  restarted : Vector Bool 8
  /-- a publication of this moment started its rerun pass and found pending set -/
  pendTaken : Bool
deriving DecidableEq, Repr

/-- A moment in which nothing has happened yet. -/
def Moment.start : Moment := { restarted := Vector.replicate 8 false, pendTaken := false }

/-- The CV4860. -/
structure State where
  conns : Vector Conn 96
  /-- the drop slots in use, in ascending line and address -/
  drops : List Drop
  engine : Engine
  /-- demote threshold (03 R64) -/
  demote : Nat
  /-- comms hold setting, s (06 R125) -/
  holdSetting : Nat
  plant : Plant
  lines : Vector Line 8
  branches : Vector Branch 8
  drives : Vector Drive 8
  port : Port
  att : Attention
  /-- ms ticks into the current second (00 section 1.6.7; assumption log 8) -/
  ms : Nat
  /-- an urgent trigger of the event under way, not yet delivered; the model's own (assumption log 10) -/
  urgent : Bool
  /-- free values read so far; the model's own (assumption log 9) -/
  free : Nat
  /-- the present moment; the model's own (assumption logs 34 and 36) -/
  now : Moment
  /-- the commands that wait, first in, first out -/
  pending : List Instr
deriving DecidableEq, Repr

/-- The engine after reset (02 R57, 03 R73). -/
def Engine.reset : Engine :=
  { pend := false, rerun := false, rampUnfinished := false, overcommit := false, interval := 5, rampPct := 20,
    deadband := 50, counter := 0, passCount := 0, abandoned := 0, skipped := 0, headroom := 0, snapCount := 0,
    snap := none, passMs := 0, curtail := [] }

/-- The plant record after reset, with the level sampled at reset release (04 R86). -/
def Plant.reset (trip : Bool) : Plant :=
  { offer := 0, setpoint := 70, emergency := 0, latch := trip, level := trip, raw := trip, run := 0, snapOffer := 0 }

/-- The Attention Unit after reset (10 R203). -/
def Attention.reset : Attention :=
  { causes := Vector.replicate 17 { pending := false, units := 0 }, levels := Vector.replicate 6 0, threshold := 0,
    atn := false, changed := 0 }

/-- The part right after reset release, with the TRIP level sampled there and the level of SEL (01 R29, 02 R57, 03 R73,
04 R86, 05 R110, 06 R134, 07 R154, 08 R175, 09 R193, 10 R203). -/
def State.afterReset (trip selLow : Bool) : State :=
  { conns := Vector.replicate 96 (Conn.vacant 0), drops := [], engine := Engine.reset, demote := 30, holdSetting := 60,
    plant := Plant.reset trip, lines := Vector.replicate 8 Line.reset, branches := Vector.replicate 8 Branch.reset,
    drives := Vector.replicate 8 Drive.reset, port := Port.reset selLow, att := Attention.reset, ms := 0,
    urgent := false, free := 0, now := Moment.start, pending := [] }

/-- The machine right after reset: TRIP at rest and SEL high (DESIGN CHOICE, assumption log 2 and 3). -/
def State.reset : State := State.afterReset false false

end Sys2Proof.Machine
end

