-- ==== Sys2Proof/Machine/Flags.lean ====
section
/-! DEFINITION. The attention flags: causes, their groups, raising and clearing them, and the ATN condition. -/

namespace Sys2Proof.Machine

/-- The place of a cause in the table of 10 R194. -/
def Cause.index : Cause → Fin 17
  | .trip => 0 | .overcommit => 1 | .headroomZero => 2
  | .passPublished => 3 | .passAbandoned => 4
  | .stateChanged => 5 | .lowDtChanged => 6 | .retireDone => 7
  | .lineFaulted => 8 | .crcLatched => 9 | .loopError => 10
  | .overdrawn => 11 | .meterOverrange => 12 | .branchLimited => 13
  | .valveFault => 14 | .homeDone => 15 | .homeFailed => 16

/-- The group of a cause (10 R194). -/
def Cause.group : Cause → Fin 6
  | .trip | .overcommit | .headroomZero => 0
  | .passPublished | .passAbandoned => 1
  | .stateChanged | .lowDtChanged | .retireDone => 2
  | .lineFaulted | .crcLatched | .loopError => 3
  | .overdrawn | .meterOverrange | .branchLimited => 4
  | .valveFault | .homeDone | .homeFailed => 5

/-- The causes of a group in the order of their bits (10 R194). Group 1 has two. -/
def groupCauses : Fin 6 → List Cause
  | 0 => [.trip, .overcommit, .headroomZero]
  | 1 => [.passPublished, .passAbandoned]
  | 2 => [.stateChanged, .lowDtChanged, .retireDone]
  | 3 => [.lineFaulted, .crcLatched, .loopError]
  | 4 => [.overdrawn, .meterOverrange, .branchLimited]
  | 5 => [.valveFault, .homeDone, .homeFailed]

/-- A cause is pending. -/
def Attention.isPending (a : Attention) (c : Cause) : Bool := a.causes[c.index].pending

/-- The unit set of a cause. -/
def Attention.unitsOf (a : Attention) (c : Cause) : BitVec 8 := a.causes[c.index].units

/-- Some cause of the group is pending. -/
def Attention.groupPending (a : Attention) (g : Fin 6) : Bool := (groupCauses g).any a.isPending

/-- The condition of ATN (10 R196): a pending cause in a group whose level exceeds the threshold. -/
def Attention.atnDue (a : Attention) : Bool :=
  (List.finRange 6).any (fun g => a.groupPending g && a.threshold < a.levels[g])

/-- A cause of G0, G1 or G2 raised (10 R194). -/
def Attention.raise (a : Attention) (c : Cause) : Attention :=
  { a with causes := a.causes.set c.index ({ a.causes[c.index] with pending := true }) }

/-- A cause of G3, G4 or G5 raised with its unit number (10 R194). -/
def Attention.raiseUnit (a : Attention) (c : Cause) (u : Fin 8) : Attention :=
  let r : CauseRec := { pending := true, units := a.causes[c.index].units ||| (1#8 <<< u.val) }
  { a with causes := a.causes.set c.index r }

/-- A cause acknowledged: not pending, its unit set empty (10 R199). -/
def Attention.clear (a : Attention) (c : Cause) : Attention :=
  { a with causes := a.causes.set c.index ({ pending := false, units := 0 }) }

/-- An id entered into the changed-connection set (10 R201). -/
def Attention.enter (a : Attention) (id : Fin 96) : Attention :=
  { a with changed := a.changed ||| (1#96 <<< id.val) }

/-- The group's cause mask, bit 0 for its first cause (10 R198). -/
def Attention.mask (a : Attention) (g : Fin 6) : Nat :=
  ((groupCauses g).map a.isPending).foldr (fun b acc => (if b then 1 else 0) + 2 * acc) 0

/-- The group a read selects: pending, of the highest level, lowest number first (10 R198). -/
def Attention.selected (a : Attention) : Option (Fin 6) :=
  (List.finRange 6).foldl (fun best g =>
    if a.groupPending g then
      match best with
      | none => some g
      | some h => if a.levels[h] < a.levels[g] then some g else some h
    else best) none

end Sys2Proof.Machine
end

