-- ==== Sys2Proof/Machine/Ops.lean ====
section
/-! DEFINITION. The named operations over the records, the triggers of the Allotment Engine, and the end of an event. -/

namespace Sys2Proof.Machine

/-! ## Records -/

/-- One record changed. -/
def State.modConn (s : State) (id : Fin 96) (f : Conn → Conn) : State :=
  { s with conns := s.conns.set id (f s.conns[id]) }

/-- One line record changed. -/
def State.modLine (s : State) (l : Fin 8) (f : Line → Line) : State :=
  { s with lines := s.lines.set l (f s.lines[l]) }

/-- One branch record changed. -/
def State.modBranch (s : State) (n : Fin 8) (f : Branch → Branch) : State :=
  { s with branches := s.branches.set n (f s.branches[n]) }

/-- One drive record changed. -/
def State.modDrive (s : State) (n : Fin 8) (f : Drive → Drive) : State :=
  { s with drives := s.drives.set n (f s.drives[n]) }

/-- The effective class of a record (01 R3). -/
def Conn.effClass (c : Conn) : Nat := if c.cls = 1 ∧ c.lowDt then 2 else c.cls

/-- The suspend cause set is empty. -/
def Conn.noCause (c : Conn) : Bool := !c.comms && !c.lineCause && !c.supervisor

/-- Power from flow (02 R42). -/
def powerOf (flow dt : Nat) : Nat := flow * dt * 419 / 10000

/-- Flow from power (02 R42). -/
def flowOf (power dt : Nat) : Nat := power * 10000 / (419 * dt)

/-- The fallback power (01 R16). -/
def fallbackPower (sub dt : Nat) (fallback : Option Nat) : Nat :=
  match fallback with
  | none => 0
  | some f => min sub (powerOf f dt)

/-- A line's state is POLLING. -/
def State.isPolling (s : State) (l : Fin 8) : Bool := s.lines[l].state == .polling

/-! ## Drop slots -/

/-- The drop list of a connection, in ascending address (01 R7). -/
def State.dropsOf (s : State) (id : Fin 96) : List Drop := s.drops.filter (fun d => d.conn == id)

/-- The drop list of a line, in ascending address (01 R8). -/
def State.lineDrops (s : State) (l : Fin 8) : List Drop := s.drops.filter (fun d => d.line == l)

/-- The slot in use at an address of a line. -/
def State.findDrop (s : State) (l : Fin 8) (addr : Nat) : Option Drop :=
  s.drops.find? (fun d => d.line == l && d.addr == addr)

/-- The slots a test picks, changed. -/
def State.modDrops (s : State) (p : Drop → Bool) (f : Drop → Drop) : State :=
  { s with drops := s.drops.map (fun d => if p d then f d else d) }

/-- The slot at an address of a line, changed. -/
def State.modDrop (s : State) (l : Fin 8) (addr : Nat) (f : Drop → Drop) : State :=
  s.modDrops (fun d => d.line == l && d.addr == addr) f

/-- The slots of a connection, changed. -/
def State.modDropsOf (s : State) (id : Fin 96) (f : Drop → Drop) : State :=
  s.modDrops (fun d => d.conn == id) f

/-- A slot's place in the pool's order. -/
def Drop.key (d : Drop) : Nat := d.line.val * 32 + d.addr

/-- A slot entered at its place. -/
def insertDrop (d : Drop) : List Drop → List Drop
  | [] => [d]
  | e :: es => if d.key < e.key then d :: e :: es else e :: insertDrop d es

/-- A slot taken into use (01 R8). -/
def State.takeSlot (s : State) (d : Drop) : State := { s with drops := insertDrop d s.drops }

/-- The slots of a connection freed (01 R8). -/
def State.freeSlotsOf (s : State) (id : Fin 96) : State :=
  { s with drops := s.drops.filter (fun d => !(d.conn == id)) }

/-- The slot at an address of a line freed (01 R8). -/
def State.freeSlot (s : State) (l : Fin 8) (addr : Nat) : State :=
  { s with drops := s.drops.filter (fun d => !(d.line == l && d.addr == addr)) }

/-- Free slots (01 R8). -/
def State.freeSlots (s : State) : Nat := Config.slots - s.drops.length

/-! ## Causes and triggers -/

/-- A cause of G0, G1 or G2 raised. -/
def State.raise (s : State) (c : Cause) : State := { s with att := s.att.raise c }

/-- A cause of G3, G4 or G5 raised with its unit. -/
def State.raiseUnit (s : State) (c : Cause) (u : Fin 8) : State := { s with att := s.att.raiseUnit c u }

/-- An id entered into the changed-connection set (10 R201). -/
def State.enterChanged (s : State) (id : Fin 96) : State := { s with att := s.att.enter id }

/-- What every state change of a record and of a drop reports (01 R10, 06 R112). -/
def State.reportChange (s : State) (id : Fin 96) : State := (s.raise .stateChanged).enterChanged id

/-- An ordinary trigger: pending is set (02 R33). -/
def State.ordinary (s : State) : State := { s with engine := { s.engine with pend := true } }

/-- An urgent trigger, to reach the engine once at the end of the event (02 R32, 05 R93; assumption log 10). -/
def State.wantPass (s : State) : State := { s with urgent := true }

/-- A connection leaves the curtailment list at once (03 R61). -/
def State.leaveList (s : State) (id : Fin 96) : State :=
  { s with engine := { s.engine with curtail := s.engine.curtail.filter (fun e => !(e.id == id)) } }

/-! ## The snapshot and the end of an event -/

/-- The effective offer (04 R79). -/
def State.effectiveOffer (s : State) : Nat := if s.plant.latch then s.plant.emergency else s.plant.offer

/-- ACTIVE and SUSPENDED records are taken into a snapshot (01 R9). -/
def Conn.taken (c : Conn) : Bool := c.state == .active || c.state == .suspended

/-- The snapshot's copy of a record (02 R38). -/
def State.snapRec (s : State) (id : Fin 96) : SnapRec :=
  let c := s.conns[id]
  { id := id, gen := c.gen, state := c.state, eff := c.effClass, sub := c.sub, dt := c.dt, maxFlow := c.maxFlow,
    fallback := c.fallback, hold := c.hold, demand := c.demand, gPrev := c.granted, ceiling := c.ceiling,
    expired := c.expired, line := c.line, shares := (s.dropsOf id).map (fun d => (d.addr, d.share)) }

/-- The copy of every taken record, in ascending id. -/
def State.snapRecs (s : State) : List SnapRec :=
  ((List.finRange 96).filter (fun id => s.conns[id].taken)).map s.snapRec

/-- Whether pending has been taken by the rerun pass of a publication of this moment (12 R209; assumption log 36). -/
def State.notePendTaken (s : State) (b : Bool) : State := { s with now := { s.now with pendTaken := b } }

/-- Whether an expiry of this moment restarted the step timer of a drive (08 R173; assumption log 34). -/
def State.noteRestart (s : State) (n : Fin 8) (b : Bool) : State :=
  { s with now := { s.now with restarted := s.now.restarted.set n b } }

/-- The snapshot: a pass starts (02 R38). -/
def State.snapshot (s : State) : State :=
  let recs := s.snapRecs
  let snap : Snapshot :=
    { recs := recs, offer := s.effectiveOffer, ramp := s.engine.rampPct, limits := s.branches.map (·.limit),
      listed := s.engine.curtail.map (·.id) }
  { s with
    conns := s.conns.map (fun c => if c.taken then { c with moved := false, demandSnap := c.demand } else c)
    plant := { s.plant with snapOffer := s.effectiveOffer }
    engine := { s.engine with pend := false, rerun := false, snapCount := recs.length, snap := some snap, passMs := 0 }
    now := { s.now with pendTaken := false } }

/-- The engine is COMPUTING (02 R30). -/
def State.computing (s : State) : Bool := s.engine.snap.isSome

/-- A pass is wanted: a snapshot in IDLE, rerun in COMPUTING (02 R31). -/
def State.startOrRerun (s : State) : State :=
  if s.computing then { s with engine := { s.engine with rerun := true } } else s.snapshot

/-- The end of an event: an urgent trigger raised within it reaches the engine once, and ATN follows the whole event
(05 R93, 10 R195, R196; assumption log 10). -/
def State.finish (s : State) : State :=
  let t := if s.urgent then { s with urgent := false }.startOrRerun else s
  { t with att := { t.att with atn := t.att.atnDue } }

end Sys2Proof.Machine
end

