-- ==== Sys2Proof/Machine/Pass.lean ====
section
/-! DEFINITION. The arithmetic of a pass over its snapshot, stages 1 to 5 (02 sections 2.5), and the drop splits of stage 6. -/

namespace Sys2Proof.Machine

/-! ## Stage 1: reservations -/

/-- The fixed reservation X of a record, or none when the class fill serves it (02 R43). -/
def SnapRec.reserve (r : SnapRec) : Option Nat :=
  match r.state with
  | .suspended => some (if r.expired then fallbackPower r.sub r.dt r.fallback else r.gPrev)
  | _ => r.hold.map (fun h => min h r.sub)

/-- The sum of the reservations (02 R43). -/
def Snapshot.reserved (p : Snapshot) : Nat := (p.recs.map (fun r => r.reserve.getD 0)).sum

/-- The pass sets OVERCOMMIT (02 R43). -/
def Snapshot.over (p : Snapshot) : Bool := p.offer < p.reserved

/-- The power left for the class fill (02 R43): 0 when the reservations are above the offer. -/
def Snapshot.afterReserve (p : Snapshot) : Nat := p.offer - p.reserved

/-! ## Stage 2: requests -/

/-- The request R (02 R44). -/
def SnapRec.request (r : SnapRec) : Nat := min r.demand r.sub

/-- The ramp step (02 R44). -/
def SnapRec.step (r : SnapRec) (ramp : Nat) : Nat := max 1 (r.sub * ramp / 100)

/-- The ramped request R' (02 R44). -/
def SnapRec.ramped (r : SnapRec) (ramp : Nat) : Nat := min r.request (r.gPrev + r.step ramp)

/-- The connection is ramp-limited in this pass (02 R44). -/
def SnapRec.rampLimited (r : SnapRec) (ramp : Nat) : Bool := r.ramped ramp < r.request

/-! ## Stage 3: the class fill -/

/-- The records the class fill serves in class k, in ascending id (02 R45). -/
def Snapshot.members (p : Snapshot) (k : Nat) : List SnapRec :=
  p.recs.filter (fun r => r.reserve.isNone && r.eff == k)

/-- T_k (02 R45). -/
def Snapshot.classSum (p : Snapshot) (k : Nat) : Nat := ((p.members k).map (fun r => r.ramped p.ramp)).sum

/-- The order in which a scaled class deals its residue: the listed first, in list order, then ascending id (02 R46,
03 R62). -/
def Snapshot.dealOrder (p : Snapshot) (k : Nat) : List (Fin 96) :=
  let able := ((p.members k).filter (fun r => 0 < r.ramped p.ramp)).map (·.id)
  p.listed.filter (fun id => able.contains id) ++ able.filter (fun id => !p.listed.contains id)

/-- The grants of class k, its members finding the power `rem` (02 R45, R46). -/
def Snapshot.classGrants (p : Snapshot) (k rem : Nat) : List (Fin 96 × Nat) :=
  let total := p.classSum k
  if total ≤ rem then (p.members k).map (fun r => (r.id, r.ramped p.ramp))
  else
    let base := (p.members k).map (fun r => (r.id, r.ramped p.ramp * rem / total))
    let residue := rem - (base.map (·.2)).sum
    let lucky := (p.dealOrder k).take residue
    base.map (fun g => (g.1, if lucky.contains g.1 then g.2 + 1 else g.2))

/-- The power class k leaves (02 R45). -/
def Snapshot.classRest (p : Snapshot) (k rem : Nat) : Nat :=
  if p.classSum k ≤ rem then rem - p.classSum k else 0

/-- The power left after stage 1 and classes below k. -/
def Snapshot.remBefore (p : Snapshot) : Nat → Nat
  | 0 => p.afterReserve
  | k + 1 => p.classRest k (p.remBefore k)

/-- The class-fill grants of the pass. -/
def Snapshot.fillGrants (p : Snapshot) : List (Fin 96 × Nat) :=
  p.classGrants 0 (p.remBefore 0) ++ p.classGrants 1 (p.remBefore 1) ++ p.classGrants 2 (p.remBefore 2)

/-- The headroom (02 R47). -/
def Snapshot.headroom (p : Snapshot) : Nat := p.remBefore 3

/-- The power a pass grants a record: its reservation, or its class-fill grant. -/
def Snapshot.power (p : Snapshot) (r : SnapRec) : Nat :=
  match r.reserve with
  | some x => x
  | none => ((p.fillGrants.find? (fun g => g.1 == r.id)).map (·.2)).getD 0

/-- The pass finds the connection curtailed (02 R47). -/
def Snapshot.curtailedIn (p : Snapshot) (r : SnapRec) : Bool :=
  r.reserve.isNone && p.power r < r.ramped p.ramp

/-- The pass finds the connection ramp-limited (02 R44, R47). -/
def Snapshot.rampIn (p : Snapshot) (r : SnapRec) : Bool := r.reserve.isNone && r.rampLimited p.ramp

/-! ## Stage 4: flow ceilings -/

/-- The flow ceiling F before the branch limits (02 R48). -/
def Snapshot.flow (p : Snapshot) (r : SnapRec) : Nat :=
  match r.state with
  | .suspended => if r.expired then r.fallback.getD 0 else r.ceiling
  | _ => min r.maxFlow (flowOf (p.power r) r.dt)

/-! ## Stage 5: branch limits -/

/-- U_b: the ceilings of the SUSPENDED connections of a branch (02 R49). -/
def Snapshot.heldFlow (p : Snapshot) (b : Fin 8) : Nat :=
  ((p.recs.filter (fun r => r.line == b && r.state == .suspended)).map p.flow).sum

/-- A_b: the flow available to the others (02 R49). -/
def Snapshot.available (p : Snapshot) (b : Fin 8) : Nat := p.limits[b] - p.heldFlow b

/-- The ACTIVE connections of a branch, in ascending id. -/
def Snapshot.actives (p : Snapshot) (b : Fin 8) : List SnapRec :=
  p.recs.filter (fun r => r.line == b && !(r.state == .suspended))

/-- N_b: the ceilings the ACTIVE connections of a branch ask for (02 R49). -/
def Snapshot.wanted (p : Snapshot) (b : Fin 8) : Nat := ((p.actives b).map p.flow).sum

/-- The branch is scaled: LIMITED (02 R49, R50). -/
def Snapshot.limitedIn (p : Snapshot) (b : Fin 8) : Bool := p.available b < p.wanted b

/-- The stranded flow, as reported (02 R50). -/
def Snapshot.strandedIn (p : Snapshot) (b : Fin 8) : Nat :=
  if p.limitedIn b then min 65535 (p.wanted b - p.available b) else 0

/-- A scaled ceiling before the residue is dealt (02 R49). -/
def Snapshot.scaled (p : Snapshot) (r : SnapRec) : Nat := p.flow r * p.available r.line / p.wanted r.line

/-- The ids that receive a tenth of the residue on a scaled branch: ascending id among those with F above 0 (02 R50). -/
def Snapshot.luckyOn (p : Snapshot) (b : Fin 8) : List (Fin 96) :=
  let residue := p.available b - ((p.actives b).map p.scaled).sum
  (((p.actives b).filter (fun r => 0 < p.flow r)).map (·.id)).take residue

/-- The flow ceiling after stage 5 (02 R49, R50). -/
def Snapshot.ceilingOf (p : Snapshot) (r : SnapRec) : Nat :=
  if r.state = .suspended then p.flow r
  else if p.limitedIn r.line then
    p.scaled r + (if (p.luckyOn r.line).contains r.id then 1 else 0)
  else p.flow r

/-! ## Stage 6: splits among drops -/

/-- The drop of the largest demand, the lowest address taking a tie; drops are in ascending address (02 R51). -/
def largestDemand : List Drop → Option Drop
  | [] => none
  | d :: ds =>
    match largestDemand ds with
    | none => some d
    | some e => if d.demand < e.demand then some e else some d

/-- The LIVE drops of a list. -/
def liveDrops (ds : List Drop) : List Drop := ds.filter (fun d => d.state == .live)

/-- The sum of demands, unsaturated (02 R51). -/
def demandSum (ds : List Drop) : Nat := (ds.map (·.demand)).sum

/-- A LIVE drop's share before the remainder (02 R51). -/
def liveBase (ceiling : Nat) (live : List Drop) (d : Drop) : Nat :=
  if 0 < demandSum live then ceiling * d.demand / demandSum live else ceiling / live.length

/-- The address that takes the remainder of a stage 6 split (02 R51). -/
def liveTaker (live : List Drop) : Nat :=
  ((if 0 < demandSum live then largestDemand live else live.head?).map (·.addr)).getD 0

/-- A drop's share in the stage 6 split of a ceiling among a connection's drops (02 R51). -/
def activeShare (ceiling : Nat) (ds : List Drop) (d : Drop) : Nat :=
  let live := liveDrops ds
  if d.state = .live then
    liveBase ceiling live d +
      (if d.addr = liveTaker live then ceiling - (live.map (liveBase ceiling live)).sum else 0)
  else 0

/-- A drop's share in the equal split of a fallback flow among all of a connection's drops (02 R52, 06 R128). -/
def fallbackShare (flow : Nat) (ds : List Drop) (d : Drop) : Nat :=
  flow / ds.length + (if some d.addr = ds.head?.map (·.addr) then flow % ds.length else 0)

end Sys2Proof.Machine
end

