-- ==== Sys2Proof/Machine/Conn.lean ====
section
/-! DEFINITION. The life of a connection: demand, entry to service, suspension, hold expiry, resumption, close-out
(01 sections 1.3 to 1.7, 06 sections 6.5 and 6.6). -/

namespace Sys2Proof.Machine

/-! ## Demand -/

/-- The sum of the last demands of the LIVE drops, saturating (01 R3, 06 R120). -/
def State.liveDemand (s : State) (id : Fin 96) : Nat := min 65535 (demandSum (liveDrops (s.dropsOf id)))

/-- The difference of two demands. -/
def demandGap (a b : Nat) : Nat := max a b - min a b

/-- The deadband comparison (02 R34) for a connection taken as ACTIVE whose demand went from `old` to what it is now. -/
def State.compareDemand (s : State) (id : Fin 96) (old : Nat) : State :=
  if s.conns[id].demand ≠ old ∧ s.engine.deadband ≤ demandGap s.conns[id].demand s.conns[id].demandSnap then s.ordinary
  else s

/-- The demand recomputed (01 R3, 06 R120), with the deadband comparison when the connection counts as ACTIVE. -/
def State.recompute (s : State) (id : Fin 96) (noted : ConnState) : State :=
  if s.conns[id].state = .pending ∨ s.conns[id].state = .active ∨ s.conns[id].state = .suspended then
    let t := s.modConn id (fun c => { c with demand := s.liveDemand id })
    if noted = .active then t.compareDemand id s.conns[id].demand else t
  else s

/-! ## LOW_DT -/

/-- LOW_DT changed, with the effects of 03 R68. -/
def State.setLowDt (s : State) (id : Fin 96) (b : Bool) : State :=
  ((s.modConn id (fun c => { c with lowDt := b })).raise .lowDtChanged).ordinary

/-- Score 0 and LOW_DT clear, with the effects of a change when the flag was set (01 R20, 03 R71). -/
def State.clearStanding (s : State) (id : Fin 96) : State :=
  let t := if s.conns[id].lowDt then s.setLowDt id false else s
  t.modConn id (fun c => { c with score := 0 })

/-! ## Suspension -/

/-- Suspend causes (01 R6). -/
inductive SuspendCause
  | comms | line | supervisor
deriving DecidableEq, Repr

/-- A cause added to the set. -/
def Conn.addCause (c : Conn) : SuspendCause → Conn
  | .comms => { c with comms := true }
  | .line => { c with lineCause := true }
  | .supervisor => { c with supervisor := true }

/-- A cause removed from the set. -/
def Conn.dropCause (c : Conn) : SuspendCause → Conn
  | .comms => { c with comms := false }
  | .line => { c with lineCause := false }
  | .supervisor => { c with supervisor := false }

/-- The equal fallback split written into the shares of all the connection's drops (06 R128). -/
def State.fallbackSplit (s : State) (id : Fin 96) : State :=
  s.modDropsOf id (fun d => { d with share := fallbackShare (s.conns[id].fallback.getD 0) (s.dropsOf id) d })

/-- Hold expiry (01 R16, 06 R127). -/
def State.expireHold (s : State) (id : Fin 96) : State :=
  ((s.modConn id (fun c => { c with expired := true, holdLeft := 0, moved := true })).fallbackSplit id).ordinary

/-- Entry to SUSPENDED with its first cause (01 R15, R10, 03 R61). -/
def State.enterSuspended (s : State) (id : Fin 96) (cause : SuspendCause) : State :=
  let t := (s.modConn id (fun c => { c.addCause cause with
      state := .suspended, curtailed := false, ramp := false, expired := false, holdLeft := s.holdSetting,
      moved := true })).leaveList id
  let t := (t.reportChange id).wantPass
  if cause = .supervisor then t.expireHold id else t

/-- A cause gained (01 R14): ACTIVE enters SUSPENDED, SUSPENDED adds it, no other state holds one. -/
def State.gainCause (s : State) (id : Fin 96) (cause : SuspendCause) : State :=
  match s.conns[id].state with
  | .active => s.enterSuspended id cause
  | .suspended => s.modConn id (fun c => c.addCause cause)
  | _ => s

/-- Return to ACTIVE of a connection whose cause set has become empty (01 R18). -/
def State.returnActive (s : State) (id : Fin 96) : State :=
  let t := s.modConn id (fun c => { c with
      state := .active
      granted := if c.expired then fallbackPower c.sub c.dt c.fallback else c.granted
      ceiling := if c.expired then c.fallback.getD 0 else c.ceiling
      expired := false, holdLeft := 0, moved := true })
  (t.reportChange id).wantPass

/-- A cause lost by a SUSPENDED connection (01 R14, R18): the last one gone, it returns to ACTIVE. -/
def State.loseCause (s : State) (id : Fin 96) (cause : SuspendCause) : State :=
  if s.conns[id].state = .suspended then
    let t := s.modConn id (fun c => c.dropCause cause)
    if t.conns[id].noCause then t.returnActive id else t
  else s

/-! ## Entry to service -/

/-- The service condition (01 R13). -/
def serviceReady (ds : List Drop) : Bool :=
  ds.any (fun d => d.state == .live) &&
    ds.all (fun d => d.state == .live || (d.state == .joining && d.origin == .add))

/-- PENDING to ACTIVE, and on to SUSPENDED when the line is not POLLING (01 R13). -/
def State.enterActive (s : State) (id : Fin 96) : State :=
  let t := s.modConn id (fun c => { c with state := .active, granted := 0, ceiling := 0, moved := true })
  let t := ((t.modDropsOf id (fun d => { d with share := 0 })).reportChange id).wantPass
  if t.isPolling t.conns[id].line then t else t.gainCause id .line

/-- The service condition tested on a PENDING connection. -/
def State.testService (s : State) (id : Fin 96) : State :=
  if s.conns[id].state = .pending ∧ serviceReady (s.dropsOf id) then s.enterActive id else s

/-- COMMS tested: a SUSPENDED connection with no SILENT drop loses it (01 R14, 06 R121). -/
def State.testComms (s : State) (id : Fin 96) : State :=
  if (s.dropsOf id).any (fun d => d.state == .silent) then s else s.loseCause id .comms

/-! ## Retirement and close-out -/

/-- RETIRING back to VACANT: slots freed, cleared values, generation kept (01 R21, 06 R132). -/
def State.toVacant (s : State) (id : Fin 96) : State :=
  (((s.freeSlotsOf id).modConn id (fun c => Conn.vacant c.gen)).raise .retireDone).reportChange id

/-- The record returns to VACANT once its last drop is closed (01 R21). -/
def State.vacantIfClosed (s : State) (id : Fin 96) : State :=
  if (s.dropsOf id).all (·.closed) then s.toVacant id else s

/-- One drop closed (06 R131). -/
def State.closeDrop (s : State) (l : Fin 8) (addr : Nat) (id : Fin 96) : State :=
  (s.modDrop l addr (fun d => { d with closed := true })).vacantIfClosed id

/-- Every drop of a RETIRING connection closed, its line not being POLLING (06 R131). -/
def State.closeAll (s : State) (id : Fin 96) : State :=
  (s.modDropsOf id (fun d => { d with closed := true })).vacantIfClosed id

/-- Entry to RETIRING (01 R20), and the close-out at once when the line is not POLLING. -/
def State.retire (s : State) (id : Fin 96) : State :=
  let t := (s.clearStanding id).leaveList id
  let t := t.modConn id (fun c => { c with
      state := .retiring, comms := false, lineCause := false, supervisor := false, expired := false, holdLeft := 0,
      granted := 0, ceiling := 0, curtailed := false, ramp := false, demand := 0, moved := true })
  let t := ((t.modDropsOf id (fun d => { d with share := 0 })).reportChange id).wantPass
  if t.isPolling t.conns[id].line then t else t.closeAll id

/-! ## A line leaving and entering POLLING (05 R93) -/

/-- What a line that has left POLLING does to one connection. -/
def State.lineLost (l : Fin 8) (s : State) (id : Fin 96) : State :=
  if s.conns[id].line = l then
    match s.conns[id].state with
    | .active | .suspended => s.gainCause id .line
    | .retiring => s.closeAll id
    | _ => s
  else s

/-- What a line that has entered POLLING does to one connection. -/
def State.lineBack (l : Fin 8) (s : State) (id : Fin 96) : State :=
  if s.conns[id].line = l then s.loseCause id .line else s

/-- The line has left POLLING. -/
def State.leavePolling (s : State) (l : Fin 8) : State := (List.finRange 96).foldl (State.lineLost l) s

/-- The line has entered POLLING. -/
def State.enterPolling (s : State) (l : Fin 8) : State := (List.finRange 96).foldl (State.lineBack l) s

end Sys2Proof.Machine
end

