-- ==== Sys2Proof/Machine/Exchange.lean ====
section
/-! DEFINITION. The Report Processor: grants, valid reports, scoring and misses (06, 03 section 3.2). -/

namespace Sys2Proof.Machine

/-! ## Grant composition -/

/-- The grant mode of a poll to a drop (06 R114). -/
def grantMode (c : Conn) (d : Drop) : GrantMode :=
  if c.state = .retiring then .close
  else if c.state = .pending then .commission
  else if d.state = .joining then .commission
  else if c.state = .active then .openService
  else if c.expired then .fallback
  else .hold

/-- The ceiling of a poll to a drop (06 R114). -/
def grantCeiling (c : Conn) (d : Drop) : Nat :=
  match grantMode c d with
  | .close | .commission => 0
  | _ => d.share

/-- The byte of a grant mode (11 R204). -/
def GrantMode.code : GrantMode → Nat
  | .commission => 0 | .openService => 1 | .hold => 2 | .fallback => 3 | .close => 4

/-- The POLL-GRANT frame (11 R204). -/
def pollFrame (l : Fin 8) (addr : Nat) (mode : GrantMode) (ceiling : Nat) : List Byte :=
  frameOf (b1 6 ++ b1 0x31 ++ b1 l ++ b1 addr ++ b1 mode.code ++ b2 ceiling)

/-! ## The REPORT frame (11 R204) -/

/-- The fields of a REPORT. -/
structure Report where
  demand : Nat
  supply : Int
  ret : Int
  flow : Nat
  valve : Nat
  localOverride : Bool
  sensorFault : Bool
deriving DecidableEq, Repr

/-- The fields out of the bytes of a complete REPORT frame (11 R204). -/
def reportOf (bytes : List Byte) : Report :=
  { demand := arg2 bytes 5, supply := signed16 (arg2 bytes 7), ret := signed16 (arg2 bytes 9), flow := arg2 bytes 11,
    valve := arg bytes 13, localOverride := (bytes.getD 14 0).getLsbD 0, sensorFault := (bytes.getD 14 0).getLsbD 1 }

/-- A temperature in the plausible window (00 section 1.6.1). -/
def inWindow (t : Int) : Bool := -100 ≤ t && t ≤ 600

/-- The temperatures of a report are plausible (06 R118). -/
def Report.plausible (r : Report) : Bool := inWindow r.supply && inWindow r.ret && !r.sensorFault

/-- A valid report stored in its slot, the missed count set to 0 (06 R117, R118). -/
def Drop.store (d : Drop) (r : Report) : Drop :=
  { d with
    demand := r.demand, flow := r.flow, valve := r.valve, localOverride := r.localOverride, sensorFault := r.sensorFault
    supply := if r.plausible then r.supply else d.supply
    ret := if r.plausible then r.ret else d.ret
    stale := !r.plausible
    missed := 0 }

/-! ## Delta-T scoring (03 R65 to R68) -/

/-- The report is skipped by the scoring (03 R66). -/
def skipsScore (c : Conn) (setpoint : Int) (r : Report) : Bool :=
  !r.plausible || r.localOverride || setpoint + 20 < r.supply || r.flow < c.maxFlow / 20

/-- The report shows a shortfall: a < c - 5 (03 R67). -/
def shortfall (c : Conn) (r : Report) : Bool := r.ret - r.supply < (c.dt : Int) - 5

/-- The report scored against its connection (03 R67). -/
def State.scoreReport (s : State) (id : Fin 96) (r : Report) : State :=
  let c := s.conns[id]
  if skipsScore c s.plant.setpoint r then s
  else if shortfall c r then
    let t := s.modConn id (fun c => { c with score := satSucc 255 c.score })
    if s.demote ≤ satSucc 255 c.score ∧ ¬ c.lowDt then t.setLowDt id true else t
  else
    let t := s.modConn id (fun c => { c with score := c.score - 1 })
    if c.score = 1 ∧ c.lowDt then t.setLowDt id false else t

/-! ## Valid reports -/

/-- The drop at an address becomes LIVE or SILENT, reported (06 R112). -/
def State.dropBecomes (s : State) (l : Fin 8) (addr : Nat) (id : Fin 96) (st : DropState) : State :=
  (s.modDrop l addr (fun d => { d with state := st })).reportChange id

/-- What a valid report does once it is stored, its connection not being RETIRING (06 R117 steps 4 and 5). -/
def State.applyReport (s : State) (d : Drop) (noted : ConnState) (r : Report) : State :=
  let fresh := d.state != .live
  let t := if fresh then s.dropBecomes d.line d.addr d.conn .live else s
  let t := t.recompute d.conn noted
  let t := if noted = .active then t.scoreReport d.conn r else t
  if fresh then
    if noted = .pending then t.testService d.conn
    else if noted = .suspended then t.testComms d.conn
    else t
  else t

/-- A valid report handed on for the drop at an address (06 R117, R130). -/
def State.takeReport (s : State) (l : Fin 8) (addr : Nat) (r : Report) : State :=
  match s.findDrop l addr with
  | none => s
  | some d =>
    let noted := s.conns[d.conn].state
    let t := s.modDrop l addr (fun d => d.store r)
    if noted = .retiring then
      if d.mode = some .close then t.closeDrop l addr d.conn else t
    else t.applyReport d noted r

/-! ## Misses -/

/-- A miss of a drop whose connection is RETIRING (06 R130). -/
def State.closeMiss (s : State) (d : Drop) : State :=
  if d.mode = some .close then
    let t := s.modDrop d.line d.addr (fun e => { e with closePolls := min 2 (e.closePolls + 1) })
    if 2 ≤ d.closePolls + 1 then t.closeDrop d.line d.addr d.conn else t
  else s

/-- A miss of a drop whose connection is not RETIRING (06 R123). -/
def State.countMiss (s : State) (d : Drop) (noted : ConnState) : State :=
  let t := s.modDrop d.line d.addr (fun e => { e with missed := satSucc 255 e.missed })
  if d.state = .live ∧ satSucc 255 d.missed = 3 then
    let t := (t.dropBecomes d.line d.addr d.conn .silent).recompute d.conn noted
    if noted = .active ∨ noted = .suspended then t.gainCause d.conn .comms else t
  else t

/-- A miss handed on for the drop at an address (06 R123). -/
def State.takeMiss (s : State) (l : Fin 8) (addr : Nat) : State :=
  match s.findDrop l addr with
  | none => s
  | some d =>
    if s.conns[d.conn].state = .retiring then s.closeMiss d else s.countMiss d s.conns[d.conn].state

end Sys2Proof.Machine
end

