-- ==== Sys2Proof/Machine/Line.lean ====
section
/-! DEFINITION. The Field Line Controllers: selection, exchanges, frame reception, faults and loopback (05). -/

namespace Sys2Proof.Machine

/-! ## Leaving POLLING and the other states -/

/-- The exchange, the timers and the receiver stopped; LnTE deasserted (05 R88, R91, R104). -/
def Line.quiet (x : Line) : Line :=
  { x with stop := false, phase := .none, te := false, respLeft := 0, spaceLeft := 0, assembling := false, due := false,
           cut := false }

/-- The line enters READY or FAULTED; leaving POLLING has the effects of 05 R93. -/
def State.lineGoes (s : State) (l : Fin 8) (st : LineState) : State :=
  let t := s.modLine l (fun x => { x.quiet with state := st })
  if s.isPolling l then t.leavePolling l else t

/-- Entry to FAULTED (05 R104, R105). -/
def State.lineFaults (s : State) (l : Fin 8) : State :=
  (s.lineGoes l .faulted).raiseUnit .lineFaulted l

/-! ## Selection and the opening of an exchange -/

/-- The exchange opens with the poll to an address (05 R94, R95). -/
def Line.openAt (x : Line) (addr : Nat) (wrap : Bool) (te : Bool) (frame : List Byte) : Line :=
  { x with rounds := if wrap then wrapSucc16 x.rounds else x.rounds, walk := addr, polled := addr, phase := .sending,
           te := te, tx := frame, due := false, cut := false, spaceLeft := 0, respLeft := 0 }

/-- The poll to a drop: the Report Processor composes its grant and notes the mode (05 R95, 06 R114). -/
def State.pollDrop (s : State) (l : Fin 8) (d : Drop) (wrap : Bool) : State :=
  let c := s.conns[d.conn]
  (s.modDrop l d.addr (fun e => { e with mode := some (grantMode c d) })).modLine l
    (fun x => x.openAt d.addr wrap true (pollFrame l d.addr (grantMode c d) (grantCeiling c d)))

/-- The loopback walk: the address one above the walk position, or 1 after 30 (05 R106). -/
def Line.loopNext (x : Line) : Nat := if 30 ≤ x.walk then 1 else x.walk + 1

/-- The pollable drops of a line (05 R94). -/
def State.pollable (s : State) (l : Fin 8) : List Drop := (s.lineDrops l).filter (fun d => !d.closed)

/-- The selection of 05 R94 in POLLING: the lowest address above the walk position, or the lowest of all. -/
def State.selectPolling (s : State) (l : Fin 8) : State :=
  match (s.pollable l).find? (fun d => s.lines[l].walk < d.addr) with
  | some d => s.pollDrop l d false
  | none =>
    match (s.pollable l).head? with
    | some d => s.pollDrop l d true
    | none => s.modLine l (fun x => { x with phase := .none, due := false, spaceLeft := 0 })

/-- The selection of 05 R106 in LOOPBACK. -/
def State.selectLoopback (s : State) (l : Fin 8) : State :=
  s.modLine l (fun x => x.openAt x.loopNext (30 ≤ x.walk) false (pollFrame l x.loopNext .commission 0))

/-- A selection, in the two states that walk (05 R94, R106). -/
def State.select (s : State) (l : Fin 8) : State :=
  match s.lines[l].state with
  | .polling => s.selectPolling l
  | .loopback => s.selectLoopback l
  | _ => s

/-- A selection falls: it waits for a frame being assembled (05 R94, R98). DESIGN CHOICE: the exchange phase stays as it was
while it waits (assumption log 33). -/
def State.selectOrWait (s : State) (l : Fin 8) : State :=
  if s.lines[l].assembling then s.modLine l (fun x => { x with due := true }) else s.select l

/-- A waiting selection is made once the frame has ended (05 R94, R98). -/
def State.selectIfDue (s : State) (l : Fin 8) : State := if s.lines[l].due then s.select l else s

/-! ## The end of an exchange -/

/-- The exchange has ended: the poll spacing starts (05 R98). -/
def Line.space (x : Line) : Line :=
  { x with phase := .spacing, te := false, respLeft := 0, spaceLeft := x.spacing, cut := false }

/-- An exchange is open and its reply is awaited or being received. -/
def Line.inExchange (x : Line) : Bool := x.phase == .awaiting || x.phase == .receiving

/-- A stop pending is taken in the event that ends the exchange (05 R91). -/
def State.takeStop (s : State) (l : Fin 8) : State := if s.lines[l].stop then s.lineGoes l .ready else s

/-- The exchange ends with a valid report (05 R96). -/
def State.endReport (s : State) (l : Fin 8) (r : Report) : State :=
  let t := s.modLine l (fun x => { x.space with bad := 0 })
  (t.takeReport l s.lines[l].polled r).takeStop l

/-- The exchange ends with a miss (05 R96); `spoiled` when it saw a CRC failure or a broken frame. At a count of 8 the
line faults (05 R104). -/
def State.endMiss (s : State) (l : Fin 8) (spoiled : Bool) : State :=
  let bad := if spoiled then min 8 (s.lines[l].bad + 1) else 0
  let t := s.modLine l (fun x => { x.space with bad := bad })
  let t := t.takeMiss l s.lines[l].polled
  if bad = 8 then t.lineFaults l else t.takeStop l

/-- The exchange with a drop whose slot has been freed is cut (05 R96). -/
def State.cutExchange (s : State) (l : Fin 8) (addr : Nat) : State :=
  let x := s.lines[l]
  if x.state = .polling ∧ x.polled = addr then
    if x.phase = .sending then s.modLine l (fun x => { x with cut := true })
    else if x.inExchange then (s.modLine l Line.space).takeStop l
    else s
  else s

/-! ## Frame reception -/

/-- The receiver is on and the line does not transmit (05 R88, R95). -/
def Line.hears (x : Line) : Bool := x.state == .polling && x.phase != .sending

/-- The CRC latch set; its cause on a change from clear (05 R103). -/
def State.setLatch (s : State) (l : Fin 8) : State :=
  let t := s.modLine l (fun x => { x with latch := true })
  if s.lines[l].latch then t else t.raiseUnit .crcLatched l

/-- A complete frame is the polled drop's REPORT (05 R101). -/
def isReportOf (l : Fin 8) (addr : Nat) (bytes : List Byte) : Bool :=
  arg bytes 2 == 0x32 && arg bytes 1 == 13 && arg bytes 3 == l.val && arg bytes 4 == addr

/-- A good frame that is not the polled drop's REPORT, while the exchange is open (05 R101). -/
def State.strayInExchange (s : State) (l : Fin 8) : State :=
  let t := s.modLine l (fun x => { x with strayCount := satSucc 65535 x.strayCount })
  if 0 < s.lines[l].respLeft then t.modLine l (fun x => { x with phase := .awaiting }) else t.endMiss l false

/-- A good frame outside an exchange: late or stray (05 R102). -/
def State.frameOutside (s : State) (l : Fin 8) (bytes : List Byte) : State :=
  let t := s.modLine l (fun x =>
    if arg bytes 2 = 0x32 ∧ arg bytes 3 = l.val then { x with lateCount := satSucc 65535 x.lateCount }
    else { x with strayCount := satSucc 65535 x.strayCount })
  t.selectIfDue l

/-- A frame that fails its CRC (05 R100). -/
def State.crcFailure (s : State) (l : Fin 8) : State :=
  let t := (s.modLine l (fun x => { x with crcCount := satSucc 65535 x.crcCount })).setLatch l
  if s.lines[l].inExchange then t.endMiss l true else t.selectIfDue l

/-- A complete frame received (05 R100 to R102). -/
def State.frameIn (s : State) (l : Fin 8) (bytes : List Byte) : State :=
  if s.lines[l].hears && completeFrame bytes then
    let t := s.modLine l (fun x => { x with assembling := false })
    if !crcGood bytes then t.crcFailure l
    else if s.lines[l].inExchange then
      if isReportOf l s.lines[l].polled bytes then t.endReport l (reportOf bytes) else t.strayInExchange l
    else t.frameOutside l bytes
  else s

/-- A frame broken (05 R99). -/
def State.frameBreaks (s : State) (l : Fin 8) : State :=
  let t := s.modLine l (fun x => { x with assembling := false, brokenCount := satSucc 65535 x.brokenCount })
  if s.lines[l].inExchange then t.endMiss l true else t.selectIfDue l

/-! ## The end of a poll, and loopback -/

/-- The echo of a loopback poll is good (05 R107). -/
def goodEcho (l : Fin 8) (addr : Nat) : Option (List Byte) → Bool
  | none => false
  | some bytes => completeFrame bytes && crcGood bytes && arg bytes 2 == 0x31 && arg bytes 3 == l.val && arg bytes 4 == addr

/-- The echo check at the end of a loopback poll (05 R107). -/
def State.checkEcho (s : State) (l : Fin 8) (echo : Option (List Byte)) : State :=
  let t :=
    if goodEcho l s.lines[l].polled echo then s.modLine l (fun x => { x with loopGood := satSucc 65535 x.loopGood })
    else
      ((s.modLine l (fun x => { x with loopBad := satSucc 65535 x.loopBad })).setLatch l).raiseUnit .loopError l
  (t.modLine l Line.space).takeStop l

/-- The poll's last byte has gone out in POLLING (05 R95), or its exchange was cut meanwhile (05 R96). -/
def State.pollOut (s : State) (l : Fin 8) : State :=
  if s.lines[l].cut then (s.modLine l Line.space).takeStop l
  else s.modLine l (fun x => { x with phase := .awaiting, te := false, respLeft := x.timeout })

/-! ## Line commands -/

/-- START LINE accepted (05 R90). -/
def State.startLine (s : State) (l : Fin 8) : State :=
  let x := s.lines[l]
  let t := s.modLine l (fun x => { x.quiet with bad := 0, walk := 0 })
  let t := t.modDrops (fun d => d.line == l) (fun d => { d with missed := 0 })
  if x.mode = .normal then ((t.modLine l (fun x => { x with state := .polling })).enterPolling l).select l
  else (t.modLine l (fun x => { x with state := .loopback })).select l

/-- STOP LINE accepted (05 R91). -/
def State.stopLine (s : State) (l : Fin 8) : State :=
  let x := s.lines[l]
  if x.state ≠ .faulted ∧ (x.phase = .sending ∨ x.inExchange) then s.modLine l (fun x => { x with stop := true })
  else s.lineGoes l .ready

/-- LINE RESET (05 R92). -/
def State.resetLine (s : State) (l : Fin 8) : State :=
  let t := s.modLine l (fun _ => Line.reset)
  if s.isPolling l then t.leavePolling l else t

end Sys2Proof.Machine
end

