-- ==== Sys2Proof/Machine/Drive.lean ====
section
/-! DEFINITION. The Valve Drives: phases, targets, moves, the encoder, homing (08). -/

namespace Sys2Proof.Machine

/-- The phase outputs VnP1 to VnP4, bit 0 for P1 (08 R159). -/
def Drive.outputs (d : Drive) : BitVec 4 :=
  if d.coils then
    match d.phase % 8 with
    | 0 => 0b0001#4 | 1 => 0b0011#4 | 2 => 0b0010#4 | 3 => 0b0110#4
    | 4 => 0b0100#4 | 5 => 0b1100#4 | 6 => 0b1000#4 | _ => 0b1001#4
  else 0#4

/-- A target clamped into the travel and rounded down to a position the excitation uses (08 R160). -/
def roundTarget (e : Excitation) (travel v : Nat) : Nat :=
  let w := min travel v
  match e with
  | .half => w
  | .wave => w - w % 2
  | .twoPhase => if w = 0 then 0 else if w % 2 = 0 then w - 1 else w

/-- The step interval in microseconds (08 R161). -/
def Drive.interval (d : Drive) : Nat := 1000000 / d.rate

/-- The position one step toward the target (08 R159): the TWO_PHASE seat step lies between 0 and 1. -/
def Drive.nextPosition (d : Drive) : Nat :=
  if d.position < d.target then
    match d.excitation with
    | .half => d.position + 1
    | .wave => d.position + 2
    | .twoPhase => if d.position = 0 then 1 else d.position + 2
  else
    match d.excitation with
    | .half => d.position - 1
    | .wave => d.position - 2
    | .twoPhase => if d.position = 1 then 0 else d.position - 2

/-- One step toward the target: the pattern applied, the check pending, the step timer started (08 R159, R161). -/
def Drive.takeStep (d : Drive) : Drive :=
  { d with position := d.nextPosition, phase := d.nextPosition % 8, stepPending := true, timer := d.interval }

/-- From IDLE toward a target that differs from the position (08 R161). -/
def Drive.follow (d : Drive) : Drive :=
  if d.state = .idle ∧ d.target ≠ d.position then { d.takeStep with state := .moving } else d

/-- A target received (08 R160), followed at once from IDLE (08 R161). -/
def Drive.storeTarget (d : Drive) (v : Nat) : Drive :=
  { d with target := roundTarget d.excitation d.travel v }.follow

/-- Entry to FAULT (08 R167). -/
def Drive.toFault (d : Drive) (why : FaultReason) : Drive :=
  { d with state := .fault, coils := false, timer := 0, stepPending := false, known := false, reason := why }

/-- The deviation: the encoder count less position x ratio (08 R166). -/
def Drive.deviation (d : Drive) : Int := d.encoder - (d.position * d.ratio : Nat)

/-- The step just completed is a stall (08 R166). -/
def Drive.stalled (d : Drive) : Bool := d.stepPending && d.tolerance < d.deviation.natAbs

/-- A drive fault of reason STALL or ENCODER raised (08 R167). -/
def State.faultDrive (s : State) (n : Fin 8) (why : FaultReason) : State :=
  (s.modDrive n (fun d => d.toFault why)).raiseUnit .valveFault n

/-- The rest of an expiry in MOVING whose check has passed (08 R161 steps 2 to 4). -/
def Drive.advance (d : Drive) : Drive :=
  if d.position = d.target then { d with state := .idle, timer := 0, stepPending := false } else d.takeStep

/-- A step-timer expiry in MOVING (08 R161, R166). -/
def State.stepExpires (s : State) (n : Fin 8) : State :=
  if s.drives[n].state = .moving then
    if s.drives[n].stalled then s.faultDrive n .stall
    else (s.modDrive n Drive.advance).noteRestart n (s.drives[n].position != s.drives[n].target)
  else s

/-! ## The encoder -/

/-- One quadrature count for a change of exactly one input, `a` the old VnENCA: +1 when VnENCA leads VnENCB (08 R164). -/
def quadrature (a a' b' : Bool) : Int :=
  if a != a' then (if a' != b' then 1 else -1) else (if a' == b' then 1 else -1)

/-- The encoder count moved by one, saturating (08 R164). -/
def Drive.count (d : Drive) (step : Int) : Drive :=
  { d with encoder := clampInt (-8388608) 8388607 (d.encoder + step) }

/-- A sample of the two encoder inputs (08 R164, R165). The first sample after reset release has none before it
(assumption log 17). -/
def State.encoderSample (s : State) (n : Fin 8) (a b : Bool) : State :=
  let d := s.drives[n]
  let t := s.modDrive n (fun d => { d with encA := a, encB := b, encSeen := true })
  if !d.encSeen then t
  else if d.encA != a && d.encB != b then
    if d.state = .fault then t else t.faultDrive n .encoder
  else if d.encA != a || d.encB != b then t.modDrive n (fun e => e.count (quadrature d.encA a b))
  else t

/-! ## Homing -/

/-- The home event on the drive (08 R170), with the first step toward a target that is not 0. -/
def Drive.home (d : Drive) : Drive :=
  { d with
    position := 0, phase := 0, encoder := 0, coils := true, known := true, stepPending := false, homingSteps := 0
    reason := .none, state := .idle, timer := 0 }.follow

/-- The home event (08 R170). -/
def State.homes (s : State) (n : Fin 8) : State := (s.modDrive n Drive.home).raiseUnit .homeDone n

/-- The homing limit (08 R169). -/
def Drive.homingLimit (d : Drive) : Nat := d.travel + d.travel / 8

/-- The phase index belongs to the excitation (08 R159, R169). -/
def phaseBelongs (e : Excitation) (phase : Nat) : Bool :=
  match e with
  | .half => true
  | .wave => phase % 2 == 0
  | .twoPhase => phase % 2 == 1

/-- The phase index after one closing homing step (08 R169). -/
def homingPhase (e : Excitation) (phase : Nat) : Nat :=
  let back :=
    match e with
    | .half => 1
    | _ => if phaseBelongs e phase then 2 else 1
  (phase + 8 - back) % 8

/-- One closing homing step (08 R169 step 3). -/
def Drive.homingStep (d : Drive) : Drive :=
  { d with phase := homingPhase d.excitation d.phase, homingSteps := d.homingSteps + 1, timer := d.interval }

/-- A step-timer expiry in HOMING, with the level of the home switch (08 R169, R171). -/
def State.homingExpires (s : State) (n : Fin 8) (home : Bool) : State :=
  if s.drives[n].state = .homing then
    let t := s.modDrive n (fun d => { d with homeSample := home })
    if home then (t.homes n).noteRestart n (s.drives[n].target != 0)
    else if s.drives[n].homingLimit ≤ s.drives[n].homingSteps then
      (t.modDrive n (fun d => d.toFault .homeLimit)).raiseUnit .homeFailed n
    else (t.modDrive n Drive.homingStep).noteRestart n true
  else s

/-- HOME VALVE accepted, with the level of the home switch (08 R168). -/
def State.homeValve (s : State) (n : Fin 8) (home : Bool) : State :=
  let t := (s.noteRestart n false).modDrive n (fun d => { d with
      state := .homing, known := false, homingSteps := 0, stepPending := false, timer := 0, homeSample := home })
  if home then t.homes n else t.modDrive n (fun d => { d with coils := true, timer := d.interval })

/-! ## Configuration -/

/-- The five configuration values of a drive, clamped (08 R157). -/
structure DriveConfig where
  travel : Nat
  excitation : Excitation
  rate : Nat
  ratio : Nat
  tolerance : Nat
deriving DecidableEq, Repr

/-- The configuration changes what the position means (08 R158 step 1). -/
def Drive.rescaled (d : Drive) (g : DriveConfig) : Bool :=
  d.travel != g.travel || d.excitation != g.excitation || d.ratio != g.ratio

/-- SET VALVE DRIVE on the drive (08 R158 steps 1 to 4). A running interval keeps its old length (R158); one that an expiry
of the same moment restarted runs at the new rate (R173, last row; DESIGN CHOICE of what one moment is: assumption log 34). -/
def Drive.configure (d : Drive) (g : DriveConfig) (restarted : Bool) : Drive :=
  let e := { d with travel := g.travel, excitation := g.excitation, rate := g.rate, ratio := g.ratio,
                    tolerance := g.tolerance }
  let e := if d.rescaled g then
      { e with state := .unhomed, timer := 0, coils := false, stepPending := false, known := false, homingSteps := 0 }
    else if restarted ∧ d.timer ≠ 0 ∧ g.rate ≠ d.rate then { e with timer := e.interval }
    else e
  { e with target := roundTarget g.excitation g.travel d.target }

/-- SET VALVE DRIVE accepted (08 R158): the drive, and the regulation base lowered to the travel. -/
def State.configureDrive (s : State) (n : Fin 8) (g : DriveConfig) : State :=
  (s.modDrive n (fun d => d.configure g s.now.restarted[n])).modBranch n (fun b => { b with base := min b.base g.travel })

end Sys2Proof.Machine
end

