-- ==== Sys2Proof/Machine/Meter.lean ====
section
/-! DEFINITION. The Branch Meters: gates, counting, cascade, the measured flow and overdraw regulation (07). -/

namespace Sys2Proof.Machine

/-- The branch is even: the low half of its pair (07 R143). -/
def isEven (n : Fin 8) : Bool := n.val % 2 == 0

/-- The other branch of a pair. -/
def partner (n : Fin 8) : Fin 8 := if n.val % 2 = 0 then n + 1 else n - 1

/-- Gate length in seconds (07 R136); 0 for a mode with no timed gate. -/
def GateMode.seconds : GateMode → Nat
  | .s1 => 1 | .s4 => 4 | .s10 => 10 | .off => 0 | .openGate => 0

/-- The gate state a mode starts in (07 R136 step 6). -/
def GateMode.start : GateMode → GateState
  | .off => .shut | .openGate => .totalizing | _ => .armed

/-- The gate mode of a byte (07 R136). -/
def gateModeOf : Nat → Option GateMode
  | 0 => some .off | 1 => some .s1 | 2 => some .s4 | 3 => some .s10 | 4 => some .openGate | _ => none

/-- The byte of a gate mode. -/
def GateMode.code : GateMode → Nat
  | .off => 0 | .s1 => 1 | .s4 => 2 | .s10 => 3 | .openGate => 4

/-! ## Counting -/

/-- The divider passes an edge on (07 R138). -/
def Branch.passes (b : Branch) : Bool := b.prescale == 1 || b.divider

/-- The divider phase after an edge (07 R138). -/
def Branch.divide (b : Branch) : Branch := if b.prescale = 1 then b else { b with divider := !b.divider }

/-- A counted edge at saturation: the overrange flag and its cause, the first time (07 R139, R145). DESIGN CHOICE: a flag left
set by a cascade that ended saturated stands, so the single count raises nothing more either (assumption log 38). -/
def State.overrange (s : State) (n : Fin 8) : State :=
  if s.branches[n].liveOver then s
  else (s.modBranch n (fun b => { b with liveOver := true })).raiseUnit .meterOverrange n

/-- A counted edge of a branch outside a cascade (07 R139). -/
def State.countPlain (s : State) (n : Fin 8) : State :=
  if s.branches[n].live < 65535 then s.modBranch n (fun b => { b with live := b.live + 1 }) else s.overrange n

/-- A counted edge of a cascaded even branch (07 R145). -/
def State.countCascade (s : State) (n : Fin 8) : State :=
  if s.branches[n].live < 65535 then s.modBranch n (fun b => { b with live := b.live + 1 })
  else if s.branches[partner n].live < 65535 then
    (s.modBranch n (fun b => { b with live := 0 })).modBranch (partner n) (fun b => { b with live := b.live + 1 })
  else s.overrange n

/-- A counted edge. -/
def State.countEdge (s : State) (n : Fin 8) : State :=
  if isEven n && s.branches[n].cascade then s.countCascade n else s.countPlain n

/-- An edge passed to the divider (07 R138). -/
def State.edge (s : State) (n : Fin 8) : State :=
  let t := s.modBranch n Branch.divide
  if s.branches[n].passes then t.countEdge n else t

/-- An odd branch consumed by its neighbour's cascade: its input is ignored (07 R144). -/
def State.consumed (s : State) (n : Fin 8) : Bool := !isEven n && s.branches[n].cascade

/-- A rising edge of MTRn (07 R138): passed on in COUNTING and TOTALIZING, ignored in SHUT and ARMED. -/
def State.meterEdge (s : State) (n : Fin 8) : State :=
  if s.consumed n then s
  else
    match s.branches[n].gate with
    | .counting | .totalizing => s.edge n
    | _ => s

/-- The tick that starts an ARMED gate, with the level of MTRn (07 R137). -/
def State.gateStart (s : State) (n : Fin 8) (high : Bool) : State :=
  if s.branches[n].gate = .armed then
    let t := s.modBranch n (fun b => { b with gate := .counting, elapsed := 0, live := 0 })
    if high then t.edge n else t
  else s

/-! ## Gate close and regulation -/

/-- The measured flow of the gate that closes (07 R140 step 2). -/
def Branch.measure (b : Branch) : Nat :=
  if b.liveOver then 65535 else min 65535 (b.live * b.prescale * b.k / (b.mode.seconds * 100))

/-- The top of the band (07 R149). -/
def bandTop (limit : Nat) : Nat := limit + limit / 20

/-- The gate closes: count, overrange and flow stored, the next gate opened (07 R140 steps 1 to 3 and 5). -/
def Branch.closeGate (b : Branch) : Branch :=
  { b with last := b.live, lastOver := b.liveOver, flow := b.measure, flowValid := true, live := 0, liveOver := false,
           elapsed := 0 }

/-- The overdraw run after a gate of flow q (07 R149). -/
def Branch.runAfter (b : Branch) (q : Nat) : Nat := if bandTop b.limit < q then satSucc 255 b.overRun else 0

/-- A trim of the target (07 R149, first row): three gates in a row above the band. -/
def State.trimClosed (s : State) (n : Fin 8) : State :=
  let b := s.branches[n]
  let t := s.modDrive n (fun d => d.storeTarget (d.target - b.trim))
  if b.overdrawn then t
  else (t.modBranch n (fun b => { b with overdrawn := true })).raiseUnit .overdrawn n

/-- A relaxation of the target (07 R149, third row, R150). -/
def State.relax (s : State) (n : Fin 8) : State :=
  let b := s.branches[n]
  let v := min b.base (s.drives[n].target + b.trim)
  (s.modDrive n (fun d => d.storeTarget v)).modBranch n
    (fun b => { b with overdrawn := if v = b.base then false else b.overdrawn })

/-- Overdraw regulation at a gate close, the measured flow being written (07 R149). -/
def State.regulate (s : State) (n : Fin 8) : State :=
  let b := s.branches[n]
  let t := s.modBranch n (fun b => { b with overRun := b.runAfter b.flow })
  if bandTop b.limit < b.flow then
    if 3 ≤ b.runAfter b.flow then t.trimClosed n else t
  else if b.limit < b.flow then t
  else if b.overdrawn then t.relax n
  else t

/-- A timed gate closes (07 R140). -/
def State.gateClose (s : State) (n : Fin 8) : State :=
  if s.branches[n].gate = .counting then (s.modBranch n Branch.closeGate).regulate n else s

/-! ## Commands -/

/-- The gate in flight discarded, the measured flow invalid, the overdraw run 0 (07 R136 steps 1, 4 and 5, R141). -/
def Branch.discard (b : Branch) : Branch :=
  { b with live := 0, liveOver := false, elapsed := 0, flow := 0, flowValid := false, overRun := 0 }

/-- SET METER on its own branch (07 R136). -/
def Branch.setMeter (b : Branch) (k prescale : Nat) (mode : GateMode) : Branch :=
  { b.discard with
    k := k, prescale := prescale, mode := mode, gate := mode.start
    divider := if prescale ≠ b.prescale ∨ mode = .off then false else b.divider }

/-- The cascade of an even branch ends (07 R146). -/
def State.endCascade (s : State) (n : Fin 8) : State :=
  (s.modBranch n (fun b => { b with cascade := false })).modBranch (partner n)
    (fun b => { b with cascade := false, live := 0 })

/-- SET METER accepted (07 R136, R146). -/
def State.setMeter (s : State) (n : Fin 8) (k prescale : Nat) (mode : GateMode) : State :=
  let t := s.modBranch n (fun b => b.setMeter k prescale mode)
  if isEven n && s.branches[n].cascade then
    if mode = .openGate then t.modBranch (partner n) (fun b => { b with live := 0 }) else t.endCascade n
  else t

/-- The high half of a cascade: forced to OFF and consumed (07 R144). -/
def Branch.consume (b : Branch) : Branch :=
  let c := if b.mode = .off then b
    else { b.discard with mode := .off, gate := .shut, divider := false }
  { c with cascade := true, live := 0, liveOver := false }

/-- SET CASCADE with setting 1 accepted on an even branch (07 R144). -/
def State.startCascade (s : State) (n : Fin 8) : State :=
  (s.modBranch (partner n) Branch.consume).modBranch n
    (fun b => { b with cascade := true, live := 0, liveOver := false })

/-- SET BRANCH LIMIT accepted (07 R147). -/
def State.setLimit (s : State) (n : Fin 8) (limit : Nat) : State :=
  let t := s.modBranch n (fun b => { b with limit := limit })
  if limit = s.branches[n].limit then t else t.ordinary

/-- The base field of SET REGULATION (07 R151), the base already clamped. -/
def State.setBase (s : State) (n : Fin 8) (base : Nat) : State :=
  let t := s.modBranch n (fun b => { b with base := base })
  t.modDrive n (fun d => d.storeTarget (if s.branches[n].overdrawn then min d.target base else base))

end Sys2Proof.Machine
end

