-- ==== Sys2Proof/Machine/Plant.lean ====
section
/-! DEFINITION. The Plant Offer Unit: offers, the trip qualifier and the trip latch (04), and the pass scheduling events of
the Allotment Engine that are no publication (02 sections 2.1, 2.2, 2.4). -/

namespace Sys2Proof.Machine

/-! ## Scheduling -/

/-- An interval tick (02 R31, R35): the counter restarts, and a pass is wanted when pending or ramp-unfinished is set, or
when pending was set at the publication of the same moment, whose rerun pass took it (12 R209 row 1; DESIGN CHOICE of what
one moment is: assumption log 36). -/
def State.intervalTick (s : State) : State :=
  let t := { s with engine := { s.engine with counter := 0 } }.notePendTaken false
  if s.engine.pend || s.engine.rampUnfinished || s.now.pendTaken then t.startOrRerun else t

/-- A pass in flight abandoned (02 R41). -/
def State.abandon (s : State) : State :=
  { s with engine := { s.engine with snap := none, passMs := 0, abandoned := wrapSucc16 s.engine.abandoned } }.raise
    .passAbandoned

/-- A trip assertion at the engine (02 R31, R41). -/
def State.tripAssertion (s : State) : State := (if s.computing then s.abandon else s).snapshot

/-- A pass trigger by comparison of a new offer with the one it replaces (04 R76, R78). -/
def State.offerTrigger (s : State) (old new : Nat) : State :=
  if new < old then s.wantPass else if old < new then s.ordinary else s

/-! ## The trip qualifier -/

/-- A qualified assertion (04 R81). -/
def State.assertTrip (s : State) : State :=
  let t := { s with plant := { s.plant with level := true, raw := true, run := 0, latch := true } }
  (t.raise .trip).tripAssertion

/-- A qualified deassertion (04 R82). -/
def State.deassertTrip (s : State) : State :=
  { s with plant := { s.plant with level := false, raw := false, run := 0 } }

/-- One sample of the raw TRIP input (04 R80). -/
def State.sampleTrip (s : State) (asserted : Bool) : State :=
  if asserted = s.plant.level then { s with plant := { s.plant with raw := asserted, run := 0 } }
  else if s.plant.run + 1 < Config.qualifySamples then
    { s with plant := { s.plant with raw := asserted, run := s.plant.run + 1 } }
  else if asserted then s.assertTrip
  else s.deassertTrip

/-! ## Offers -/

/-- The plant offer replaced (04 R76), already clamped. -/
def State.setOffer (s : State) (v : Nat) : State :=
  { s with plant := { s.plant with offer := v } }.offerTrigger s.plant.offer v

/-- The emergency offer replaced (04 R78), already clamped. -/
def State.setEmergency (s : State) (v : Nat) : State :=
  { s with plant := { s.plant with emergency := v } }.offerTrigger s.plant.emergency v

/-- The trip latch cleared (04 R83). -/
def State.clearLatch (s : State) : State := { s with plant := { s.plant with latch := false } }.wantPass

end Sys2Proof.Machine
end

