-- ==== Sys2Proof/Machine/Images.lean ====
section
/-! DEFINITION. The read data of every read command, byte by byte (11 sections 11.2 and 11.3). -/

namespace Sys2Proof.Machine

/-! ## Codes -/

/-- State byte of a record (11 R205). -/
def ConnState.code : ConnState → Nat
  | .vacant => 0 | .pending => 1 | .active => 2 | .suspended => 3 | .retiring => 4

/-- Drop state byte (11 R205). -/
def DropState.code : DropState → Nat
  | .joining => 0 | .live => 1 | .silent => 2

/-- Origin byte (11 R205). -/
def Origin.code : Origin → Nat
  | .create => 0 | .add => 1

/-- Line state byte (11 R207). -/
def LineState.code : LineState → Nat
  | .down => 0 | .ready => 1 | .polling => 2 | .loopback => 3 | .faulted => 4

/-- Line mode byte (11 R207). -/
def LineMode.code : LineMode → Nat
  | .normal => 0 | .loopback => 1

/-- Exchange phase byte (11 R207). -/
def LinePhase.code : LinePhase → Nat
  | .none => 0 | .sending => 1 | .awaiting => 2 | .receiving => 3 | .spacing => 4

/-- Gate state byte (11 R207). -/
def GateState.code : GateState → Nat
  | .shut => 0 | .armed => 1 | .counting => 2 | .totalizing => 3

/-- Drive state byte (11 R207). -/
def DriveState.code : DriveState → Nat
  | .unhomed => 0 | .homing => 1 | .idle => 2 | .moving => 3 | .fault => 4

/-- Fault reason byte (11 R207). -/
def FaultReason.code : FaultReason → Nat
  | .none => 0 | .stall => 1 | .encoder => 2 | .homeLimit => 3

/-- Excitation byte (11 R207). -/
def Excitation.code : Excitation → Nat
  | .wave => 0 | .twoPhase => 1 | .half => 2

/-- Result byte (11 R206). -/
def Result.code : Result → Nat
  | .ok => 0 | .clamped => 1 | .incomplete => 2 | .badCommand => 3 | .badId => 4 | .badParam => 5 | .badState => 6
  | .occupied => 7 | .dropInUse => 8 | .dropPoolFull => 9

/-! ## Record and drop images (11 R205) -/

/-- The addresses of the record image: three bytes, 0 where unused. -/
def addrImage (ds : List Drop) : List Byte :=
  b1 ((ds.map (·.addr)).getD 0 0) ++ b1 ((ds.map (·.addr)).getD 1 0) ++ b1 ((ds.map (·.addr)).getD 2 0)

/-- The 30-byte image of a record with its drop list. -/
def recordImage (id : Fin 96) (c : Conn) (ds : List Drop) : List Byte :=
  b1 id ++ b1 c.state.code ++ b1 c.gen ++ b1 c.line ++ b1 c.cls ++ b1 c.effClass ++
  flags [c.hold.isSome, c.fallback.isSome, c.lowDt, c.curtailed, c.ramp, c.expired, c.moved] ++
  flags [c.comms, c.lineCause, c.supervisor] ++
  b2 c.sub ++ b1 c.dt ++ b2 c.maxFlow ++ b2 (optImage c.fallback) ++ b2 (optImage c.hold) ++
  b2 c.demand ++ b2 c.granted ++ b2 c.ceiling ++ b1 c.score ++ b1 ds.length ++ addrImage ds ++ b2 c.holdLeft

/-- The record image of an id (01 R27). -/
def State.connImage (s : State) (id : Fin 96) : List Byte := recordImage id s.conns[id] (s.dropsOf id)

/-- The 20-byte image of a slot in use, with its connection's generation. -/
def dropImage (d : Drop) (gen : Nat) : List Byte :=
  b1 d.conn ++ b1 gen ++ b1 d.state.code ++ b1 d.origin.code ++ b1 d.missed ++ b2 d.demand ++ i2 d.supply ++ i2 d.ret ++
  b2 d.flow ++ b1 d.valve ++ flags [d.localOverride, d.sensorFault] ++ flags [d.stale, d.closed] ++ b2 d.share ++
  b1 d.closePolls ++ b1 0

/-- The drop image at an address of a line: id 255 and zeros when no slot is in use there (01 R28). -/
def State.dropImageAt (s : State) (l : Fin 8) (addr : Nat) : List Byte :=
  match s.findDrop l addr with
  | some d => dropImage d s.conns[d.conn].gen
  | none => b1 255 ++ List.replicate 19 0

/-! ## Status reads (11 R206) -/

/-- READ PASS STATUS (02 R56). -/
def State.passStatus (s : State) : List Byte :=
  let e := s.engine
  flags [s.computing] ++ flags [e.pend, e.rerun, e.rampUnfinished, e.overcommit] ++ b2 e.passCount ++ b2 e.abandoned ++
  b3 e.headroom ++ b1 e.snapCount ++ b1 e.skipped ++ b1 e.curtail.length ++ b1 e.interval ++ b1 e.rampPct ++
  b2 e.deadband ++ b1 (e.interval - e.counter)

/-- One entry of READ CURTAILMENT LIST. -/
def CurtailEntry.image (e : CurtailEntry) : List Byte := b1 e.id ++ b1 e.cls ++ b2 e.pass

/-- READ CURTAILMENT LIST (03 R63). -/
def State.curtailImage (s : State) : List Byte :=
  b1 s.engine.curtail.length ++ (s.engine.curtail.map CurtailEntry.image).flatten

/-- READ PLANT (04 R85). -/
def State.plantImage (s : State) : List Byte :=
  let p := s.plant
  b3 p.offer ++ b3 p.emergency ++ i2 p.setpoint ++ flags [p.latch, p.level, p.raw, s.engine.overcommit] ++
  b3 s.effectiveOffer ++ b3 p.snapOffer ++ b3 s.engine.headroom

/-- The unit sets of a group's three causes, one byte each. -/
def Attention.unitBytes (a : Attention) (g : Fin 6) : List Byte :=
  ((groupCauses g).map a.unitsOf ++ [0, 0, 0]).take 3

/-- The part of READ ATTENTION that depends on the selected group. -/
def Attention.groupImage (a : Attention) : List Byte :=
  match a.selected with
  | some g => b1 g ++ b1 a.levels[g] ++ b1 (a.mask g) ++ a.unitBytes g
  | none => b1 255 ++ b1 0 ++ b1 0 ++ b3 0

/-- READ ATTENTION (10 R198). -/
def Attention.image (a : Attention) : List Byte :=
  a.groupImage ++ flags ((List.finRange 6).map a.groupPending) ++ b1 a.threshold ++ flags [a.atn]

/-- Byte j of READ CHANGED SET: id 8j in its most significant bit (11 R206). -/
def changedByte (set : BitVec 96) (j : Nat) : Byte :=
  BitVec.ofNat 8 ((List.range 8).foldl (fun acc i => 2 * acc + (if set.getLsbD (8 * j + i) then 1 else 0)) 0)

/-- READ CHANGED SET (10 R202). -/
def changedImage (set : BitVec 96) : List Byte := (List.range 12).map (changedByte set)

/-! ## Lines, branches and drives (11 R207) -/

/-- READ LINE (05 R109). -/
def State.lineImage (s : State) (l : Fin 8) : List Byte :=
  let x := s.lines[l]
  b1 x.state.code ++ flags [x.stop, x.latch] ++ b1 x.rate ++ b2 x.spacing ++ b2 x.timeout ++ b1 x.mode.code ++
  b1 x.phase.code ++ b1 x.polled ++ b1 x.walk ++ b2 x.rounds ++ b1 (s.lineDrops l).length ++ b1 x.bad ++
  b2 x.crcCount ++ b2 x.brokenCount ++ b2 x.strayCount ++ b2 x.lateCount ++ b2 x.loopGood ++ b2 x.loopBad

/-- The 32-bit total of a cascaded even branch, otherwise 0 (07 R145, R153). -/
def State.total (s : State) (n : Fin 8) : Nat :=
  if isEven n && s.branches[n].cascade then s.branches[partner n].live * 65536 + s.branches[n].live else 0

/-- READ BRANCH (07 R153). -/
def State.branchImage (s : State) (n : Fin 8) : List Byte :=
  let b := s.branches[n]
  b1 b.mode.code ++ b1 b.gate.code ++
  flags [b.gate != .shut, b.divider, b.liveOver, b.lastOver, b.flowValid, b.cascade, b.overdrawn, b.limited] ++
  b1 b.elapsed ++ b2 b.k ++ b1 b.prescale ++ b2 b.live ++ b2 b.last ++ b2 b.flow ++ b4 (s.total n) ++ b1 b.overRun ++
  b2 b.base ++ b1 b.trim ++ b2 b.limit ++ b2 b.stranded

/-- The deviation as READ VALVE reports it: 0 while the position is unknown, saturating (08 R174, 11 R207). -/
def Drive.reported (d : Drive) : Int := if d.known then clampInt (-8388608) 8388607 d.deviation else 0

/-- READ VALVE (08 R174). -/
def Drive.image (d : Drive) : List Byte :=
  b1 d.state.code ++ b1 d.reason.code ++ b2 d.position ++ flags [d.known, d.coils, d.homeSample] ++ b2 d.target ++
  b1 d.phase ++ i3 d.encoder ++ i3 d.reported ++ b2 d.homingSteps ++ b2 d.travel ++ b1 d.excitation.code ++ b2 d.rate ++
  b1 d.ratio ++ b1 d.tolerance

end Sys2Proof.Machine
end

