-- ==== Sys2Proof/Machine/Whole.lean ====
section
/-! DEFINITION. The whole commands: the checks and the effect of each in the event of its last parameter byte
(09 R183). Each answers the state and the result code; a refused command answers the state as it was. -/

namespace Sys2Proof.Machine

/-- The connection an id byte names; BAD_ID above 95. -/
def withId (s : State) (n : Nat) (k : Fin 96 → State × Result) : State × Result :=
  if h : n < 96 then k ⟨n, h⟩ else (s, .badId)

/-- The line, branch or drive a byte names; BAD_PARAM above 7. -/
def withUnit (s : State) (n : Nat) (k : Fin 8 → State × Result) : State × Result :=
  if h : n < 8 then k ⟨n, h⟩ else (s, .badParam)

/-- CLAMPED when some value was brought into its range (09 R187). -/
def clampResult (clamped : Bool) : Result := if clamped then .clamped else .ok

/-- VACANT and RETIRING records refuse the lifecycle commands with BAD_STATE (01 section 1.9, table). -/
def Conn.refuses (c : Conn) : Bool := c.state == .vacant || c.state == .retiring

/-! ## Connections -/

/-- An address outside 1-30. -/
def badAddr (a : Nat) : Bool := a < 1 || 30 < a

/-- The addresses of CREATE CONNECTION. -/
def createAddrs (a : List Byte) : List Nat := (a.drop 11).map (·.toNat)

/-- The checks of CREATE CONNECTION after the id and the line are known to be numbers (01 R11). -/
def createRefused (s : State) (a : List Byte) (id : Fin 96) : Option Result :=
  if s.conns[id].state ≠ .vacant then some .occupied
  else if 7 < arg a 1 ∨ 2 < arg a 2 ∨ (createAddrs a).any badAddr ∨ ¬ (createAddrs a).Nodup then some .badParam
  else if (createAddrs a).any (fun x => s.drops.any (fun d => d.line.val == arg a 1 && d.addr == x)) then some .dropInUse
  else if s.freeSlots < (createAddrs a).length then some .dropPoolFull
  else none

/-- The fallback flow of a command: 65535 is absent, any other value is lowered to M (01 R12, R24). -/
def fallbackField (v m : Nat) : Option Nat := (optField v).map (fun f => min f m)

/-- The record CREATE CONNECTION makes (01 R12). -/
def createRecord (a : List Byte) (l : Fin 8) (gen : Nat) : Conn :=
  let m := clampNat 1 20000 (arg2 a 6)
  { Conn.vacant ((gen + 1) % 256) with
    state := .pending, line := l, cls := arg a 2, sub := clampNat 50 30000 (arg2 a 3), dt := clampNat 40 120 (arg a 5)
    maxFlow := m, fallback := fallbackField (arg2 a 8) m }

/-- Some value of CREATE CONNECTION was clamped or lowered (01 R12). -/
def createClamped (a : List Byte) : Bool :=
  let c := createRecord a 0 0
  c.sub != arg2 a 3 || c.dt != arg a 5 || c.maxFlow != arg2 a 6 || c.fallback != optField (arg2 a 8)

/-- The effect of an accepted CREATE CONNECTION (01 R12). -/
def State.create (s : State) (a : List Byte) (id : Fin 96) (l : Fin 8) : State :=
  let t := s.modConn id (fun c => createRecord a l c.gen)
  let t := (createAddrs a).foldl (fun t x => t.takeSlot (Drop.fresh l x id .create)) t
  t.reportChange id

/-- CREATE CONNECTION (01 R11, R12). -/
def doCreateConnection (a : List Byte) (s : State) : State × Result :=
  withId s (arg a 0) fun id =>
    match createRefused s a id with
    | some r => (s, r)
    | none => withUnit s (arg a 1) fun l => (s.create a id l, clampResult (createClamped a))

/-- SUSPEND on one record (01 R17). -/
def State.suspendConn (s : State) (id : Fin 96) : State :=
  match s.conns[id].state with
  | .active => s.gainCause id .supervisor
  | .suspended =>
    if s.conns[id].supervisor then s
    else
      let t := s.modConn id (fun c => { c.addCause .supervisor with moved := true })
      if s.conns[id].expired then t else t.expireHold id
  | _ => s

/-- SUSPEND (01 R17). -/
def doSuspend (a : List Byte) (s : State) : State × Result :=
  withId s (arg a 0) fun id =>
    if s.conns[id].taken then (s.suspendConn id, .ok) else (s, .badState)

/-- RESUME (01 R19). -/
def doResume (a : List Byte) (s : State) : State × Result :=
  withId s (arg a 0) fun id =>
    if s.conns[id].state = .suspended then
      (if s.conns[id].supervisor then s.loseCause id .supervisor else s, .ok)
    else (s, .badState)

/-- RETIRE CONNECTION (01 R20). -/
def doRetireConnection (a : List Byte) (s : State) : State × Result :=
  withId s (arg a 0) fun id =>
    if s.conns[id].refuses then (s, .badState) else (s.retire id, .ok)

/-- The effect of an accepted ADD DROP (01 R25). -/
def State.addDropTo (s : State) (id : Fin 96) (addr : Nat) : State :=
  let t := s.takeSlot (Drop.fresh s.conns[id].line addr id .add)
  (t.recompute id s.conns[id].state).enterChanged id

/-- ADD DROP (01 R25). -/
def doAddDrop (a : List Byte) (s : State) : State × Result :=
  withId s (arg a 0) fun id =>
    if s.conns[id].refuses then (s, .badState)
    else if badAddr (arg a 1) || 3 ≤ (s.dropsOf id).length then (s, .badParam)
    else if (s.findDrop s.conns[id].line (arg a 1)).isSome then (s, .dropInUse)
    else if s.freeSlots = 0 then (s, .dropPoolFull)
    else (s.addDropTo id (arg a 1), .ok)

/-- The effect of an accepted REMOVE DROP, in the order of 01 R26 (assumption log 11). -/
def State.removeDropFrom (s : State) (id : Fin 96) (d : Drop) : State :=
  let noted := s.conns[id].state
  let t := (s.freeSlot d.line d.addr).cutExchange d.line d.addr
  let t := t.recompute id t.conns[id].state
  let t := if d.state = .silent then t.testComms id else t
  let t := t.testService id
  let t :=
    if noted = .active ∨ noted = .suspended then (t.modConn id (fun c => { c with moved := true })).ordinary else t
  t.enterChanged id

/-- REMOVE DROP (01 R26). -/
def doRemoveDrop (a : List Byte) (s : State) : State × Result :=
  withId s (arg a 0) fun id =>
    if s.conns[id].refuses then (s, .badState)
    else
      match (s.dropsOf id).find? (fun d => d.addr == arg a 1) with
      | none => (s, .badParam)
      | some d => if (s.dropsOf id).length ≤ 1 then (s, .badState) else (s.removeDropFrom id d, .ok)

/-- SET STREAM POINTER (09 R189). -/
def doSetStreamPointer (a : List Byte) (s : State) : State × Result :=
  withId s (arg a 0) fun id => ({ s with port := { s.port with pointer := id } }, .ok)

/-! ## The engine and the plant -/

/-- RUN PASS (02 R36). -/
def doRunPass (s : State) : State × Result := (s.wantPass, .ok)

/-- SET DEMOTE THRESHOLD (03 R70). -/
def doSetDemoteThreshold (a : List Byte) (s : State) : State × Result :=
  ({ s with demote := max 1 (arg a 0) }, clampResult (arg a 0 == 0))

/-- CLEAR SHORTFALL (03 R71). -/
def doClearShortfall (a : List Byte) (s : State) : State × Result :=
  withId s (arg a 0) fun id =>
    if s.conns[id].refuses then (s, .badState) else (s.clearStanding id, .ok)

/-- SET EMERGENCY OFFER (04 R78). -/
def doSetEmergencyOffer (a : List Byte) (s : State) : State × Result :=
  (s.setEmergency (min 400000 (arg3 a 0)), clampResult (400000 < arg3 a 0))

/-- CLEAR TRIP (04 R83). -/
def doClearTrip (s : State) : State × Result :=
  if s.plant.level then (s, .badState) else (s.clearLatch, .ok)

/-! ## Lines -/

/-- LINE INIT on one line (05 R89). -/
def Line.init (x : Line) (rate spacing timeout : Nat) (mode : LineMode) : Line :=
  { x with rate := rate, spacing := clampNat 20 1000 spacing, timeout := clampNat 5 500 timeout, mode := mode,
           state := .ready }

/-- LINE INIT (05 R89). DESIGN CHOICE: the parameters are checked before the line's state (assumption log 32). -/
def doLineInit (a : List Byte) (s : State) : State × Result :=
  withUnit s (arg a 0) fun l =>
    if 4 < arg a 1 || 1 < arg a 6 then (s, .badParam)
    else if s.lines[l].state = .down ∨ s.lines[l].state = .ready then
      let x := s.lines[l].init (arg a 1) (arg2 a 2) (arg2 a 4) (if arg a 6 = 0 then .normal else .loopback)
      (s.modLine l (fun _ => x), clampResult (x.spacing != arg2 a 2 || x.timeout != arg2 a 4))
    else (s, .badState)

/-- START LINE (05 R90). -/
def doStartLine (a : List Byte) (s : State) : State × Result :=
  withUnit s (arg a 0) fun l =>
    if s.lines[l].state = .ready ∨ s.lines[l].state = .faulted then (s.startLine l, .ok) else (s, .badState)

/-- STOP LINE (05 R91). -/
def doStopLine (a : List Byte) (s : State) : State × Result :=
  withUnit s (arg a 0) fun l =>
    if s.lines[l].state = .down ∨ s.lines[l].state = .ready then (s, .badState) else (s.stopLine l, .ok)

/-- LINE RESET (05 R92). -/
def doLineReset (a : List Byte) (s : State) : State × Result :=
  withUnit s (arg a 0) fun l => (s.resetLine l, .ok)

/-- CLEAR LINE ERRORS on one line (05 R108). -/
def Line.clearErrors (x : Line) : Line :=
  { x with crcCount := 0, brokenCount := 0, strayCount := 0, lateCount := 0, loopGood := 0, loopBad := 0, latch := false,
           bad := 0 }

/-- CLEAR LINE ERRORS (05 R108). -/
def doClearLineErrors (a : List Byte) (s : State) : State × Result :=
  withUnit s (arg a 0) fun l => (s.modLine l Line.clearErrors, .ok)

/-- SET COMMS HOLD (06 R125). -/
def doSetCommsHold (a : List Byte) (s : State) : State × Result :=
  ({ s with holdSetting := clampNat 10 600 (arg2 a 0) }, clampResult (clampNat 10 600 (arg2 a 0) != arg2 a 0))

/-! ## Branches and drives -/

/-- SET METER (07 R136). -/
def doSetMeter (a : List Byte) (s : State) : State × Result :=
  withUnit s (arg a 0) fun n =>
    if arg a 3 ≠ 1 ∧ arg a 3 ≠ 2 then (s, .badParam)
    else
      match gateModeOf (arg a 4) with
      | none => (s, .badParam)
      | some mode =>
        if s.consumed n then (s, .badState)
        else (s.setMeter n (max 1 (arg2 a 1)) (arg a 3) mode, clampResult (arg2 a 1 == 0))

/-- SET BRANCH LIMIT (07 R147). -/
def doSetBranchLimit (a : List Byte) (s : State) : State × Result :=
  withUnit s (arg a 0) fun n => (s.setLimit n (arg2 a 1), .ok)

/-- SET CASCADE (07 R143, R144, R146). -/
def doSetCascade (a : List Byte) (s : State) : State × Result :=
  withUnit s (arg a 0) fun n =>
    if !isEven n then (s, .badParam)
    else if 1 < arg a 1 then (s, .badParam)
    else if arg a 1 = 1 then
      if s.branches[n].mode = .openGate then (s.startCascade n, .ok) else (s, .badState)
    else if s.branches[n].cascade then (s.endCascade n, .ok)
    else (s, .ok)

/-- The excitation of a byte (08 section 8.2). -/
def excitationOf : Nat → Option Excitation
  | 0 => some .wave | 1 => some .twoPhase | 2 => some .half | _ => none

/-- The configuration of SET VALVE DRIVE, clamped (08 R157). -/
def driveConfig (a : List Byte) (e : Excitation) : DriveConfig :=
  { travel := clampNat 400 8000 (arg2 a 1), excitation := e, rate := clampNat 50 800 (arg2 a 4),
    ratio := clampNat 1 16 (arg a 6), tolerance := clampNat 4 255 (arg a 7) }

/-- Some value of SET VALVE DRIVE was clamped (08 R157). -/
def driveClamped (a : List Byte) (g : DriveConfig) : Bool :=
  g.travel != arg2 a 1 || g.rate != arg2 a 4 || g.ratio != arg a 6 || g.tolerance != arg a 7

/-- SET VALVE DRIVE (08 R157, R158). -/
def doSetValveDrive (a : List Byte) (s : State) : State × Result :=
  withUnit s (arg a 0) fun n =>
    match excitationOf (arg a 3) with
    | none => (s, .badParam)
    | some e => (s.configureDrive n (driveConfig a e), clampResult (driveClamped a (driveConfig a e)))

/-- HOME VALVE (08 R168), with the level of the home switch. -/
def doHomeValve (a : List Byte) (home : Bool) (s : State) : State × Result :=
  withUnit s (arg a 0) fun n => (s.homeValve n home, .ok)

/-! ## Attention -/

/-- The group a byte names; BAD_PARAM above 5 (10 R197, R199). -/
def withGroup (s : State) (n : Nat) (k : Fin 6 → State × Result) : State × Result :=
  if h : n < 6 then k ⟨n, h⟩ else (s, .badParam)

/-- The causes of a group that a mask byte names (10 R199). -/
def maskCauses (g : Fin 6) (mask : Byte) : List Cause :=
  ((groupCauses g).zipIdx.filter (fun ci => mask.getLsbD ci.2)).map (·.1)

/-- ACK ATTENTION (10 R199). -/
def doAckAttention (a : List Byte) (s : State) : State × Result :=
  withGroup s (arg a 0) fun g =>
    ({ s with att := (maskCauses g (a.getD 1 0)).foldl Attention.clear s.att }, .ok)

/-- SET GROUP LEVEL (10 R197). -/
def doSetGroupLevel (a : List Byte) (s : State) : State × Result :=
  withGroup s (arg a 0) fun g =>
    ({ s with att := { s.att with levels := s.att.levels.set g (min 7 (arg a 1)) } }, clampResult (7 < arg a 1))

/-- SET THRESHOLD (10 R197). -/
def doSetThreshold (a : List Byte) (s : State) : State × Result :=
  ({ s with att := { s.att with threshold := min 7 (arg a 0) } }, clampResult (7 < arg a 0))

end Sys2Proof.Machine
end

