-- ==== Sys2Proof/Machine/Field.lean ====
section
/-! DEFINITION. The field commands: what each field does when its last byte arrives (09 R184). -/

namespace Sys2Proof.Machine

/-- How a field leaves the command: applied, with whether it was clamped; or refused. -/
inductive FieldEnd
  | applied (clamped : Bool)
  | refused (r : Result)
deriving DecidableEq, Repr

/-- An id or a branch accepted as the command's target. -/
def State.setTarget (s : State) (n : Nat) : State := { s with port := { s.port with target := n } }

/-- What every applied field of EDIT CONNECTION does besides its value (01 R23). -/
def State.edited (s : State) (id : Fin 96) (f : Conn → Conn) : State :=
  (s.modConn id (fun c => { f c with moved := true })).ordinary

/-- The id field of EDIT CONNECTION (01 R22). -/
def editId (n : Nat) (s : State) : State × FieldEnd :=
  if h : n < 96 then
    if s.conns[n].refuses then (s, .refused .badState) else (s.setTarget n, .applied false)
  else (s, .refused .badId)

/-- The class field (01 R22, R23). -/
def editClass (id : Fin 96) (v : Nat) (s : State) : State × FieldEnd :=
  if 2 < v then (s, .refused .badParam) else (s.edited id (fun c => { c with cls := v }), .applied false)

/-- The S field (01 R23). -/
def editSub (id : Fin 96) (v : Nat) (s : State) : State × FieldEnd :=
  let w := clampNat 50 30000 v
  (s.edited id (fun c => { c with sub := w, granted := min c.granted w }), .applied (w != v))

/-- The c field (01 R23). -/
def editDt (id : Fin 96) (v : Nat) (s : State) : State × FieldEnd :=
  let w := clampNat 40 120 v
  (s.edited id (fun c => { c with dt := w }), .applied (w != v))

/-- The sum of the shares of a connection's drops. -/
def shareSum (ds : List Drop) : Nat := (ds.map (·.share)).sum

/-- The shares scaled so that they sum to M or less (01 R24). -/
def State.scaleShares (s : State) (id : Fin 96) (m : Nat) : State :=
  if m < shareSum (s.dropsOf id) then
    s.modDropsOf id (fun d => { d with share := d.share * m / shareSum (s.dropsOf id) })
  else s

/-- The M field (01 R24). -/
def editMax (id : Fin 96) (v : Nat) (s : State) : State × FieldEnd :=
  let w := clampNat 1 20000 v
  ((s.edited id (fun c => { c with
      maxFlow := w, fallback := c.fallback.map (fun f => min f w), ceiling := min c.ceiling w })).scaleShares id w,
   .applied (w != v))

/-- The fallback field (01 R24). -/
def editFallback (id : Fin 96) (v : Nat) (s : State) : State × FieldEnd :=
  let f := fallbackField v s.conns[id].maxFlow
  (s.edited id (fun c => { c with fallback := f }), .applied (f != optField v))

/-- The hold field (01 R24, 03 R61). -/
def editHold (id : Fin 96) (v : Nat) (s : State) : State × FieldEnd :=
  let t := s.edited id (fun c => { c with hold := optField v })
  if s.conns[id].state = .active ∧ v ≠ 65535 then
    ((t.modConn id (fun c => { c with curtailed := false, ramp := false })).leaveList id, .applied false)
  else (t, .applied false)

/-- The target of an open EDIT CONNECTION. -/
def State.editTarget (s : State) : Fin 96 := Fin.ofNat 96 s.port.target

/-- EDIT CONNECTION at parameter position `pos` with the bytes of the field in progress: none inside a field (01 R22). -/
def editField (pos : Nat) (f : List Byte) (s : State) : Option (State × FieldEnd) :=
  match pos with
  | 1 => some (editId (arg f 0) s)
  | 2 => some (editClass s.editTarget (arg f 0) s)
  | 4 => some (editSub s.editTarget (arg2 f 0) s)
  | 5 => some (editDt s.editTarget (arg f 0) s)
  | 7 => some (editMax s.editTarget (arg2 f 0) s)
  | 9 => some (editFallback s.editTarget (arg2 f 0) s)
  | 11 => some (editHold s.editTarget (arg2 f 0) s)
  | _ => none

/-- The interval field of SET PASS PARAMETERS: the counter restarts (02 R37). -/
def passInterval (v : Nat) (s : State) : State × FieldEnd :=
  let w := clampNat 1 60 v
  ({ s with engine := { s.engine with interval := w, counter := 0 } }, .applied (w != v))

/-- The ramp percent field (02 R37). -/
def passRamp (v : Nat) (s : State) : State × FieldEnd :=
  let w := clampNat 1 100 v
  ({ s with engine := { s.engine with rampPct := w } }, .applied (w != v))

/-- The deadband field (02 R37). -/
def passDeadband (v : Nat) (s : State) : State × FieldEnd :=
  let w := min 1000 v
  ({ s with engine := { s.engine with deadband := w } }, .applied (w != v))

/-- SET PASS PARAMETERS (02 R37). -/
def passField (pos : Nat) (f : List Byte) (s : State) : Option (State × FieldEnd) :=
  match pos with
  | 1 => some (passInterval (arg f 0) s)
  | 2 => some (passRamp (arg f 0) s)
  | 4 => some (passDeadband (arg2 f 0) s)
  | _ => none

/-- The setpoint field of SET PLANT OFFER (04 R77). -/
def offerSetpoint (v : Int) (s : State) : State × FieldEnd :=
  let w := clampInt (-100) 600 v
  ({ s with plant := { s.plant with setpoint := w } }, .applied (w != v))

/-- SET PLANT OFFER (04 R75, R76, R77). -/
def offerField (pos : Nat) (f : List Byte) (s : State) : Option (State × FieldEnd) :=
  match pos with
  | 3 => some (s.setOffer (min 400000 (arg3 f 0)), .applied (400000 < arg3 f 0))
  | 5 => some (offerSetpoint (signed16 (arg2 f 0)) s)
  | _ => none

/-- The branch an open SET REGULATION acts on. -/
def State.regTarget (s : State) : Fin 8 := Fin.ofNat 8 s.port.target

/-- The branch field of SET REGULATION (07 R151). -/
def regBranch (n : Nat) (s : State) : State × FieldEnd :=
  if 7 < n then (s, .refused .badParam) else (s.setTarget n, .applied false)

/-- The base field (07 R151). -/
def regBase (n : Fin 8) (v : Nat) (s : State) : State × FieldEnd :=
  let w := min s.drives[n].travel v
  (s.setBase n w, .applied (w != v))

/-- The trim field (07 R151). -/
def regTrim (n : Fin 8) (v : Nat) (s : State) : State × FieldEnd :=
  let w := max 1 v
  (s.modBranch n (fun b => { b with trim := w }), .applied (w != v))

/-- SET REGULATION (07 R151). -/
def regField (pos : Nat) (f : List Byte) (s : State) : Option (State × FieldEnd) :=
  match pos with
  | 1 => some (regBranch (arg f 0) s)
  | 3 => some (regBase s.regTarget (arg2 f 0) s)
  | 4 => some (regTrim s.regTarget (arg f 0) s)
  | _ => none

/-- The field that a field command completes at a parameter position, if any. -/
def fieldOf (c : Cmd) (pos : Nat) (f : List Byte) (s : State) : Option (State × FieldEnd) :=
  match c with
  | .editConnection => editField pos f s
  | .setPassParameters => passField pos f s
  | .setPlantOffer => offerField pos f s
  | .setRegulation => regField pos f s
  | _ => none

end Sys2Proof.Machine
end

