-- ==== Sys2Proof/Machine/Port.lean ====
section
/-! DEFINITION. The Supervisory Port: the byte assembler, the command state, read data and SDO (09). -/

namespace Sys2Proof.Machine

/-- The port record changed. -/
def State.modPort (s : State) (f : Port → Port) : State := { s with port := f s.port }

/-- The port takes SCK edges: SEL is low and has been seen high since reset release (09 R176, R193). -/
def Port.listening (p : Port) : Bool := p.selLow && p.seenHigh

/-! ## Read data -/

/-- The checks of a read at its entry to DATA (09 R185 and the owning rules). -/
def readCheck (c : Cmd) (a : List Byte) : Result :=
  match c with
  | .readConnection => if arg a 0 < 96 then .ok else .badId
  | .readDrop => if 7 < arg a 0 || badAddr (arg a 1) then .badParam else .ok
  | .readLine | .readBranch | .readValve => if arg a 0 < 8 then .ok else .badParam
  | _ => .ok

/-- The read data of a command with its parameter bytes, as it stands now (11 R205 to R207). -/
def State.readData (s : State) (c : Cmd) (a : List Byte) : List Byte :=
  match c with
  | .readResult => b1 s.port.result.code
  | .readConnection => s.connImage (Fin.ofNat 96 (arg a 0))
  | .readDrop => s.dropImageAt (Fin.ofNat 8 (arg a 0)) (arg a 1)
  | .streamReadTable => s.connImage s.port.pointer
  | .readPassStatus => s.passStatus
  | .readCurtailmentList => s.curtailImage
  | .readPlant => s.plantImage
  | .readLine => s.lineImage (Fin.ofNat 8 (arg a 0))
  | .readBranch => s.branchImage (Fin.ofNat 8 (arg a 0))
  | .readValve => s.drives[Fin.ofNat 8 (arg a 0)].image
  | .readAttention => s.att.image
  | .readChangedSet => changedImage s.att.changed
  | _ => []

/-- The place of the byte due out within the captured data: a stream captures one image at a time (09 R190). -/
def Port.outIndex (p : Port) : Nat :=
  if p.cmd = some .streamReadTable then (p.outPos - 1) % Config.imageBytes else p.outPos - 1

/-- The byte due out in the byte period under way: 00 outside DATA, in the dummy byte, of a refused read and beyond the
data (09 R185, R186). -/
def Port.outByte (p : Port) : Byte :=
  if p.phase = .data ∧ p.readOk ∧ 1 ≤ p.outPos then (p.captured.getD []).getD p.outIndex 0 else 0

/-- The byte due out is the first of its data and no capture is held yet (09 R186). -/
def Port.captureDue (p : Port) : Bool := p.phase == .data && p.readOk && 1 ≤ p.outPos && p.captured.isNone

/-- The read data captured whole; READ CHANGED SET empties the live set in the same event (09 R186, 10 R202). -/
def State.capture (s : State) : State :=
  match s.port.cmd with
  | none => s
  | some .readChangedSet =>
    { s with
      port := { s.port with captured := some (changedImage s.att.changed), held := some s.att.changed }
      att := { s.att with changed := 0 } }
  | some c => s.modPort (fun p => { p with captured := some (s.readData c s.port.field) })

/-- The most significant bit of the byte due out placed, with the capture this may be (09 R186). -/
def State.placeMsb (s : State) : State :=
  if s.port.msb then s
  else (if s.port.captureDue then s.capture else s).modPort (fun p => { p with msb := true })

/-- SDO carries the bit of the byte due out that follows the bits already exchanged (09 R186). -/
def State.driveSdo (s : State) : State :=
  s.modPort (fun p => { p with sdo := some (p.outByte.getLsbD (7 - p.bitCount)) })

/-- A byte completed: every bit of the byte due out has gone out, and the assembler is empty (09 R177, R186). -/
def State.byteDone (s : State) : State :=
  s.placeMsb.modPort (fun p =>
    { p with lastOut := p.outByte, sdo := some (p.outByte.getLsbD 0), bitCount := 0, bits := 0, msb := false })

/-! ## The command record -/

/-- No command open (09 R180). -/
def Port.close (p : Port) : Port :=
  { p with phase := .idle, cmd := none, pos := 0, field := [], target := 0, clamped := false, readOk := false, outPos := 0,
           captured := none, held := none }

/-- A command closed with its result (09 R187). -/
def State.closeWith (s : State) (r : Result) : State := s.modPort (fun p => { p.close with result := r })

/-- What READ CHANGED SET captured and did not deliver goes back into the live set (10 R202). -/
def State.returnHeld (s : State) : State :=
  { s with att := { s.att with changed := s.att.changed ||| s.port.held.getD 0 } }

/-- A command byte ends the open command (09 R181). -/
def State.endOpen (s : State) : State :=
  match s.port.phase with
  | .idle => s
  | .collecting => s.closeWith .incomplete
  | .data => s.returnHeld.modPort Port.close

/-- The act of a whole command with its parameter bytes (09 R183). -/
def wholeAct (c : Cmd) (a : List Byte) (home : Bool) (s : State) : State × Result :=
  match c with
  | .createConnection => doCreateConnection a s
  | .suspend => doSuspend a s
  | .resume => doResume a s
  | .retireConnection => doRetireConnection a s
  | .addDrop => doAddDrop a s
  | .removeDrop => doRemoveDrop a s
  | .setStreamPointer => doSetStreamPointer a s
  | .runPass => doRunPass s
  | .setDemoteThreshold => doSetDemoteThreshold a s
  | .clearShortfall => doClearShortfall a s
  | .setEmergencyOffer => doSetEmergencyOffer a s
  | .clearTrip => doClearTrip s
  | .lineInit => doLineInit a s
  | .startLine => doStartLine a s
  | .stopLine => doStopLine a s
  | .lineReset => doLineReset a s
  | .clearLineErrors => doClearLineErrors a s
  | .setCommsHold => doSetCommsHold a s
  | .setMeter => doSetMeter a s
  | .setBranchLimit => doSetBranchLimit a s
  | .setCascade => doSetCascade a s
  | .setValveDrive => doSetValveDrive a s
  | .homeValve => doHomeValve a home s
  | .ackAttention => doAckAttention a s
  | .setGroupLevel => doSetGroupLevel a s
  | .setThreshold => doSetThreshold a s
  | _ => (s, .ok)

/-- The act of a whole command and its close (09 R183). -/
def State.finishWhole (s : State) (c : Cmd) (a : List Byte) (home : Bool) : State :=
  (wholeAct c a home s).1.closeWith (wholeAct c a home s).2

/-- The result code of a read at its entry to DATA: READ RESULT writes none (09 R185, R188). -/
def entryResult (c : Cmd) (a : List Byte) (old : Result) : Result :=
  if c = .readResult then old else readCheck c a

/-- A read enters DATA with its parameter bytes (09 R185). DESIGN CHOICE: its parameter position is 0 there (assumption log
35). -/
def State.enterData (s : State) (c : Cmd) (a : List Byte) : State :=
  s.modPort (fun p =>
    { p.close with
      phase := .data, cmd := some c, field := a, readOk := readCheck c a == .ok, result := entryResult c a p.result })

/-- A code that names a command opens it; one without parameter bytes completes in the same event (09 R181). -/
def State.openCmd (s : State) (c : Cmd) : State :=
  if c.paramCount = 0 then
    if c.kind = .read then s.enterData c [] else s.finishWhole c [] false
  else s.modPort (fun p => { p.close with phase := .collecting, cmd := some c })

/-- A code that names no command (09 R181). -/
def State.badCode (s : State) : State := s.closeWith .badCommand

/-- A completed command byte (09 R181): one event. -/
def State.commandByte (s : State) (code : Byte) : State :=
  if s.port.listening then
    let t := s.byteDone.endOpen
    (match Cmd.ofCode code with
      | some c => t.openCmd c
      | none => t.badCode).finish
  else s

/-! ## Parameter bytes -/

/-- A drop count byte outside 1-3 ends CREATE CONNECTION at once (01 R11). -/
def badDropCount (c : Cmd) (a : List Byte) : Bool :=
  c == .createConnection && a.length == 11 && !validDropCount (a.getD 10 0).toNat

/-- A parameter byte of an open whole command (09 R182, R183). -/
def State.collectWhole (s : State) (c : Cmd) (a : List Byte) (home : Bool) : State :=
  if badDropCount c a then s.closeWith .badParam
  else if a.length = c.paramsNeeded a then s.finishWhole c a home
  else s.modPort (fun p => { p with pos := p.pos + 1, field := a })

/-- A parameter byte of an open read command (09 R182). -/
def State.collectRead (s : State) (c : Cmd) (a : List Byte) : State :=
  if a.length = c.paramCount then s.enterData c a
  else s.modPort (fun p => { p with pos := p.pos + 1, field := a })

/-- A field applied: the next field begins, or the command completes (09 R184). -/
def State.nextField (s : State) (c : Cmd) (pos : Nat) (clamped : Bool) : State :=
  if pos = c.paramCount then s.closeWith (clampResult (s.port.clamped || clamped))
  else s.modPort (fun p => { p with pos := pos, field := [], clamped := p.clamped || clamped })

/-- A parameter byte of an open field command (09 R184). -/
def State.collectField (s : State) (c : Cmd) (f : List Byte) : State :=
  match fieldOf c (s.port.pos + 1) f s with
  | none => s.modPort (fun p => { p with pos := p.pos + 1, field := f })
  | some (t, .applied clamped) => t.nextField c (s.port.pos + 1) clamped
  | some (t, .refused r) => t.closeWith r

/-- A parameter byte in COLLECTING (09 R182). -/
def State.collect (s : State) (b : Byte) (home : Bool) : State :=
  match s.port.cmd with
  | none => s
  | some c =>
    match c.kind with
    | .whole => s.collectWhole c (s.port.field ++ [b]) home
    | .read => s.collectRead c (s.port.field ++ [b])
    | .field => s.collectField c (s.port.field ++ [b])

/-- The last byte of a record image has gone out whole (09 R190). -/
def Port.imageEnds (p : Port) : Bool :=
  p.cmd == some .streamReadTable && 1 ≤ p.outPos && p.outIndex == Config.imageBytes - 1

/-- The twelfth data byte of READ CHANGED SET has gone out whole (10 R202). -/
def Port.setDelivered (p : Port) : Bool := p.cmd == some .readChangedSet && p.outPos == 12

/-- One byte period of the data phase completed by a parameter byte (09 R185, R190, 10 R202). -/
def Port.deliver (p : Port) : Port :=
  { p with
    pointer := if p.imageEnds then p.pointer + 1 else p.pointer
    captured := if p.imageEnds then none else p.captured
    held := if p.setDelivered then none else p.held
    outPos := p.outPos + 1 }

/-- A completed parameter byte (09 R180): one event. -/
def State.paramByte (s : State) (b : Byte) (home : Bool) : State :=
  if s.port.listening then
    let t := s.byteDone
    (match t.port.phase with
      | .idle => t
      | .collecting => t.collect b home
      | .data => t.modPort Port.deliver).finish
  else s

/-- A host command with the parameter bytes sent with it: its command byte, then each parameter byte, each one event. -/
def State.send (s : State) (c : Cmd) (params : List Byte) (home : Bool) : State :=
  params.foldl (fun t b => t.paramByte b home) (s.commandByte c.code)

/-! ## SEL and SCK -/

/-- SEL asserted (09 R177, R186, R193). -/
def State.selectPort (s : State) : State :=
  if s.port.selLow then s
  else (s.modPort (fun p => { p with selLow := true, seenHigh := true, bitCount := 0, bits := 0 })).placeMsb.driveSdo

/-- SEL released: a break discards the bits held, a pause finds none (09 R178, R179, R193). -/
def State.releasePort (s : State) : State :=
  s.modPort (fun p => { p with selLow := false, seenHigh := true, bitCount := 0, bits := 0, sdo := none })

/-- A rising edge that does not complete its byte shifts SDI in (09 R177). -/
def Port.shiftIn (p : Port) (b : Bool) : Port :=
  { p with bitCount := p.bitCount + 1, bits := (p.bits <<< 1) ||| (if b then 1#8 else 0#8) }

/-- A falling SCK edge, and the SDI sample of the rising edge before it when that edge shifted a bit (09 R177, R186;
assumption log 16). -/
def State.fallingEdge (s : State) (rose : Option Bool) : State :=
  if s.port.listening then
    match rose with
    | none => s.placeMsb.driveSdo
    | some b => if s.port.bitCount < 7 then (s.placeMsb.modPort (fun p => p.shiftIn b)).driveSdo else s
  else s

end Sys2Proof.Machine
end

