-- ==== Sys2Proof/Machine/Publish.lean ====
section
/-! DEFINITION. Publication: the results of a pass written into the records, the list, the branches and the engine
(02 sections 2.6, 03 section 3.1). -/

namespace Sys2Proof.Machine

/-- A record as it stands still matches the snapshot's copy, so the pass writes it (02 R53). -/
def Conn.matches (c : Conn) (r : SnapRec) : Bool := c.gen == r.gen && c.state == r.state && !c.moved

/-- The records a publication writes. -/
def State.written (s : State) (p : Snapshot) : List SnapRec := p.recs.filter (fun r => s.conns[r.id].matches r)

/-- The grant fields written into one record, and its drop shares (02 R51, R52, R53). -/
def State.writeRec (p : Snapshot) (s : State) (r : SnapRec) : State :=
  let ds := s.dropsOf r.id
  let t := s.modConn r.id (fun c => { c with
      granted := p.power r, ceiling := p.ceilingOf r, curtailed := p.curtailedIn r, ramp := p.rampIn r })
  if r.state = .suspended then
    if r.expired then
      t.modDropsOf r.id (fun d => { d with share := fallbackShare (s.conns[r.id].fallback.getD 0) ds d })
    else t
  else t.modDropsOf r.id (fun d => { d with share := activeShare (p.ceilingOf r) ds d })

/-- The curtailment list after a publication that writes `ws` and makes the pass count `count` (03 R59, R60). -/
def updateList (p : Snapshot) (ws : List SnapRec) (count : Nat) (list : List CurtailEntry) : List CurtailEntry :=
  let kept := list.filter (fun e => !(ws.any (fun r => r.id == e.id && !p.curtailedIn r)))
  let joining := ws.filter (fun r => p.curtailedIn r && !(list.any (fun e => e.id == r.id)))
  kept ++ joining.map (fun r => { id := r.id, cls := r.eff, pass := count })

/-- The branch results of one branch, with BRANCH_LIMITED on a change from clear to set (02 R54 step 2). -/
def State.writeBranch (p : Snapshot) (s : State) (b : Fin 8) : State :=
  let t := s.modBranch b (fun x => { x with limited := p.limitedIn b, stranded := p.strandedIn b })
  if p.limitedIn b && !s.branches[b].limited then t.raiseUnit .branchLimited b else t

/-- The engine's results of a publication that writes `ws` (02 R53, R54 steps 1, 3, 4 and 5). -/
def Engine.results (e : Engine) (p : Snapshot) (ws : List SnapRec) : Engine :=
  { e with
    curtail := updateList p ws (wrapSucc16 e.passCount) e.curtail
    headroom := p.headroom
    overcommit := p.over
    rampUnfinished := ws.any p.rampIn
    passCount := wrapSucc16 e.passCount
    skipped := p.recs.length - ws.length
    rerun := e.rerun || ws.length < p.recs.length }

/-- The causes of a publication besides BRANCH_LIMITED (02 R54 steps 3 and 6). -/
def State.publishCauses (s : State) (p : Snapshot) : State :=
  let t := if p.over then s.raise .overcommit else s
  let t := t.raise .passPublished
  if p.headroom = 0 ∧ t.engine.curtail ≠ [] then t.raise .headroomZero else t

/-- After the results the engine leaves COMPUTING, with a new snapshot when rerun is set (02 R55). A pending that this
snapshot clears still counts for an interval tick of the same moment (12 R209 row 1; assumption log 36). -/
def State.afterPublish (s : State) : State :=
  let t := { s with engine := { s.engine with snap := none, passMs := 0 } }
  (if s.engine.rerun then t.snapshot else t).notePendTaken (s.engine.rerun && s.engine.pend)

/-- The publication of a pass (02 R53, R54, R55). -/
def State.publishPass (s : State) (p : Snapshot) : State :=
  let ws := s.written p
  let t := ws.foldl (State.writeRec p) s
  let t := { t with engine := t.engine.results p ws }
  let t := (List.finRange 8).foldl (State.writeBranch p) t
  (t.publishCauses p).afterPublish

/-- The publication event: only a pass in flight publishes (02 R31). -/
def State.publish (s : State) : State :=
  match s.engine.snap with
  | some p => s.publishPass p
  | none => s

end Sys2Proof.Machine
end

