-- ==== Sys2Proof/Machine/Tick.lean ====
section
/-! DEFINITION. One 1 ms tick of the Timebase, and the 1 s tick every thousandth one brings: what `step` does on an empty
queue (00 section 1.6.7; assumption log 6). Every timed event is the operation its own command calls. -/

namespace Sys2Proof.Machine

/-! ## Timed line events -/

/-- The response timer expires (05 R96, R97): a miss in AWAITING, a passed expiry in RECEIVING. -/
def State.responseExpires (s : State) (l : Fin 8) : State :=
  match s.lines[l].phase with
  | .awaiting => (s.modLine l (fun x => { x with respLeft := 0 })).endMiss l false
  | .receiving => s.modLine l (fun x => { x with respLeft := 0 })
  | _ => s

/-- The poll spacing ends (05 R98). -/
def State.spacingEnds (s : State) (l : Fin 8) : State :=
  if s.lines[l].phase = .spacing then (s.modLine l (fun x => { x with spaceLeft := 0 })).selectOrWait l else s

/-- An idle POLLING line selects once its list holds a pollable drop (05 R94). -/
def State.idleSelects (s : State) (l : Fin 8) : State :=
  if s.isPolling l ∧ s.lines[l].phase = .none ∧ s.pollable l ≠ [] then s.selectOrWait l else s

/-- The 1 ms tick of one line: its response timer, its spacing timer or its idle selection. -/
def State.tickLine (s : State) (l : Fin 8) : State :=
  let x := s.lines[l]
  if x.inExchange then
    if x.respLeft = 1 then (s.responseExpires l).finish
    else s.modLine l (fun x => { x with respLeft := x.respLeft - 1 })
  else if x.phase = .spacing then
    if x.spaceLeft = 1 then (s.spacingEnds l).finish
    else s.modLine l (fun x => { x with spaceLeft := x.spaceLeft - 1 })
  else (s.idleSelects l).finish

/-! ## The 1 ms tick of the qualifier and the engine -/

/-- The qualifier samples TRIP, which holds its latest level (04 R80). -/
def State.tickTrip (s : State) : State := (s.sampleTrip s.plant.raw).finish

/-- A pass publishes at the latest 10 ms after its snapshot (02 R30; assumption log 7). -/
def State.tickPass (s : State) : State :=
  if s.computing then
    if Config.passLimitMs ≤ s.engine.passMs + 1 then s.publish.finish
    else { s with engine := { s.engine with passMs := s.engine.passMs + 1 } }
  else s

/-! ## The 1 s tick -/

/-- The comms hold timer runs (06 R126). -/
def Conn.holdRuns (c : Conn) : Bool := c.state == .suspended && !c.supervisor && !c.expired

/-- A comms hold expires (06 R127). -/
def State.holdExpires (s : State) (id : Fin 96) : State := if s.conns[id].holdRuns then s.expireHold id else s

/-- The 1 s tick of one connection's comms hold (06 R126). -/
def State.tickHold (s : State) (id : Fin 96) : State :=
  if s.conns[id].holdRuns then
    if s.conns[id].holdLeft ≤ 1 then (s.holdExpires id).finish
    else s.modConn id (fun c => { c with holdLeft := c.holdLeft - 1 })
  else s

/-- The 1 s tick of one gate (07 R137). The level of MTRn at the tick that starts an ARMED gate is a free value
(assumption log 9). -/
def State.tickGate (s : State) (n : Fin 8) : State :=
  let b := s.branches[n]
  match b.gate with
  | .armed => ({ s with free := s.free + 1 }.gateStart n (Config.meterHigh n s.free)).finish
  | .counting =>
    if b.mode.seconds ≤ b.elapsed + 1 then (s.gateClose n).finish
    else s.modBranch n (fun b => { b with elapsed := b.elapsed + 1 })
  | _ => s

/-- The 1 s tick of the interval counter (02 R35). -/
def State.tickInterval (s : State) : State :=
  if s.engine.interval ≤ s.engine.counter + 1 then s.intervalTick.finish
  else { s with engine := { s.engine with counter := s.engine.counter + 1 } }

/-- The 1 s tick: comms holds, gates, then the interval counter (assumption log 6). -/
def State.tickSecond (s : State) : State :=
  let t := (List.finRange 96).foldl State.tickHold s
  let t := (List.finRange 8).foldl State.tickGate t
  t.tickInterval

/-- One 1 ms tick: a new moment begins with the qualifier, the lines, the pass in flight, then the 1 s tick when it falls
(assumption log 6). -/
def State.tick (s : State) : State :=
  let t := (List.finRange 8).foldl State.tickLine ({ s with now := Moment.start } : State).tickTrip
  let t := t.tickPass
  if 1000 ≤ t.ms + 1 then { t with ms := 0 }.tickSecond else { t with ms := t.ms + 1 }

end Sys2Proof.Machine
end

