-- ==== Sys2Proof/Machine/Commands.lean ====
section
/-! DEFINITION. The meaning of each host command: its command byte and the parameter bytes sent with it, each byte one event
(09 R177, R180 to R185). The effect of each stands in Whole.lean, Field.lean and Images.lean, where `State.send` reaches it. -/

namespace Sys2Proof.Machine

/-- What every command answers: the block never stops. -/
abbrev Answer := Host.Outcome State Fault Refusal

/-- READ_RESULT (09 R188); data: the result code. -/
def execReadResult (s : State) : Answer := .next (s.send .readResult [] false)

/-- CREATE_CONNECTION (01 R11, R12); effect: `doCreateConnection`. -/
def execCreateConnection (params : List Byte) (s : State) : Answer := .next (s.send .createConnection params false)

/-- EDIT_CONNECTION (01 R22, R23, R24); fields: `editField`. -/
def execEditConnection (params : List Byte) (s : State) : Answer := .next (s.send .editConnection params false)

/-- SUSPEND (01 R17); effect: `doSuspend`. -/
def execSuspend (params : List Byte) (s : State) : Answer := .next (s.send .suspend params false)

/-- RESUME (01 R19); effect: `doResume`. -/
def execResume (params : List Byte) (s : State) : Answer := .next (s.send .resume params false)

/-- RETIRE_CONNECTION (01 R20); effect: `doRetireConnection`. -/
def execRetireConnection (params : List Byte) (s : State) : Answer := .next (s.send .retireConnection params false)

/-- ADD_DROP (01 R25); effect: `doAddDrop`. -/
def execAddDrop (params : List Byte) (s : State) : Answer := .next (s.send .addDrop params false)

/-- REMOVE_DROP (01 R26); effect: `doRemoveDrop`. -/
def execRemoveDrop (params : List Byte) (s : State) : Answer := .next (s.send .removeDrop params false)

/-- READ_CONNECTION (01 R27); data: `State.connImage`. -/
def execReadConnection (params : List Byte) (s : State) : Answer := .next (s.send .readConnection params false)

/-- READ_DROP (01 R28); data: `State.dropImageAt`. -/
def execReadDrop (params : List Byte) (s : State) : Answer := .next (s.send .readDrop params false)

/-- SET_STREAM_POINTER (09 R189); effect: `doSetStreamPointer`. -/
def execSetStreamPointer (params : List Byte) (s : State) : Answer := .next (s.send .setStreamPointer params false)

/-- STREAM_READ_TABLE (09 R190); data: `State.connImage` at the stream pointer. -/
def execStreamReadTable (s : State) : Answer := .next (s.send .streamReadTable [] false)

/-- RUN_PASS (02 R36); effect: `doRunPass`. -/
def execRunPass (s : State) : Answer := .next (s.send .runPass [] false)

/-- SET_PASS_PARAMETERS (02 R37); fields: `passField`. -/
def execSetPassParameters (params : List Byte) (s : State) : Answer := .next (s.send .setPassParameters params false)

/-- READ_PASS_STATUS (02 R56); data: `State.passStatus`. -/
def execReadPassStatus (s : State) : Answer := .next (s.send .readPassStatus [] false)

/-- READ_CURTAILMENT_LIST (03 R63); data: `State.curtailImage`. -/
def execReadCurtailmentList (s : State) : Answer := .next (s.send .readCurtailmentList [] false)

/-- SET_DEMOTE_THRESHOLD (03 R70); effect: `doSetDemoteThreshold`. -/
def execSetDemoteThreshold (params : List Byte) (s : State) : Answer := .next (s.send .setDemoteThreshold params false)

/-- CLEAR_SHORTFALL (03 R71); effect: `doClearShortfall`. -/
def execClearShortfall (params : List Byte) (s : State) : Answer := .next (s.send .clearShortfall params false)

/-- SET_PLANT_OFFER (04 R75); fields: `offerField`. -/
def execSetPlantOffer (params : List Byte) (s : State) : Answer := .next (s.send .setPlantOffer params false)

/-- SET_EMERGENCY_OFFER (04 R78); effect: `doSetEmergencyOffer`. -/
def execSetEmergencyOffer (params : List Byte) (s : State) : Answer := .next (s.send .setEmergencyOffer params false)

/-- CLEAR_TRIP (04 R83); effect: `doClearTrip`. -/
def execClearTrip (s : State) : Answer := .next (s.send .clearTrip [] false)

/-- READ_PLANT (04 R85); data: `State.plantImage`. -/
def execReadPlant (s : State) : Answer := .next (s.send .readPlant [] false)

/-- LINE_INIT (05 R89); effect: `doLineInit`. -/
def execLineInit (params : List Byte) (s : State) : Answer := .next (s.send .lineInit params false)

/-- START_LINE (05 R90); effect: `doStartLine`. -/
def execStartLine (params : List Byte) (s : State) : Answer := .next (s.send .startLine params false)

/-- STOP_LINE (05 R91); effect: `doStopLine`. -/
def execStopLine (params : List Byte) (s : State) : Answer := .next (s.send .stopLine params false)

/-- LINE_RESET (05 R92); effect: `doLineReset`. -/
def execLineReset (params : List Byte) (s : State) : Answer := .next (s.send .lineReset params false)

/-- CLEAR_LINE_ERRORS (05 R108); effect: `doClearLineErrors`. -/
def execClearLineErrors (params : List Byte) (s : State) : Answer := .next (s.send .clearLineErrors params false)

/-- READ_LINE (05 R109); data: `State.lineImage`. -/
def execReadLine (params : List Byte) (s : State) : Answer := .next (s.send .readLine params false)

/-- SET_COMMS_HOLD (06 R125); effect: `doSetCommsHold`. -/
def execSetCommsHold (params : List Byte) (s : State) : Answer := .next (s.send .setCommsHold params false)

/-- SET_METER (07 R136); effect: `doSetMeter`. -/
def execSetMeter (params : List Byte) (s : State) : Answer := .next (s.send .setMeter params false)

/-- SET_BRANCH_LIMIT (07 R147); effect: `doSetBranchLimit`. -/
def execSetBranchLimit (params : List Byte) (s : State) : Answer := .next (s.send .setBranchLimit params false)

/-- SET_REGULATION (07 R151); fields: `regField`. -/
def execSetRegulation (params : List Byte) (s : State) : Answer := .next (s.send .setRegulation params false)

/-- SET_CASCADE (07 R143); effect: `doSetCascade`. -/
def execSetCascade (params : List Byte) (s : State) : Answer := .next (s.send .setCascade params false)

/-- READ_BRANCH (07 R153); data: `State.branchImage`. -/
def execReadBranch (params : List Byte) (s : State) : Answer := .next (s.send .readBranch params false)

/-- SET_VALVE_DRIVE (08 R158); effect: `doSetValveDrive`. -/
def execSetValveDrive (params : List Byte) (s : State) : Answer := .next (s.send .setValveDrive params false)

/-- HOME_VALVE (08 R168); effect: `doHomeValve`. -/
def execHomeValve (params : List Byte) (home : Bool) (s : State) : Answer := .next (s.send .homeValve params home)

/-- READ_VALVE (08 R174); data: `Drive.image`. -/
def execReadValve (params : List Byte) (s : State) : Answer := .next (s.send .readValve params false)

/-- READ_ATTENTION (10 R198); data: `Attention.image`. -/
def execReadAttention (s : State) : Answer := .next (s.send .readAttention [] false)

/-- ACK_ATTENTION (10 R199); effect: `doAckAttention`. -/
def execAckAttention (params : List Byte) (s : State) : Answer := .next (s.send .ackAttention params false)

/-- SET_GROUP_LEVEL (10 R197); effect: `doSetGroupLevel`. -/
def execSetGroupLevel (params : List Byte) (s : State) : Answer := .next (s.send .setGroupLevel params false)

/-- SET_THRESHOLD (10 R197); effect: `doSetThreshold`. -/
def execSetThreshold (params : List Byte) (s : State) : Answer := .next (s.send .setThreshold params false)

/-- READ_CHANGED_SET (10 R202); data: `changedImage`. -/
def execReadChangedSet (s : State) : Answer := .next (s.send .readChangedSet [] false)

end Sys2Proof.Machine
end

