-- ==== Sys2Proof/Machine/Events.lean ====
section
/-! DEFINITION. The meaning of each event at the port, the plant wiring, the field lines and the timers. An event given where
its rule's condition does not hold cannot arise in the part and changes nothing (assumption log 4). -/

namespace Sys2Proof.Machine

/-! ## The port -/

/-- BAD_COMMAND (09 R181): a completed command byte; a code that names a command would open it. -/
def execBadCommand (code : Byte) (s : State) : Answer := .next (s.commandByte code)

/-- PARAMETER_BYTE (09 R182, and R180 in DATA). -/
def execParameterByte (b : Byte) (home : Bool) (s : State) : Answer := .next (s.paramByte b home)

/-- DATA_BYTE_PERIOD (09 R185): a byte completed in DATA. -/
def execDataBytePeriod (s : State) : Answer :=
  .next (if s.port.phase = .data then s.paramByte 0 false else s)

/-- SEL_ASSERT (09 R177). -/
def execSelAssert (s : State) : Answer := .next s.selectPort.finish

/-- SEL_RELEASE (09 R178, R179). -/
def execSelRelease (s : State) : Answer := .next s.releasePort.finish

/-- SCK_FALLING_EDGE (09 R186). -/
def execSckFallingEdge (rose : Option Bool) (s : State) : Answer := .next (s.fallingEdge rose).finish

/-! ## The part and the plant -/

/-- PART_RESET (01 R29 and the reset rule of every chapter), with the TRIP level sampled at reset release (04 R86). The
input pin SEL keeps its level; the queue is not the part's. -/
def execPartReset (trip : Bool) (s : State) : Answer :=
  .next { State.afterReset trip s.port.selLow with free := s.free, pending := s.pending }

/-- TRIP_INPUT_SAMPLE (04 R80). DESIGN CHOICE: it is a sample of its own beside those of the idle ticks (assumption log 37). -/
def execTripInputSample (asserted : Bool) (s : State) : Answer := .next (s.sampleTrip asserted).finish

/-- QUALIFIED_ASSERTION (04 R81): a change of the qualified level from deasserted to asserted. -/
def execQualifiedAssertion (s : State) : Answer := .next (if s.plant.level then s else s.assertTrip.finish)

/-- QUALIFIED_DEASSERTION (04 R82): a change of the qualified level from asserted to deasserted. -/
def execQualifiedDeassertion (s : State) : Answer := .next (if s.plant.level then s.deassertTrip.finish else s)

/-! ## The engine -/

/-- INTERVAL_TICK (02 R35). -/
def execIntervalTick (s : State) : Answer := .next s.intervalTick.finish

/-- PUBLICATION (02 R53). -/
def execPublication (s : State) : Answer := .next s.publish.finish

/-- COMMS_HOLD_EXPIRY (06 R127). -/
def execCommsHoldExpiry (id : Fin 96) (s : State) : Answer := .next (s.holdExpires id).finish

/-! ## The field lines -/

/-- IDLE_LINE_SELECTION (05 R94). -/
def execIdleLineSelection (line : Fin 8) (s : State) : Answer := .next (s.idleSelects line).finish

/-- POLL_SPACING_EXPIRY (05 R98). -/
def execPollSpacingExpiry (line : Fin 8) (s : State) : Answer := .next (s.spacingEnds line).finish

/-- POLL_SENT (05 R95), with the echo check of a loopback poll (05 R107). -/
def execPollSent (line : Fin 8) (echo : Option (List Byte)) (s : State) : Answer :=
  .next (if s.lines[line].phase = .sending then
      (if s.lines[line].state = .loopback then s.checkEcho line echo else s.pollOut line).finish
    else s)

/-- REPLY_START (05 R97, R99): the first character of a frame; in AWAITING the exchange enters RECEIVING. -/
def execReplyStart (line : Fin 8) (s : State) : Answer :=
  .next (if s.lines[line].hears && !s.lines[line].assembling then
      (s.modLine line (fun x =>
        { x with assembling := true, phase := if x.phase = .awaiting then .receiving else x.phase })).finish
    else s)

/-- RESPONSE_TIMEOUT (05 R96, R97). -/
def execResponseTimeout (line : Fin 8) (s : State) : Answer := .next (s.responseExpires line).finish

/-- FRAME_RECEIVED (05 R100, R101, R102). -/
def execFrameReceived (line : Fin 8) (bytes : List Byte) (s : State) : Answer := .next (s.frameIn line bytes).finish

/-- BROKEN_FRAME (05 R99). -/
def execBrokenFrame (line : Fin 8) (s : State) : Answer :=
  .next (if s.lines[line].hears then (s.frameBreaks line).finish else s)

/-- GAP_LIMIT_EXPIRY (05 R99): the gap is measured inside a frame being assembled. -/
def execGapLimitExpiry (line : Fin 8) (s : State) : Answer :=
  .next (if s.lines[line].hears && s.lines[line].assembling then (s.frameBreaks line).finish else s)

/-- CONTENTION (05 R105): only while a POLLING line transmits. -/
def execContention (line : Fin 8) (s : State) : Answer :=
  .next (if s.lines[line].state = .polling ∧ s.lines[line].phase = .sending then (s.lineFaults line).finish else s)

/-! ## Branches and drives -/

/-- METER_EDGE (07 R138). -/
def execMeterEdge (branch : Fin 8) (s : State) : Answer := .next (s.meterEdge branch).finish

/-- GATE_ARMED_START (07 R137). -/
def execGateArmedStart (branch : Fin 8) (high : Bool) (s : State) : Answer := .next (s.gateStart branch high).finish

/-- GATE_CLOSE (07 R140). -/
def execGateClose (branch : Fin 8) (s : State) : Answer := .next (s.gateClose branch).finish

/-- STEP_TIMER_EXPIRY (08 R161). -/
def execStepTimerExpiry (drive : Fin 8) (s : State) : Answer := .next (s.stepExpires drive).finish

/-- HOMING_STEP_EXPIRY (08 R169). -/
def execHomingStepExpiry (drive : Fin 8) (home : Bool) (s : State) : Answer := .next (s.homingExpires drive home).finish

/-- ENCODER_SAMPLE (08 R164, R165). -/
def execEncoderSample (drive : Fin 8) (a b : Bool) (s : State) : Answer := .next (s.encoderSample drive a b).finish

end Sys2Proof.Machine
end

