-- ==== Sys2Proof/Machine/Dispatch.lean ====
section
/-! DEFINITION. One arm per command of the table. -/

namespace Sys2Proof.Machine

def exec (i : Instr) (s : State) : Host.Outcome State Fault Refusal :=
  match i with
  | .readResult => Sys2Proof.Machine.execReadResult s
  | .createConnection params => Sys2Proof.Machine.execCreateConnection params s
  | .editConnection params => Sys2Proof.Machine.execEditConnection params s
  | .suspend params => Sys2Proof.Machine.execSuspend params s
  | .resume params => Sys2Proof.Machine.execResume params s
  | .retireConnection params => Sys2Proof.Machine.execRetireConnection params s
  | .addDrop params => Sys2Proof.Machine.execAddDrop params s
  | .removeDrop params => Sys2Proof.Machine.execRemoveDrop params s
  | .readConnection params => Sys2Proof.Machine.execReadConnection params s
  | .readDrop params => Sys2Proof.Machine.execReadDrop params s
  | .setStreamPointer params => Sys2Proof.Machine.execSetStreamPointer params s
  | .streamReadTable => Sys2Proof.Machine.execStreamReadTable s
  | .runPass => Sys2Proof.Machine.execRunPass s
  | .setPassParameters params => Sys2Proof.Machine.execSetPassParameters params s
  | .readPassStatus => Sys2Proof.Machine.execReadPassStatus s
  | .readCurtailmentList => Sys2Proof.Machine.execReadCurtailmentList s
  | .setDemoteThreshold params => Sys2Proof.Machine.execSetDemoteThreshold params s
  | .clearShortfall params => Sys2Proof.Machine.execClearShortfall params s
  | .setPlantOffer params => Sys2Proof.Machine.execSetPlantOffer params s
  | .setEmergencyOffer params => Sys2Proof.Machine.execSetEmergencyOffer params s
  | .clearTrip => Sys2Proof.Machine.execClearTrip s
  | .readPlant => Sys2Proof.Machine.execReadPlant s
  | .lineInit params => Sys2Proof.Machine.execLineInit params s
  | .startLine params => Sys2Proof.Machine.execStartLine params s
  | .stopLine params => Sys2Proof.Machine.execStopLine params s
  | .lineReset params => Sys2Proof.Machine.execLineReset params s
  | .clearLineErrors params => Sys2Proof.Machine.execClearLineErrors params s
  | .readLine params => Sys2Proof.Machine.execReadLine params s
  | .setCommsHold params => Sys2Proof.Machine.execSetCommsHold params s
  | .setMeter params => Sys2Proof.Machine.execSetMeter params s
  | .setBranchLimit params => Sys2Proof.Machine.execSetBranchLimit params s
  | .setRegulation params => Sys2Proof.Machine.execSetRegulation params s
  | .setCascade params => Sys2Proof.Machine.execSetCascade params s
  | .readBranch params => Sys2Proof.Machine.execReadBranch params s
  | .setValveDrive params => Sys2Proof.Machine.execSetValveDrive params s
  | .homeValve params home => Sys2Proof.Machine.execHomeValve params home s
  | .readValve params => Sys2Proof.Machine.execReadValve params s
  | .readAttention => Sys2Proof.Machine.execReadAttention s
  | .ackAttention params => Sys2Proof.Machine.execAckAttention params s
  | .setGroupLevel params => Sys2Proof.Machine.execSetGroupLevel params s
  | .setThreshold params => Sys2Proof.Machine.execSetThreshold params s
  | .readChangedSet => Sys2Proof.Machine.execReadChangedSet s
  | .badCommand code => Sys2Proof.Machine.execBadCommand code s
  | .parameterByte b home => Sys2Proof.Machine.execParameterByte b home s
  | .dataBytePeriod => Sys2Proof.Machine.execDataBytePeriod s
  | .selAssert => Sys2Proof.Machine.execSelAssert s
  | .selRelease => Sys2Proof.Machine.execSelRelease s
  | .partReset trip => Sys2Proof.Machine.execPartReset trip s
  | .tripInputSample asserted => Sys2Proof.Machine.execTripInputSample asserted s
  | .qualifiedAssertion => Sys2Proof.Machine.execQualifiedAssertion s
  | .qualifiedDeassertion => Sys2Proof.Machine.execQualifiedDeassertion s
  | .intervalTick => Sys2Proof.Machine.execIntervalTick s
  | .publication => Sys2Proof.Machine.execPublication s
  | .idleLineSelection line => Sys2Proof.Machine.execIdleLineSelection line s
  | .pollSpacingExpiry line => Sys2Proof.Machine.execPollSpacingExpiry line s
  | .pollSent line echo => Sys2Proof.Machine.execPollSent line echo s
  | .replyStart line => Sys2Proof.Machine.execReplyStart line s
  | .responseTimeout line => Sys2Proof.Machine.execResponseTimeout line s
  | .frameReceived line bytes => Sys2Proof.Machine.execFrameReceived line bytes s
  | .brokenFrame line => Sys2Proof.Machine.execBrokenFrame line s
  | .gapLimitExpiry line => Sys2Proof.Machine.execGapLimitExpiry line s
  | .contention line => Sys2Proof.Machine.execContention line s
  | .commsHoldExpiry id => Sys2Proof.Machine.execCommsHoldExpiry id s
  | .meterEdge branch => Sys2Proof.Machine.execMeterEdge branch s
  | .gateArmedStart branch high => Sys2Proof.Machine.execGateArmedStart branch high s
  | .gateClose branch => Sys2Proof.Machine.execGateClose branch s
  | .stepTimerExpiry drive => Sys2Proof.Machine.execStepTimerExpiry drive s
  | .homingStepExpiry drive home => Sys2Proof.Machine.execHomingStepExpiry drive home s
  | .encoderSample drive a b => Sys2Proof.Machine.execEncoderSample drive a b s
  | .sckFallingEdge rose => Sys2Proof.Machine.execSckFallingEdge rose s

end Sys2Proof.Machine
end

