-- ==== Sys2Proof/Safety.lean ====
section
/-! DEFINITION. What the claims speak of: the port between commands, the end of an event, and what every reachable state
keeps. No step of the block stops, so a safe run is one that keeps these. -/

namespace Sys2Proof

/-! ## Host commands as bytes -/

/-- The command, parameter bytes and home switch level of a host command; none of an event. -/
def Instr.host : Instr → Option (Cmd × List Byte × Bool)
  | .readResult => some (.readResult, [], false)
  | .createConnection p => some (.createConnection, p, false)
  | .editConnection p => some (.editConnection, p, false)
  | .suspend p => some (.suspend, p, false)
  | .resume p => some (.resume, p, false)
  | .retireConnection p => some (.retireConnection, p, false)
  | .addDrop p => some (.addDrop, p, false)
  | .removeDrop p => some (.removeDrop, p, false)
  | .readConnection p => some (.readConnection, p, false)
  | .readDrop p => some (.readDrop, p, false)
  | .setStreamPointer p => some (.setStreamPointer, p, false)
  | .streamReadTable => some (.streamReadTable, [], false)
  | .runPass => some (.runPass, [], false)
  | .setPassParameters p => some (.setPassParameters, p, false)
  | .readPassStatus => some (.readPassStatus, [], false)
  | .readCurtailmentList => some (.readCurtailmentList, [], false)
  | .setDemoteThreshold p => some (.setDemoteThreshold, p, false)
  | .clearShortfall p => some (.clearShortfall, p, false)
  | .setPlantOffer p => some (.setPlantOffer, p, false)
  | .setEmergencyOffer p => some (.setEmergencyOffer, p, false)
  | .clearTrip => some (.clearTrip, [], false)
  | .readPlant => some (.readPlant, [], false)
  | .lineInit p => some (.lineInit, p, false)
  | .startLine p => some (.startLine, p, false)
  | .stopLine p => some (.stopLine, p, false)
  | .lineReset p => some (.lineReset, p, false)
  | .clearLineErrors p => some (.clearLineErrors, p, false)
  | .readLine p => some (.readLine, p, false)
  | .setCommsHold p => some (.setCommsHold, p, false)
  | .setMeter p => some (.setMeter, p, false)
  | .setBranchLimit p => some (.setBranchLimit, p, false)
  | .setRegulation p => some (.setRegulation, p, false)
  | .setCascade p => some (.setCascade, p, false)
  | .readBranch p => some (.readBranch, p, false)
  | .setValveDrive p => some (.setValveDrive, p, false)
  | .homeValve p home => some (.homeValve, p, home)
  | .readValve p => some (.readValve, p, false)
  | .readAttention => some (.readAttention, [], false)
  | .ackAttention p => some (.ackAttention, p, false)
  | .setGroupLevel p => some (.setGroupLevel, p, false)
  | .setThreshold p => some (.setThreshold, p, false)
  | .readChangedSet => some (.readChangedSet, [], false)
  | .badCommand _ | .parameterByte _ _ | .dataBytePeriod | .selAssert | .selRelease | .partReset _
  | .tripInputSample _ | .qualifiedAssertion | .qualifiedDeassertion | .intervalTick | .publication
  | .idleLineSelection _ | .pollSpacingExpiry _ | .pollSent _ _ | .replyStart _ | .responseTimeout _
  | .frameReceived _ _ | .brokenFrame _ | .gapLimitExpiry _ | .contention _ | .commsHoldExpiry _ | .meterEdge _
  | .gateArmedStart _ _ | .gateClose _ | .stepTimerExpiry _ | .homingStepExpiry _ _ | .encoderSample _ _ _
  | .sckFallingEdge _ => none

/-- The command needs the port's clock: a host command, a byte of its own, or an SCK edge (09 R176). -/
def Instr.clocked : Instr → Bool
  | .badCommand _ | .parameterByte _ _ | .dataBytePeriod | .sckFallingEdge _ => true
  | i => i.host.isSome

end Sys2Proof

namespace Sys2Proof.Machine

/-! ## Between two events -/

/-- Nothing is left over from an event: no urgent trigger waits, and ATN stands at its condition (10 R195, R196). -/
abbrev State.Settled (s : State) : Prop := s.urgent = false ∧ s.att.atn = s.att.atnDue

/-- The port hears SCK and no command is open (09 R176, R180). -/
abbrev State.Ready (s : State) : Prop := s.port.listening = true ∧ s.port.phase = .idle ∧ s.Settled

/-- ATN brought to its condition (10 R196). -/
def State.attend (s : State) : State := { s with att := { s.att with atn := s.att.atnDue } }

/-- An urgent trigger answered, and ATN brought to its condition (02 R31, 10 R196). -/
def State.answered (s : State) : State := s.startOrRerun.attend

/-- The port after a byte outside DATA, with no command open and a result code (09 R180, R186). SEL and the stream pointer
are the only fields that keep their values. -/
def Port.closed (p : Port) (r : Result) : Port :=
  { Port.reset p.selLow with seenHigh := p.seenHigh, sdo := some false, pointer := p.pointer, result := r }

/-- The state after a refused command: the port alone has changed (00 section 1.6.4). -/
def State.refuse (s : State) (r : Result) : State := { s with port := s.port.closed r }

/-- The port with a command open in COLLECTING: its parameter position, the bytes held, the target its first field named
and whether a field was clamped (09 R180). -/
def Port.opened (p : Port) (c : Cmd) (pos : Nat) (held : List Byte) (target : Nat) (clamped : Bool) : Port :=
  { p.closed p.result with phase := .collecting, cmd := some c, pos := pos, field := held, target := target,
                           clamped := clamped }

/-- The port with a read in DATA, before its dummy byte (09 R185). -/
def Port.reading (p : Port) (c : Cmd) (params : List Byte) (ok : Bool) (r : Result) : Port :=
  { p.closed r with phase := .data, cmd := some c, field := params, readOk := ok }

/-- The port after one more byte period (09 R177, R186): the byte `out` has gone out whole and no bits are held. -/
def Port.period (p : Port) (out : Byte) : Port :=
  { p with lastOut := out, sdo := some (out.getLsbD 0), bitCount := 0, bits := 0, msb := false }

/-- A value brought into a range, with whether that changed it (00 section 1.6.4). -/
def okOrClamped (clamped : Bool) : Result := if clamped then .clamped else .ok

/-! ## What every step keeps -/

/-- A cause carries a unit set (10 R194): those of groups G3, G4 and G5. -/
def Cause.hasUnits (c : Cause) : Bool := 3 ≤ c.group.val

/-- The seventeen causes. -/
def allCauses : List Cause := ((List.finRange 6).map groupCauses).flatten

/-- Pending flags and unit sets agree (10 R194). -/
abbrev Attention.UnitsRight (a : Attention) : Prop :=
  ∀ c ∈ allCauses, (a.unitsOf c = 0 ↔ ¬ (c.hasUnits = true ∧ a.isPending c = true))

/-- The suspension fields of a record (01 R6). -/
abbrev Conn.SuspensionRight (c : Conn) : Prop :=
  (c.noCause = false ↔ c.state = .suspended) ∧ (c.state ≠ .suspended → c.expired = false ∧ c.holdLeft = 0)

/-- The score and LOW_DT of a record (03 R64). -/
abbrev Conn.StandingRight (c : Conn) : Prop := c.score ≤ 255 ∧ (c.lowDt = true → 0 < c.score)

/-- The grant fields of a record lie within its contract (01 R2, R4). -/
abbrev Conn.GrantsRight (c : Conn) : Prop :=
  c.granted ≤ c.sub ∧ c.ceiling ≤ c.maxFlow ∧ c.fallback.getD 0 ≤ c.maxFlow

/-- What the records and a snapshot taken of them have in common: distinct ids, taken states, grants within the contract,
and the contract of every record that the publication would write (02 R38, R53). -/
abbrev State.SnapRight (s : State) : Prop :=
  ∀ p ∈ s.engine.snap, (p.recs.map (·.id)).Nodup ∧
    ∀ r ∈ p.recs, (r.state = .active ∨ r.state = .suspended) ∧
      (r.gPrev ≤ r.sub ∧ r.ceiling ≤ r.maxFlow ∧ r.fallback.getD 0 ≤ r.maxFlow) ∧
      (s.conns[r.id].matches r = true →
        s.conns[r.id].sub = r.sub ∧ s.conns[r.id].maxFlow = r.maxFlow ∧ s.conns[r.id].hold = r.hold)

/-- Grants within the contract, with what keeps them so through a publication. -/
abbrev State.GrantsRight (s : State) : Prop := (∀ id : Fin 96, s.conns[id].GrantsRight) ∧ s.SnapRight

/-- The curtailment list names no connection twice, and only ACTIVE ones with no hold value (03 R58). -/
abbrev State.ListRight (s : State) : Prop :=
  (s.engine.curtail.map (·.id)).Nodup ∧
    (∀ e ∈ s.engine.curtail, s.conns[e.id].state = .active ∧ s.conns[e.id].hold = none) ∧ s.SnapRight

/-- The drop pool and the drop lists (01 R7, R8): slots in use in rising line and address, no more than 160 of them, each
with an address from 1 to 30 on the line of a connection that is not VACANT; and one to three for each such connection. -/
abbrev State.PoolRight (s : State) : Prop :=
  s.drops.Pairwise (fun d e => d.key < e.key) ∧ s.drops.length ≤ 160 ∧
    (∀ d ∈ s.drops, 1 ≤ d.addr ∧ d.addr ≤ 30 ∧ s.conns[d.conn].state ≠ .vacant ∧ s.conns[d.conn].line = d.line) ∧
    ∀ id : Fin 96, s.conns[id].state ≠ .vacant → 1 ≤ (s.dropsOf id).length ∧ (s.dropsOf id).length ≤ 3

/-- The demand of a record is the saturated sum of its LIVE drops' last demands, and 0 in RETIRING (01 R3). -/
abbrev State.DemandRight (s : State) : Prop :=
  ∀ id : Fin 96, s.conns[id].demand =
    match s.conns[id].state with
    | .pending | .active | .suspended =>
      min 65535 (((s.dropsOf id).filter (fun d => d.state = .live)).map (·.demand)).sum
    | .vacant | .retiring => 0

/-- A position the excitation uses (08 R159). -/
def usesPosition (e : Excitation) (v : Nat) : Bool :=
  match e with
  | .half => true
  | .wave => v % 2 == 0
  | .twoPhase => v == 0 || v % 2 == 1

/-- A drive's state, coils, target and known position agree (08 R155, R156, R159, R160, R161). -/
abbrev Drive.Right (d : Drive) : Prop :=
  (d.known = true ↔ d.state = .idle ∨ d.state = .moving) ∧
    (d.coils = true ↔ d.state = .homing ∨ d.state = .idle ∨ d.state = .moving) ∧
    (d.stepPending = true → d.state = .moving) ∧
    d.target ≤ d.travel ∧ usesPosition d.excitation d.target = true ∧
    (d.known = true → d.position ≤ d.travel ∧ usesPosition d.excitation d.position = true ∧ d.phase = d.position % 8) ∧
    (d.state = .idle → d.position = d.target)

/-- Every drive agrees with itself, and every regulation base lies in its drive's travel (07 R135). -/
abbrev State.DrivesRight (s : State) : Prop :=
  ∀ n : Fin 8, s.drives[n].Right ∧ s.branches[n].base ≤ s.drives[n].travel

/-- The gate state that a gate mode allows (07 R135). -/
def gateAllowed : GateMode → GateState → Bool
  | .off, .shut => true
  | .s1, .armed | .s4, .armed | .s10, .armed => true
  | .s1, .counting | .s4, .counting | .s10, .counting => true
  | .openGate, .totalizing => true
  | _, _ => false

/-- Gates follow their modes, counts stay within 16 bits, and the two halves of a cascade agree: the low one in OPEN, the
high one OFF (07 R135, R139, R143, R144). -/
abbrev State.MetersRight (s : State) : Prop :=
  ∀ n : Fin 8, gateAllowed s.branches[n].mode s.branches[n].gate = true ∧
    s.branches[n].live ≤ 65535 ∧ s.branches[n].last ≤ 65535 ∧ s.branches[n].flow ≤ 65535 ∧
    s.branches[n].cascade = s.branches[partner n].cascade ∧
    (s.branches[n].cascade = true → s.branches[n].mode = if isEven n then .openGate else .off)

/-- A line's state, phase, transmit enable and stop pending agree (05 R88, R91, R104). -/
abbrev Line.Right (x : Line) : Prop :=
  (x.state ≠ .polling → x.state ≠ .loopback → x.phase = .none) ∧
    (x.te = true ↔ x.state = .polling ∧ x.phase = .sending) ∧
    (x.stop = true → x.phase = .sending ∨ x.phase = .awaiting ∨ x.phase = .receiving) ∧ x.bad ≤ 8

end Sys2Proof.Machine
end

