-- ==== Sys2Proof/Certificates/Slice0/Obligations.lean ====
section
/-! DEFINITION. The statements for the provers. Each says what the part does in the words of its rules; the state a
statement names is written out field by field, so that it is also the frame: what is not named keeps its value.

Most statements about a host command take the port as `Ready`: SEL low, no command open, nothing left of an event.
`CommandByteEndsOpenCommand` says what a command byte does when one is open, and `PortDeafWhileDeselected` what happens while
the port does not hear SCK. -/

open Sys2Proof Sys2Proof.Machine

/-! ## Steps and the Timebase -/

/-- A step runs the command at the front of the queue with the queue's rest. -/
def Obligations.StepRunsFrontCommand : Prop :=
  ∀ (s : State) (c : Instr) (rest : List Instr), s.pending = c :: rest → step s = exec c { s with pending := rest }

/-- THE MODEL'S CHOICE (assumption log 6): on an empty queue one 1 ms tick of the Timebase passes. The queue, the port
and every setting keep their values, and drives move only at a 1 s tick, through a gate close. A tick at which nothing
is due advances the tick count, clears the qualifier run and begins a new moment (logs 34 and 36), and does nothing
else; every thousandth one is a 1 s tick, which counts the interval counter on (R35). Whatever else happens at a tick,
it counts the response timer (R95) and the poll spacing (R98) down, and at a 1 s tick the elapsed seconds of a counting
gate up (R137) and, on lines at rest, the comms hold remaining down, which expires at 0 (R126). -/
def Obligations.IdleStepIsTick : Prop :=
  (∀ s : State, s.pending = [] → ∃ t, step s = .next t ∧ t.pending = [] ∧ t.port = s.port ∧
      t.ms = (if s.ms + 1 < 1000 then s.ms + 1 else 0) ∧ t.demote = s.demote ∧ t.holdSetting = s.holdSetting ∧
      t.plant.offer = s.plant.offer ∧ t.plant.setpoint = s.plant.setpoint ∧ t.plant.emergency = s.plant.emergency ∧
      t.engine.interval = s.engine.interval ∧ t.engine.rampPct = s.engine.rampPct ∧
      t.engine.deadband = s.engine.deadband ∧ t.att.levels = s.att.levels ∧ t.att.threshold = s.att.threshold ∧
      (∀ n : Fin 8, t.branches[n].limit = s.branches[n].limit ∧ t.branches[n].k = s.branches[n].k ∧
        t.branches[n].base = s.branches[n].base ∧ t.branches[n].trim = s.branches[n].trim) ∧
      (s.ms + 1 < 1000 → t.drives = s.drives) ∧ t.now.restarted = Moment.start.restarted) ∧
  (∀ s : State, s.pending = [] → s.Settled → s.plant.raw = s.plant.level → s.computing = false → s.ms + 1 < 1000 →
      (∀ l : Fin 8, s.lines[l].phase = .none ∨ s.lines[l].phase = .sending) →
      (∀ l : Fin 8, s.lines[l].state = .polling → s.lines[l].phase = .none → s.pollable l = []) →
      step s = .next { s with ms := s.ms + 1, plant := { s.plant with run := 0 }, now := Moment.start }) ∧
  (∀ s : State, s.pending = [] → s.Settled → s.plant.raw = s.plant.level → s.computing = false → 1000 ≤ s.ms + 1 →
      (∀ l : Fin 8, s.lines[l].phase = .none ∨ s.lines[l].phase = .sending) →
      (∀ l : Fin 8, s.lines[l].state = .polling → s.lines[l].phase = .none → s.pollable l = []) →
      (∀ id : Fin 96, s.conns[id].state = .suspended → s.conns[id].supervisor = true ∨ s.conns[id].expired = true) →
      (∀ n : Fin 8, s.branches[n].gate = .shut ∨ s.branches[n].gate = .totalizing) →
      s.engine.counter + 1 < s.engine.interval →
      step s = .next { s with
        ms := 0, plant := { s.plant with run := 0 }, engine := { s.engine with counter := s.engine.counter + 1 }
        now := Moment.start }) ∧
  (∀ s : State, s.pending = [] → ∃ t, step s = .next t ∧
      (∀ l : Fin 8, (s.lines[l].phase = .awaiting ∨ s.lines[l].phase = .receiving) → s.lines[l].respLeft ≠ 1 →
        t.lines[l] = { s.lines[l] with respLeft := s.lines[l].respLeft - 1 }) ∧
      (∀ l : Fin 8, s.lines[l].phase = .spacing → s.lines[l].spaceLeft ≠ 1 →
        t.lines[l] = { s.lines[l] with spaceLeft := s.lines[l].spaceLeft - 1 }) ∧
      (1000 ≤ s.ms + 1 → ∀ n : Fin 8, s.branches[n].gate = .counting →
        s.branches[n].elapsed + 1 < s.branches[n].mode.seconds →
        t.branches[n].gate = .counting ∧ t.branches[n].elapsed = s.branches[n].elapsed + 1) ∧
      (1000 ≤ s.ms + 1 → (∀ l : Fin 8, s.lines[l].phase = .none ∨ s.lines[l].phase = .sending) →
        (∀ l : Fin 8, s.lines[l].state = .polling → s.lines[l].phase = .none → s.pollable l = []) →
        ∀ id : Fin 96, s.conns[id].state = .suspended → s.conns[id].supervisor = false → s.conns[id].expired = false →
          t.conns[id].state = .suspended ∧ t.conns[id].holdLeft = s.conns[id].holdLeft - 1 ∧
          t.conns[id].expired = decide (s.conns[id].holdLeft ≤ 1)))

/-! ## Part reset -/

/-- Part reset, from every state, leaves the reset values of every chapter (R29, R57, R73, R86, R110, R134, R154, R175,
R193, R203): no connection, no drop, an IDLE engine, the plant record with the TRIP level sampled at reset release,
every line DOWN, branches, drives, port and Attention Unit as after power-on. The queue is as it was; that SEL, an
input, keeps its level is assumption log 2. -/
def Obligations.PartResetState : Prop :=
  (∀ (trip : Bool) (s : State), ∃ t, exec (.partReset trip) s = .next t ∧ t.pending = s.pending ∧
      (∀ id : Fin 96, t.conns[id].state = .vacant ∧ t.conns[id].gen = 0 ∧ t.conns[id].line = 0 ∧ t.conns[id].cls = 0 ∧
        t.conns[id].effClass = 0 ∧ t.conns[id].sub = 0 ∧ t.conns[id].dt = 0 ∧ t.conns[id].maxFlow = 0 ∧
        t.conns[id].fallback = none ∧ t.conns[id].hold = none ∧ t.conns[id].noCause = true ∧
        t.conns[id].expired = false ∧ t.conns[id].holdLeft = 0 ∧ t.conns[id].demand = 0 ∧ t.conns[id].demandSnap = 0 ∧
        t.conns[id].granted = 0 ∧ t.conns[id].ceiling = 0 ∧ t.conns[id].score = 0 ∧ t.conns[id].lowDt = false ∧
        t.conns[id].curtailed = false ∧ t.conns[id].ramp = false ∧ t.conns[id].moved = false) ∧
      t.drops = [] ∧ t.freeSlots = 160 ∧ t.computing = false ∧ t.engine.pend = false ∧ t.engine.rerun = false ∧
      t.engine.rampUnfinished = false ∧ t.engine.overcommit = false ∧ t.engine.passCount = 0 ∧ t.engine.abandoned = 0 ∧
      t.engine.skipped = 0 ∧ t.engine.snapCount = 0 ∧ t.engine.headroom = 0 ∧ t.engine.interval = 5 ∧
      t.engine.rampPct = 20 ∧ t.engine.deadband = 50 ∧ t.engine.counter = 0 ∧ t.engine.curtail = [] ∧ t.demote = 30 ∧
      t.holdSetting = 60) ∧
  (∀ (trip : Bool) (s : State), ∃ t, exec (.partReset trip) s = .next t ∧
      t.plant.offer = 0 ∧ t.plant.emergency = 0 ∧ t.plant.setpoint = 70 ∧ t.plant.run = 0 ∧ t.plant.snapOffer = 0 ∧
      t.plant.level = trip ∧ t.plant.latch = trip ∧ t.effectiveOffer = 0 ∧
      ∀ l : Fin 8, t.lines[l].state = .down ∧ t.lines[l].stop = false ∧ t.lines[l].rate = 0 ∧ t.lines[l].spacing = 100 ∧
        t.lines[l].timeout = 50 ∧ t.lines[l].mode = .normal ∧ t.lines[l].walk = 0 ∧ t.lines[l].phase = .none ∧
        t.lines[l].polled = 0 ∧ t.lines[l].rounds = 0 ∧ t.lines[l].bad = 0 ∧ t.lines[l].latch = false ∧
        t.lines[l].crcCount = 0 ∧ t.lines[l].brokenCount = 0 ∧ t.lines[l].strayCount = 0 ∧ t.lines[l].lateCount = 0 ∧
        t.lines[l].loopGood = 0 ∧ t.lines[l].loopBad = 0 ∧ t.lines[l].te = false ∧ t.lines[l].hears = false) ∧
  (∀ (trip : Bool) (s : State), ∃ t, exec (.partReset trip) s = .next t ∧
      (∀ n : Fin 8, t.branches[n].limit = 65535 ∧ t.branches[n].k = 1000 ∧ t.branches[n].prescale = 1 ∧
        t.branches[n].mode = .off ∧ t.branches[n].gate = .shut ∧ t.branches[n].divider = false ∧
        t.branches[n].live = 0 ∧ t.branches[n].last = 0 ∧ t.branches[n].flow = 0 ∧ t.branches[n].elapsed = 0 ∧
        t.branches[n].liveOver = false ∧ t.branches[n].lastOver = false ∧ t.branches[n].flowValid = false ∧
        t.branches[n].cascade = false ∧ t.branches[n].overRun = 0 ∧ t.branches[n].overdrawn = false ∧
        t.branches[n].base = 0 ∧ t.branches[n].trim = 20 ∧ t.branches[n].limited = false ∧ t.branches[n].stranded = 0) ∧
      (∀ n : Fin 8, t.drives[n].state = .unhomed ∧ t.drives[n].travel = 2000 ∧ t.drives[n].excitation = .half ∧
        t.drives[n].rate = 200 ∧ t.drives[n].ratio = 4 ∧ t.drives[n].tolerance = 16 ∧ t.drives[n].position = 0 ∧
        t.drives[n].known = false ∧ t.drives[n].target = 0 ∧ t.drives[n].phase = 0 ∧ t.drives[n].outputs = 0 ∧
        t.drives[n].encoder = 0 ∧ t.drives[n].stepPending = false ∧ t.drives[n].homingSteps = 0 ∧
        t.drives[n].reason = .none ∧ t.drives[n].homeSample = false) ∧
      t.port.bitCount = 0 ∧ t.port.phase = .idle ∧ t.port.cmd = none ∧ t.port.pos = 0 ∧ t.port.outPos = 0 ∧
      t.port.captured = none ∧ t.port.result = .ok ∧ t.port.pointer = 0 ∧ t.port.sdo = none ∧
      t.port.listening = false ∧ t.port.selLow = s.port.selLow ∧
      (∀ c : Cause, t.att.isPending c = false ∧ t.att.unitsOf c = 0) ∧ (∀ g : Fin 6, t.att.levels[g] = 0) ∧
      t.att.threshold = 0 ∧ t.att.atn = false ∧ t.att.changed = 0)

/-! ## The port -/

/-- While SEL is high, and after a reset until SEL has been seen high, the port takes no byte and no SCK edge (R176,
R193). -/
def Obligations.PortDeafWhileDeselected : Prop :=
  ∀ (i : Instr) (s : State), i.clocked = true → s.port.listening = false → s.Settled → exec i s = .next s

/-- Host commands answer by the bytes they are made of, and a parameter byte given on its own goes on where they
stopped (R182). A whole or read command with parameter bytes still to come acts on nothing but the port (R182, R183). A
parameter byte given on its own (R180, R182, R183, R185): with more bytes still to come it is held and the position
moves on; whatever it completes, it has the effect of the command sent with it; in DATA it is one byte period, its
value ignored. A parameter byte in DATA is one byte period (R180, R185). -/
def Obligations.BytesMakeCommands : Prop :=
  (∀ (i : Instr) (c : Cmd) (p : List Byte) (home : Bool) (s : State), i.host = some (c, p, home) →
      exec i s = .next (s.send c p home) ∧
        ∀ b : Byte, exec (.parameterByte b home) (s.send c p home) = .next (s.send c (p ++ [b]) home)) ∧
  (∀ (i : Instr) (c : Cmd) (p : List Byte) (home : Bool) (s : State), i.host = some (c, p, home) → s.Ready →
      c.kind ≠ .field → p.length < c.paramsNeeded p →
      exec i s = .next { s with port := s.port.opened c p.length p 0 false }) ∧
  (∀ (c : Cmd) (p : List Byte) (b : Byte) (home : Bool) (s u : State), c.kind ≠ .field → s.Ready →
      u = { s with port := s.port.opened c p.length p 0 false } →
      (p.length + 1 < c.paramsNeeded (p ++ [b]) →
        exec (.parameterByte b home) u = .next { s with port := s.port.opened c (p.length + 1) (p ++ [b]) 0 false }) ∧
      (p.length < c.paramsNeeded p →
        exec (.parameterByte b home) u = .next (s.send c (p ++ [b]) home) ∧
        ∀ i : Instr, i.host = some (c, p ++ [b], home) → exec (.parameterByte b home) u = exec i s)) ∧
  (∀ (b : Byte) (home : Bool) (s : State), s.port.phase = .data → exec (.parameterByte b home) s = exec .dataBytePeriod s)

/-- A command byte first ends the open command (R181): COLLECTING leaves INCOMPLETE; a read in DATA, whose byte due out
goes out in this byte period, keeps its result and gives back the changed-connection ids it captured and did not
deliver (R202). Then the byte acts as if none had been open; a code that names no command ends the open one in the same
way. -/
def Obligations.CommandByteEndsOpenCommand : Prop :=
  ∀ (i : Instr) (c : Cmd) (p : List Byte) (home : Bool) (s : State),
    (i.host = some (c, p, home) ∨ ∃ code, i = .badCommand code ∧ p = []) → s.port.listening = true → s.Settled →
    (s.port.phase = .collecting → exec i s = exec i { s with port := s.port.closed .incomplete }) ∧
    (s.port.phase = .data → ∀ u, u = s.placeMsb →
      ∃ t, exec i { u with port := u.port.closed s.port.result,
                           att := { u.att with changed := u.att.changed ||| u.port.held.getD 0 } } = .next t ∧
        exec i s = .next (if p = [] then { t with port := t.port.period u.port.outByte } else t))

/-- A code that names no command gives BAD_COMMAND and opens nothing (R181). The codes that name no command (R208). A
parameter byte with no command open is ignored (R180). -/
def Obligations.BytesOfNoCommand : Prop :=
  (∀ (code : Byte) (s : State), s.Ready → Cmd.ofCode code = none →
      exec (.badCommand code) s = .next (s.refuse .badCommand)) ∧
  (∀ b : Byte, Cmd.ofCode b = none ↔
      (0x01 ≤ b ∧ b ≤ 0x0F) ∨ (0x1B ≤ b ∧ b ≤ 0x1F) ∨ (0x23 ≤ b ∧ b ≤ 0x27) ∨ (0x2B ≤ b ∧ b ≤ 0x2F) ∨
        (0x34 ≤ b ∧ b ≤ 0x3F) ∨ (0x47 ≤ b ∧ b ≤ 0x4F) ∨ (0x55 ≤ b ∧ b ≤ 0x5F) ∨ (0x63 ≤ b ∧ b ≤ 0x6F) ∨ 0x75 ≤ b) ∧
  (∀ (b : Byte) (home : Bool) (s : State), s.Ready →
      exec (.parameterByte b home) s = .next { s with port := s.port.period 0 })

/-- A read with no parameter bytes enters DATA with result OK; READ RESULT writes no result (R185, R188). The parameter
position is 0 in DATA (assumption log 35). A read with parameter bytes is checked as it enters DATA: BAD_ID, BAD_PARAM
or OK (R27, R28, R109, R153, R174). The parameter position is 0 in DATA here too. -/
def Obligations.ReadsEnterData : Prop :=
  (∀ s : State, s.Ready →
      exec .readResult s = .next { s with port := s.port.reading .readResult [] true s.port.result } ∧
      exec .streamReadTable s = .next { s with port := s.port.reading .streamReadTable [] true .ok } ∧
      exec .readPassStatus s = .next { s with port := s.port.reading .readPassStatus [] true .ok } ∧
      exec .readCurtailmentList s = .next { s with port := s.port.reading .readCurtailmentList [] true .ok } ∧
      exec .readPlant s = .next { s with port := s.port.reading .readPlant [] true .ok } ∧
      exec .readAttention s = .next { s with port := s.port.reading .readAttention [] true .ok } ∧
      exec .readChangedSet s = .next { s with port := s.port.reading .readChangedSet [] true .ok }) ∧
  (∀ (s : State) (a b : Byte), s.Ready →
      exec (.readConnection [a]) s = .next { s with port := (if 95 < a.toNat
        then s.port.reading .readConnection [a] false .badId else s.port.reading .readConnection [a] true .ok) } ∧
      exec (.readDrop [a, b]) s = .next { s with port := (if 7 < a.toNat ∨ b.toNat < 1 ∨ 30 < b.toNat
        then s.port.reading .readDrop [a, b] false .badParam else s.port.reading .readDrop [a, b] true .ok) } ∧
      exec (.readLine [a]) s = .next { s with port := (if 7 < a.toNat
        then s.port.reading .readLine [a] false .badParam else s.port.reading .readLine [a] true .ok) } ∧
      exec (.readBranch [a]) s = .next { s with port := (if 7 < a.toNat
        then s.port.reading .readBranch [a] false .badParam else s.port.reading .readBranch [a] true .ok) } ∧
      exec (.readValve [a]) s = .next { s with port := (if 7 < a.toNat
        then s.port.reading .readValve [a] false .badParam else s.port.reading .readValve [a] true .ok) })

/-- After its dummy byte a read returns its data byte by byte and then 00, what was captured at the first data byte; a
refused read captures nothing and returns 00 throughout (R185, R186). Streams and the changed-connection set have
statements of their own. Captured data goes out as it was captured, whatever the state is by then (R186). -/
def Obligations.ReadReturnsDummyThenData : Prop :=
  (∀ (s : State) (c : Cmd) (a : List Byte) (ok : Bool) (r : Result) (k : Nat), s.Ready → s.port.selLow = true →
      c ≠ .streamReadTable → c ≠ .readChangedSet →
      ∃ t, Host.Core.run core (k + 1)
          { s with port := s.port.reading c a ok r, pending := List.replicate (k + 1) .dataBytePeriod } = .next t ∧
        t.port.phase = .data ∧ t.port.outPos = k + 1 ∧ t.port.result = r ∧
        t.port.lastOut = (if ok = true ∧ 1 ≤ k then
          (({ s with port := s.port.reading c a ok r } : State).readData c a).getD (k - 1) 0 else 0) ∧
        t.port.captured = (if ok = true ∧ 1 ≤ k then
          some (({ s with port := s.port.reading c a ok r } : State).readData c a) else none) ∧
        t.conns = s.conns ∧ t.drops = s.drops ∧ t.engine = s.engine ∧ t.plant = s.plant ∧ t.lines = s.lines ∧
        t.branches = s.branches ∧ t.drives = s.drives ∧ t.att = s.att) ∧
  (∀ (s : State) (c : Cmd) (img : List Byte), s.port.listening = true → s.Settled → s.port.phase = .data →
      s.port.cmd = some c → c ≠ .streamReadTable → c ≠ .readChangedSet → s.port.readOk = true →
      s.port.captured = some img → 1 ≤ s.port.outPos →
      exec .dataBytePeriod s = .next { s with
        port := { s.port.period (img.getD (s.port.outPos - 1) 0) with outPos := s.port.outPos + 1 } })

/-- The 30 bytes of a record image, from READ CONNECTION and from a stream step (R27, R205). The 20 bytes of a drop
image, and of an address with no slot in use (R28, R205). -/
def Obligations.RecordAndDropImages : Prop :=
  (∀ (s : State) (id : Fin 96) (d : List Byte),
      (d = s.readData .readConnection [BitVec.ofNat 8 id.val] ∨ (s.port.pointer = id ∧ d = s.readData .streamReadTable [])) →
      d.length = 30 ∧ arg d 0 = id.val ∧
      arg d 1 = (match s.conns[id].state with
        | .vacant => 0 | .pending => 1 | .active => 2 | .suspended => 3 | .retiring => 4) ∧
      arg d 2 = s.conns[id].gen % 256 ∧ arg d 3 = s.conns[id].line.val ∧ arg d 4 = s.conns[id].cls % 256 ∧
      arg d 5 = (if s.conns[id].cls = 1 ∧ s.conns[id].lowDt = true then 2 else s.conns[id].cls % 256) ∧
      (d.getD 6 0).getLsbD 0 = s.conns[id].hold.isSome ∧ (d.getD 6 0).getLsbD 1 = s.conns[id].fallback.isSome ∧
      (d.getD 6 0).getLsbD 2 = s.conns[id].lowDt ∧ (d.getD 6 0).getLsbD 3 = s.conns[id].curtailed ∧
      (d.getD 6 0).getLsbD 4 = s.conns[id].ramp ∧ (d.getD 6 0).getLsbD 5 = s.conns[id].expired ∧
      (d.getD 6 0).getLsbD 6 = s.conns[id].moved ∧ (d.getD 6 0).getLsbD 7 = false ∧
      (d.getD 7 0).getLsbD 0 = s.conns[id].comms ∧ (d.getD 7 0).getLsbD 1 = s.conns[id].lineCause ∧
      (d.getD 7 0).getLsbD 2 = s.conns[id].supervisor ∧ arg d 7 < 8 ∧
      arg2 d 8 = s.conns[id].sub % 65536 ∧ arg d 10 = s.conns[id].dt % 256 ∧ arg2 d 11 = s.conns[id].maxFlow % 65536 ∧
      arg2 d 13 = s.conns[id].fallback.getD 65535 % 65536 ∧ arg2 d 15 = s.conns[id].hold.getD 65535 % 65536 ∧
      arg2 d 17 = s.conns[id].demand % 65536 ∧ arg2 d 19 = s.conns[id].granted % 65536 ∧
      arg2 d 21 = s.conns[id].ceiling % 65536 ∧ arg d 23 = s.conns[id].score % 256 ∧
      arg d 24 = (s.dropsOf id).length % 256 ∧
      (∀ k < 3, arg d (25 + k) = ((s.dropsOf id).map (·.addr)).getD k 0 % 256) ∧
      arg2 d 28 = s.conns[id].holdLeft % 65536) ∧
  (∀ (s : State) (l : Fin 8) (a : Byte) (d : List Byte), d = s.readData .readDrop [BitVec.ofNat 8 l.val, a] →
      d.length = 20 ∧
      (s.findDrop l a.toNat = none → arg d 0 = 255 ∧ ∀ k < 19, arg d (k + 1) = 0) ∧
      ∀ x ∈ s.findDrop l a.toNat, arg d 0 = x.conn.val ∧ arg d 1 = s.conns[x.conn].gen % 256 ∧
        arg d 2 = (match x.state with | .joining => 0 | .live => 1 | .silent => 2) ∧
        arg d 3 = (match x.origin with | .create => 0 | .add => 1) ∧ arg d 4 = x.missed % 256 ∧
        arg2 d 5 = x.demand % 65536 ∧ (arg2 d 7 : Int) = x.supply % 65536 ∧ (arg2 d 9 : Int) = x.ret % 65536 ∧
        arg2 d 11 = x.flow % 65536 ∧ arg d 13 = x.valve % 256 ∧ (d.getD 14 0).getLsbD 0 = x.localOverride ∧
        (d.getD 14 0).getLsbD 1 = x.sensorFault ∧ arg d 14 < 4 ∧ (d.getD 15 0).getLsbD 0 = x.stale ∧
        (d.getD 15 0).getLsbD 1 = x.closed ∧ arg d 15 < 4 ∧ arg2 d 16 = x.share % 65536 ∧
        arg d 18 = x.closePolls % 256 ∧ arg d 19 = 0)

/-- The bytes of READ PASS STATUS, READ CURTAILMENT LIST and READ PLANT (R56, R63, R85, R206). The bytes of READ LINE
and READ BRANCH (R109, R145, R153, R207). The bytes of READ VALVE, READ ATTENTION, READ CHANGED SET and READ RESULT
(R174, R198, R202, R206, R207). -/
def Obligations.StatusImages : Prop :=
  (∀ (s : State) (e p c : List Byte), e = s.readData .readPassStatus [] → p = s.readData .readPlant [] →
      c = s.readData .readCurtailmentList [] →
      e.length = 17 ∧ p.length = 18 ∧ c.length = 1 + 4 * s.engine.curtail.length ∧
      arg e 0 = (if s.computing then 1 else 0) ∧ (e.getD 1 0).getLsbD 0 = s.engine.pend ∧
      (e.getD 1 0).getLsbD 1 = s.engine.rerun ∧ (e.getD 1 0).getLsbD 2 = s.engine.rampUnfinished ∧
      (e.getD 1 0).getLsbD 3 = s.engine.overcommit ∧ arg e 1 < 16 ∧ arg2 e 2 = s.engine.passCount % 65536 ∧
      arg2 e 4 = s.engine.abandoned % 65536 ∧ arg3 e 6 = s.engine.headroom % 16777216 ∧
      arg e 9 = s.engine.snapCount % 256 ∧ arg e 10 = s.engine.skipped % 256 ∧
      arg e 11 = s.engine.curtail.length % 256 ∧ arg e 12 = s.engine.interval % 256 ∧
      arg e 13 = s.engine.rampPct % 256 ∧ arg2 e 14 = s.engine.deadband % 65536 ∧
      arg e 16 = (s.engine.interval - s.engine.counter) % 256 ∧
      arg3 p 0 = s.plant.offer % 16777216 ∧ arg3 p 3 = s.plant.emergency % 16777216 ∧
      (arg2 p 6 : Int) = s.plant.setpoint % 65536 ∧ (p.getD 8 0).getLsbD 0 = s.plant.latch ∧
      (p.getD 8 0).getLsbD 1 = s.plant.level ∧ (p.getD 8 0).getLsbD 2 = s.plant.raw ∧
      (p.getD 8 0).getLsbD 3 = s.engine.overcommit ∧ arg p 8 < 16 ∧
      arg3 p 9 = (if s.plant.latch then s.plant.emergency else s.plant.offer) % 16777216 ∧
      arg3 p 12 = s.plant.snapOffer % 16777216 ∧ arg3 p 15 = s.engine.headroom % 16777216 ∧
      arg c 0 = s.engine.curtail.length % 256 ∧
      ∀ (k : Nat) (h : k < s.engine.curtail.length), arg c (1 + 4 * k) = s.engine.curtail[k].id.val ∧
        arg c (2 + 4 * k) = s.engine.curtail[k].cls % 256 ∧ arg2 c (3 + 4 * k) = s.engine.curtail[k].pass % 65536) ∧
  (∀ (s : State) (n : Fin 8) (d b : List Byte), d = s.readData .readLine [BitVec.ofNat 8 n.val] →
      b = s.readData .readBranch [BitVec.ofNat 8 n.val] →
      d.length = 27 ∧ b.length = 25 ∧
      arg d 0 = (match s.lines[n].state with
        | .down => 0 | .ready => 1 | .polling => 2 | .loopback => 3 | .faulted => 4) ∧
      (d.getD 1 0).getLsbD 0 = s.lines[n].stop ∧ (d.getD 1 0).getLsbD 1 = s.lines[n].latch ∧ arg d 1 < 4 ∧
      arg d 2 = s.lines[n].rate % 256 ∧ arg2 d 3 = s.lines[n].spacing % 65536 ∧ arg2 d 5 = s.lines[n].timeout % 65536 ∧
      arg d 7 = (if s.lines[n].mode = .normal then 0 else 1) ∧
      arg d 8 = (match s.lines[n].phase with
        | .none => 0 | .sending => 1 | .awaiting => 2 | .receiving => 3 | .spacing => 4) ∧
      arg d 9 = s.lines[n].polled % 256 ∧ arg d 10 = s.lines[n].walk % 256 ∧ arg2 d 11 = s.lines[n].rounds % 65536 ∧
      arg d 13 = (s.drops.countP (fun x => x.line == n)) % 256 ∧ arg d 14 = s.lines[n].bad % 256 ∧
      arg2 d 15 = s.lines[n].crcCount % 65536 ∧ arg2 d 17 = s.lines[n].brokenCount % 65536 ∧
      arg2 d 19 = s.lines[n].strayCount % 65536 ∧ arg2 d 21 = s.lines[n].lateCount % 65536 ∧
      arg2 d 23 = s.lines[n].loopGood % 65536 ∧ arg2 d 25 = s.lines[n].loopBad % 65536 ∧
      arg b 0 = (match s.branches[n].mode with | .off => 0 | .s1 => 1 | .s4 => 2 | .s10 => 3 | .openGate => 4) ∧
      arg b 1 = (match s.branches[n].gate with | .shut => 0 | .armed => 1 | .counting => 2 | .totalizing => 3) ∧
      (b.getD 2 0).getLsbD 0 = decide (s.branches[n].gate ≠ .shut) ∧ (b.getD 2 0).getLsbD 1 = s.branches[n].divider ∧
      (b.getD 2 0).getLsbD 2 = s.branches[n].liveOver ∧ (b.getD 2 0).getLsbD 3 = s.branches[n].lastOver ∧
      (b.getD 2 0).getLsbD 4 = s.branches[n].flowValid ∧ (b.getD 2 0).getLsbD 5 = s.branches[n].cascade ∧
      (b.getD 2 0).getLsbD 6 = s.branches[n].overdrawn ∧ (b.getD 2 0).getLsbD 7 = s.branches[n].limited ∧
      arg b 3 = s.branches[n].elapsed % 256 ∧ arg2 b 4 = s.branches[n].k % 65536 ∧
      arg b 6 = s.branches[n].prescale % 256 ∧ arg2 b 7 = s.branches[n].live % 65536 ∧
      arg2 b 9 = s.branches[n].last % 65536 ∧ arg2 b 11 = s.branches[n].flow % 65536 ∧
      (n.val % 2 = 1 ∨ s.branches[n].cascade = false → arg2 b 13 = 0 ∧ arg2 b 15 = 0) ∧
      (n.val % 2 = 0 → s.branches[n].cascade = true → s.branches[n].live ≤ 65535 →
        arg2 b 13 = s.branches[n + 1].live % 65536 ∧ arg2 b 15 = s.branches[n].live) ∧
      arg b 17 = s.branches[n].overRun % 256 ∧ arg2 b 18 = s.branches[n].base % 65536 ∧
      arg b 20 = s.branches[n].trim % 256 ∧ arg2 b 21 = s.branches[n].limit % 65536 ∧
      arg2 b 23 = s.branches[n].stranded % 65536) ∧
  (∀ (s : State) (n : Fin 8) (d a c : List Byte), d = s.readData .readValve [BitVec.ofNat 8 n.val] →
      a = s.readData .readAttention [] → c = s.readData .readChangedSet [] →
      d.length = 23 ∧ a.length = 9 ∧ c.length = 12 ∧
      arg d 0 = (match s.drives[n].state with | .unhomed => 0 | .homing => 1 | .idle => 2 | .moving => 3 | .fault => 4) ∧
      arg d 1 = (match s.drives[n].reason with | .none => 0 | .stall => 1 | .encoder => 2 | .homeLimit => 3) ∧
      arg2 d 2 = s.drives[n].position % 65536 ∧ (d.getD 4 0).getLsbD 0 = s.drives[n].known ∧
      (d.getD 4 0).getLsbD 1 = s.drives[n].coils ∧ (d.getD 4 0).getLsbD 2 = s.drives[n].homeSample ∧ arg d 4 < 8 ∧
      arg2 d 5 = s.drives[n].target % 65536 ∧ arg d 7 = s.drives[n].phase % 256 ∧
      (arg3 d 8 : Int) = s.drives[n].encoder % 16777216 ∧
      (s.drives[n].known = false → arg3 d 11 = 0) ∧
      (s.drives[n].known = true → (arg3 d 11 : Int) =
        max (-8388608) (min 8388607 (s.drives[n].encoder - s.drives[n].position * s.drives[n].ratio)) % 16777216) ∧
      arg2 d 14 = s.drives[n].homingSteps % 65536 ∧ arg2 d 16 = s.drives[n].travel % 65536 ∧
      arg d 18 = (match s.drives[n].excitation with | .wave => 0 | .twoPhase => 1 | .half => 2) ∧
      arg2 d 19 = s.drives[n].rate % 65536 ∧ arg d 21 = s.drives[n].ratio % 256 ∧ arg d 22 = s.drives[n].tolerance % 256 ∧
      ((∀ g, s.att.groupPending g = false) → ∀ k < 6, arg a k = if k = 0 then 255 else 0) ∧
      (∀ g : Fin 6, s.att.groupPending g = true →
        (∀ h : Fin 6, s.att.groupPending h = true → s.att.levels[h] < s.att.levels[g] ∨
          (s.att.levels[h] = s.att.levels[g] ∧ g ≤ h)) →
        arg a 0 = g.val ∧ arg a 1 = s.att.levels[g] % 256 ∧
        ∀ (k : Nat) (q : Cause), (groupCauses g)[k]? = some q →
          (a.getD 2 0).getLsbD k = s.att.isPending q ∧ a.getD (3 + k) 0 = s.att.unitsOf q) ∧
      (∀ g : Fin 6, (a.getD 6 0).getLsbD g.val = s.att.groupPending g) ∧ arg a 7 = s.att.threshold % 256 ∧
      arg a 8 = (if s.att.atn then 1 else 0) ∧
      (∀ id : Fin 96, (c.getD (id.val / 8) 0).getLsbD (7 - id.val % 8) = s.att.changed.getLsbD id.val) ∧
      s.readData .readResult [] = [match s.port.result with
        | .ok => 0x00 | .clamped => 0x01 | .incomplete => 0x02 | .badCommand => 0x03 | .badId => 0x04
        | .badParam => 0x05 | .badState => 0x06 | .occupied => 0x07 | .dropInUse => 0x08 | .dropPoolFull => 0x09])

/-- A stream delivers one image after another (R190): each image is captured when its own first byte goes out, and the
last byte of an image moves the stream pointer on, from 95 to 0. READ CHANGED SET empties the set as its first data
byte goes out and keeps what it captured until the twelfth has gone out whole (R202). The first data byte of READ
CHANGED SET captures the set and empties it whichever edge places its first bit (R186, R202): SEL asserted, an SCK edge
alone or with a sample, or the whole byte period at once (assumption log 15). -/
def Obligations.StreamsAndChangedSet : Prop :=
  (∀ (s : State) (img : List Byte), s.port.listening = true → s.Settled → s.port.phase = .data →
      s.port.cmd = some .streamReadTable → s.port.readOk = true → 1 ≤ s.port.outPos →
      (s.port.captured = some img ∨ (s.port.captured = none ∧ s.port.msb = false ∧ img = s.connImage s.port.pointer)) →
      exec .dataBytePeriod s = .next { s with port := { s.port.period (img.getD ((s.port.outPos - 1) % 30) 0) with
        outPos := s.port.outPos + 1
        captured := if (s.port.outPos - 1) % 30 = 29 then none else some img
        pointer := if (s.port.outPos - 1) % 30 = 29 then s.port.pointer + 1 else s.port.pointer } }) ∧
  (∀ s : State, s.port.listening = true → s.Settled → s.port.phase = .data → s.port.cmd = some .readChangedSet →
      s.port.readOk = true → s.port.msb = false →
      (s.port.outPos = 1 → s.port.captured = none →
        exec (.sckFallingEdge none) s = .next { s with
          port := { s.port with msb := true, captured := some (s.readData .readChangedSet []), held := some s.att.changed,
                                sdo := some (((s.readData .readChangedSet []).getD 0 0).getLsbD (7 - s.port.bitCount)) }
          att := { s.att with changed := 0 } }) ∧
      (∀ img, s.port.captured = some img → 1 ≤ s.port.outPos →
        exec .dataBytePeriod s = .next { s with port := { s.port.period (img.getD (s.port.outPos - 1) 0) with
          outPos := s.port.outPos + 1
          held := if s.port.outPos = 12 then none else s.port.held } })) ∧
  (∀ (s : State) (img : List Byte) (u : State), s.Settled → s.port.phase = .data → s.port.cmd = some .readChangedSet →
      s.port.readOk = true → s.port.msb = false → s.port.outPos = 1 → s.port.captured = none →
      img = s.readData .readChangedSet [] →
      u = { s with
        port := { s.port with msb := true, captured := some img, held := some s.att.changed }
        att := { s.att with changed := 0 } } →
      (s.port.selLow = false → exec .selAssert s = .next { u with port := { u.port with
        selLow := true, seenHigh := true, bitCount := 0, bits := 0, sdo := some ((img.getD 0 0).getLsbD 7) } }) ∧
      (s.port.listening = true →
        exec (.sckFallingEdge none) s = .next { u with port := { u.port with
          sdo := some ((img.getD 0 0).getLsbD (7 - s.port.bitCount)) } } ∧
        (s.port.bitCount < 7 → ∀ b : Bool, exec (.sckFallingEdge (some b)) s = .next { u with port := { u.port with
          bitCount := s.port.bitCount + 1, bits := (s.port.bits <<< 1) ||| (if b then 1 else 0)
          sdo := some ((img.getD 0 0).getLsbD (6 - s.port.bitCount)) } }) ∧
        exec .dataBytePeriod s = .next { u with port := { u.port.period (img.getD 0 0) with outPos := 2 } }))

/-- SEL asserted: the assembler empty, and the most significant bit of the byte due out placed, again or for the first
time; the first data byte of a read captures its data whole (R177, R178, R186). SEL released, a break or a pause: the
bits held are discarded, SDO is not driven, and the command record stays (R178, R179). An SCK edge within a byte shifts
SDI in and places the next bit of the byte due out; a byte whose most significant bit has not been placed places it
first, and the first data byte of a read captures its data whole (R177, R186). -/
def Obligations.SelAndSckEdges : Prop :=
  (∀ (s : State) (cap : Option (List Byte)), s.port.selLow = false → s.Settled →
      ((s.port.captureDue = false ∨ s.port.msb = true) ∧ cap = s.port.captured ∨
        s.port.captureDue = true ∧ s.port.msb = false ∧
          ∃ c, s.port.cmd = some c ∧ c ≠ .readChangedSet ∧ cap = some (s.readData c s.port.field)) →
      exec .selAssert s = .next { s with port := { s.port with
        selLow := true, seenHigh := true, bitCount := 0, bits := 0, msb := true, captured := cap
        sdo := some (({ s.port with captured := cap } : Port).outByte.getLsbD 7) } }) ∧
  (∀ s : State, s.Settled → exec .selRelease s = .next { s with port := { s.port with
      selLow := false, seenHigh := true, bitCount := 0, bits := 0, sdo := none } }) ∧
  (∀ (s : State) (b : Bool) (cap : Option (List Byte)), s.port.listening = true → s.Settled →
      ((s.port.captureDue = false ∨ s.port.msb = true) ∧ cap = s.port.captured ∨
        s.port.captureDue = true ∧ s.port.msb = false ∧
          ∃ c, s.port.cmd = some c ∧ c ≠ .readChangedSet ∧ cap = some (s.readData c s.port.field)) →
      exec (.sckFallingEdge none) s = .next { s with port := { s.port with
        msb := true, captured := cap
        sdo := some (({ s.port with captured := cap } : Port).outByte.getLsbD (7 - s.port.bitCount)) } } ∧
      (s.port.bitCount < 7 → exec (.sckFallingEdge (some b)) s = .next { s with port := { s.port with
        msb := true, captured := cap, bitCount := s.port.bitCount + 1
        bits := (s.port.bits <<< 1) ||| (if b then 1 else 0)
        sdo := some (({ s.port with captured := cap } : Port).outByte.getLsbD (6 - s.port.bitCount)) } }))

/-! ## Service connections -/

/-- CREATE CONNECTION accepted (R1, R8, R12): a new generation, the contract brought into range, PENDING with every
other field cleared, and one JOINING slot of origin CREATE for each address, entered in address order. The change is
reported and is no trigger. CREATE CONNECTION refused, in the order of its checks: nothing but the port changes (R11).
-/
def Obligations.CreateConnectionActs : Prop :=
  (∀ (s : State) (p : List Byte) (id : Fin 96) (l : Fin 8) (m : Nat), s.Ready →
      arg p 0 = id.val → arg p 1 = l.val → (arg p 10 = 1 ∨ arg p 10 = 2 ∨ arg p 10 = 3) → p.length = 11 + arg p 10 →
      m = max 1 (min 20000 (arg2 p 6)) →
      s.conns[id].state = .vacant → arg p 2 ≤ 2 → (∀ x ∈ p.drop 11, 1 ≤ x.toNat ∧ x.toNat ≤ 30) → (p.drop 11).Nodup →
      (∀ x ∈ p.drop 11, ∀ d ∈ s.drops, d.line = l → d.addr ≠ x.toNat) → s.drops.length + arg p 10 ≤ 160 →
      exec (.createConnection p) s = .next ({ s with
        port := s.port.closed (okOrClamped (!(50 ≤ arg2 p 3 && arg2 p 3 ≤ 30000 && 40 ≤ arg p 5 && arg p 5 ≤ 120 &&
          1 ≤ arg2 p 6 && arg2 p 6 ≤ 20000 && (arg2 p 8 == 65535 || arg2 p 8 ≤ m))))
        conns := s.conns.set id { Conn.vacant ((s.conns[id].gen + 1) % 256) with
          state := .pending, line := l, cls := arg p 2, sub := max 50 (min 30000 (arg2 p 3))
          dt := max 40 (min 120 (arg p 5)), maxFlow := m
          fallback := if arg2 p 8 = 65535 then none else some (min (arg2 p 8) m) }
        drops := (p.drop 11).foldl (fun ds x => insertDrop (Drop.fresh l x.toNat id .create) ds) s.drops
        att := (s.att.raise .stateChanged).enter id } : State).attend) ∧
  (∀ (s : State) (p : List Byte), s.Ready →
      (p.length = 11 → (arg p 10 = 0 ∨ 3 < arg p 10) → exec (.createConnection p) s = .next (s.refuse .badParam)) ∧
      ((arg p 10 = 1 ∨ arg p 10 = 2 ∨ arg p 10 = 3) → p.length = 11 + arg p 10 →
        (95 < arg p 0 → exec (.createConnection p) s = .next (s.refuse .badId)) ∧
        ∀ id : Fin 96, arg p 0 = id.val →
          (s.conns[id].state ≠ .vacant → exec (.createConnection p) s = .next (s.refuse .occupied)) ∧
          (s.conns[id].state = .vacant →
            ((7 < arg p 1 ∨ 2 < arg p 2 ∨ (∃ x ∈ p.drop 11, x.toNat < 1 ∨ 30 < x.toNat) ∨ ¬ (p.drop 11).Nodup) →
              exec (.createConnection p) s = .next (s.refuse .badParam)) ∧
            (arg p 1 ≤ 7 → arg p 2 ≤ 2 → (∀ x ∈ p.drop 11, 1 ≤ x.toNat ∧ x.toNat ≤ 30) → (p.drop 11).Nodup →
              ((∃ x ∈ p.drop 11, ∃ d ∈ s.drops, d.line.val = arg p 1 ∧ d.addr = x.toNat) →
                exec (.createConnection p) s = .next (s.refuse .dropInUse)) ∧
              ((∀ x ∈ p.drop 11, ∀ d ∈ s.drops, d.line.val = arg p 1 → d.addr ≠ x.toNat) →
                160 < s.drops.length + arg p 10 →
                exec (.createConnection p) s = .next (s.refuse .dropPoolFull))))))

/-- EDIT CONNECTION sent whole on a record it accepts (R22, R23, R24): each field brought into range and stored,
CLAMPED when a field value was (a stored fallback that a new M lowers does not count, which is assumption log 19), the
grants and the drop shares brought down to the new S and M, a hold on an ACTIVE connection taking it off the
curtailment list, the record moved and pending set. EDIT CONNECTION refused at its id or its class leaves every record
as it was, and one broken off after its class, the one place of a break shown here, has stored the class (R22, R184).
-/
def Obligations.EditConnectionActs : Prop :=
  (∀ (s : State) (p : List Byte) (id : Fin 96) (m sum : Nat), s.Ready → p.length = 11 → arg p 0 = id.val →
      (s.conns[id].state = .pending ∨ s.conns[id].state = .active ∨ s.conns[id].state = .suspended) → arg p 1 ≤ 2 →
      m = max 1 (min 20000 (arg2 p 5)) → sum = ((s.dropsOf id).map (·.share)).sum →
      exec (.editConnection p) s = .next { s with
        port := s.port.closed (okOrClamped (!(50 ≤ arg2 p 2 && arg2 p 2 ≤ 30000 && 40 ≤ arg p 4 && arg p 4 ≤ 120 &&
          1 ≤ arg2 p 5 && arg2 p 5 ≤ 20000 && (arg2 p 7 == 65535 || arg2 p 7 ≤ m))))
        conns := s.conns.set id { s.conns[id] with
          cls := arg p 1, sub := max 50 (min 30000 (arg2 p 2)), dt := max 40 (min 120 (arg p 4)), maxFlow := m
          granted := min s.conns[id].granted (max 50 (min 30000 (arg2 p 2)))
          ceiling := min s.conns[id].ceiling m
          fallback := if arg2 p 7 = 65535 then none else some (min (arg2 p 7) m)
          hold := if arg2 p 9 = 65535 then none else some (arg2 p 9)
          curtailed := if s.conns[id].state = .active ∧ arg2 p 9 ≠ 65535 then false else s.conns[id].curtailed
          ramp := if s.conns[id].state = .active ∧ arg2 p 9 ≠ 65535 then false else s.conns[id].ramp
          moved := true }
        drops := if m < sum then s.drops.map (fun d => if d.conn = id then { d with share := d.share * m / sum } else d)
          else s.drops
        engine := { s.engine with
          pend := true
          curtail := if s.conns[id].state = .active ∧ arg2 p 9 ≠ 65535
            then s.engine.curtail.filter (fun e => e.id ≠ id) else s.engine.curtail } }) ∧
  (∀ (s : State) (a v : Byte), s.Ready →
      (95 < a.toNat → exec (.editConnection [a]) s = .next (s.refuse .badId)) ∧
      ∀ id : Fin 96, a.toNat = id.val →
        ((s.conns[id].state = .vacant ∨ s.conns[id].state = .retiring) →
          exec (.editConnection [a]) s = .next (s.refuse .badState)) ∧
        ((s.conns[id].state = .pending ∨ s.conns[id].state = .active ∨ s.conns[id].state = .suspended) →
          exec (.editConnection [a]) s = .next { s with port := s.port.opened .editConnection 1 [] id.val false } ∧
          (2 < v.toNat → exec (.editConnection [a, v]) s = .next (s.refuse .badParam)) ∧
          (v.toNat ≤ 2 → exec (.editConnection [a, v]) s = .next { s with
            port := s.port.opened .editConnection 2 [] id.val false
            conns := s.conns.set id { s.conns[id] with cls := v.toNat, moved := true }
            engine := { s.engine with pend := true } })))

/-- SUSPEND (R17): it suspends an ACTIVE connection with its hold expired at once and then takes the snapshot of the
urgent trigger at the event's end (assumption log 10), adds SUPERVISOR to a SUSPENDED one and expires its hold if it
has not, and changes nothing on one that holds SUPERVISOR. RESUME (R18, R19): without SUPERVISOR it changes nothing;
with another cause left the connection stays SUSPENDED; the last cause gone, it returns to ACTIVE with its reservation,
or with its fallback power and flow after a hold that expired; the pass follows at the event's end (assumption log 10).
-/
def Obligations.SuspendAndResumeAct : Prop :=
  (∀ (s : State) (a : Byte), s.Ready →
      (95 < a.toNat → exec (.suspend [a]) s = .next (s.refuse .badId)) ∧
      ∀ (id : Fin 96) (c : Conn) (split : List Drop), a.toNat = id.val → c = s.conns[id] →
        split = s.drops.map (fun d => if d.conn = id then
          { d with share := fallbackShare (c.fallback.getD 0) (s.dropsOf id) d } else d) →
        (c.state ≠ .active → c.state ≠ .suspended → exec (.suspend [a]) s = .next (s.refuse .badState)) ∧
        (c.state = .active → exec (.suspend [a]) s = .next ({ s with
          port := s.port.closed .ok
          conns := s.conns.set id { c with state := .suspended, supervisor := true, curtailed := false, ramp := false,
                                           expired := true, holdLeft := 0, moved := true }
          drops := split
          engine := { s.engine with pend := true, curtail := s.engine.curtail.filter (fun e => e.id ≠ id) }
          att := (s.att.raise .stateChanged).enter id } : State).answered) ∧
        (c.state = .suspended → c.supervisor = true →
          exec (.suspend [a]) s = .next { s with port := s.port.closed .ok }) ∧
        (c.state = .suspended → c.supervisor = false → c.expired = true →
          exec (.suspend [a]) s = .next { s with
            port := s.port.closed .ok, conns := s.conns.set id { c with supervisor := true, moved := true } }) ∧
        (c.state = .suspended → c.supervisor = false → c.expired = false →
          exec (.suspend [a]) s = .next { s with
            port := s.port.closed .ok
            conns := s.conns.set id { c with supervisor := true, expired := true, holdLeft := 0, moved := true }
            drops := split
            engine := { s.engine with pend := true } })) ∧
  (∀ (s : State) (a : Byte), s.Ready →
      (95 < a.toNat → exec (.resume [a]) s = .next (s.refuse .badId)) ∧
      ∀ (id : Fin 96) (c : Conn), a.toNat = id.val → c = s.conns[id] →
        (c.state ≠ .suspended → exec (.resume [a]) s = .next (s.refuse .badState)) ∧
        (c.state = .suspended → c.supervisor = false →
          exec (.resume [a]) s = .next { s with port := s.port.closed .ok }) ∧
        (c.state = .suspended → c.supervisor = true → (c.comms = true ∨ c.lineCause = true) →
          exec (.resume [a]) s = .next { s with
            port := s.port.closed .ok, conns := s.conns.set id { c with supervisor := false } }) ∧
        (c.state = .suspended → c.supervisor = true → c.comms = false → c.lineCause = false →
          exec (.resume [a]) s = .next ({ s with
            port := s.port.closed .ok
            conns := s.conns.set id { c with
              supervisor := false, state := .active, expired := false, holdLeft := 0, moved := true
              granted := if c.expired then fallbackPower c.sub c.dt c.fallback else c.granted
              ceiling := if c.expired then c.fallback.getD 0 else c.ceiling }
            att := (s.att.raise .stateChanged).enter id } : State).answered))

/-- RETIRE CONNECTION (R20, R21, R131): on a line that is POLLING the record enters RETIRING with its grant, demand,
causes and standing cleared; on any other line it goes on to VACANT in the same event, its slots freed and its
generation kept. The pass it triggers starts at the event's end (assumption log 10). -/
def Obligations.RetireConnectionActs : Prop :=
  ∀ (s : State) (a : Byte), s.Ready →
    (95 < a.toNat → exec (.retireConnection [a]) s = .next (s.refuse .badId)) ∧
    ∀ (id : Fin 96) (c : Conn) (att : Attention), a.toNat = id.val → c = s.conns[id] →
      att = (if c.lowDt then (s.att.raise .lowDtChanged).raise .stateChanged else s.att.raise .stateChanged).enter id →
      ((c.state = .vacant ∨ c.state = .retiring) → exec (.retireConnection [a]) s = .next (s.refuse .badState)) ∧
      ((c.state = .pending ∨ c.state = .active ∨ c.state = .suspended) →
        (s.lines[c.line].state = .polling → exec (.retireConnection [a]) s = .next ({ s with
          port := s.port.closed .ok
          conns := s.conns.set id { c with
            state := .retiring, comms := false, lineCause := false, supervisor := false, expired := false, holdLeft := 0,
            demand := 0, granted := 0, ceiling := 0, score := 0, lowDt := false, curtailed := false, ramp := false,
            moved := true }
          drops := s.drops.map (fun d => if d.conn = id then { d with share := 0 } else d)
          engine := { s.engine with
            pend := s.engine.pend || c.lowDt, curtail := s.engine.curtail.filter (fun e => e.id ≠ id) }
          att := att } : State).answered) ∧
        (s.lines[c.line].state ≠ .polling → exec (.retireConnection [a]) s = .next ({ s with
          port := s.port.closed .ok
          conns := s.conns.set id (Conn.vacant c.gen)
          drops := s.drops.filter (fun d => d.conn ≠ id)
          engine := { s.engine with
            pend := s.engine.pend || c.lowDt, curtail := s.engine.curtail.filter (fun e => e.id ≠ id) }
          att := att.raise .retireDone } : State).answered))

/-- ADD DROP (R25): the checks in their order, and a JOINING slot of origin ADD on the connection's line. It is no
trigger and leaves the connection's state and moved flag. REMOVE DROP refused, in the order of its checks (R26). REMOVE
DROP from an ACTIVE connection, no exchange being open with the drop (R26; a LOOPBACK line that is sending has none,
though it sends to the same address): the slot is freed, the demand recomputed, the record moved and pending set.
REMOVE DROP on a PENDING connection (R13, R26): the connection enters service when the drops left meet the service
condition, and passes on to SUSPENDED when its line is not POLLING. The order of these effects is assumption log 11;
the snapshot of the urgent trigger comes at the event's end, so that in IDLE moved and pending end clear (assumption
log 10). REMOVE DROP on a SUSPENDED connection (R14, R18, R26): the record moved and pending set; the last SILENT drop
gone, the connection loses COMMS, and returns to ACTIVE when no cause is left, with the pass at the event's end; order
and pass as in logs 11 and 10. REMOVE DROP of the drop being polled cuts the exchange, in every state of the drop and
of the connection: the line goes on to SPACING without a miss (R26, R96). -/
def Obligations.DropsAddedAndRemoved : Prop :=
  (∀ (s : State) (a b : Byte), s.Ready → s.DemandRight →
      (95 < a.toNat → exec (.addDrop [a, b]) s = .next (s.refuse .badId)) ∧
      ∀ (id : Fin 96) (c : Conn), a.toNat = id.val → c = s.conns[id] →
        ((c.state = .vacant ∨ c.state = .retiring) → exec (.addDrop [a, b]) s = .next (s.refuse .badState)) ∧
        ((c.state = .pending ∨ c.state = .active ∨ c.state = .suspended) →
          ((b.toNat < 1 ∨ 30 < b.toNat ∨ 3 ≤ (s.dropsOf id).length) →
            exec (.addDrop [a, b]) s = .next (s.refuse .badParam)) ∧
          (1 ≤ b.toNat → b.toNat ≤ 30 → (s.dropsOf id).length < 3 →
            ((∃ d ∈ s.drops, d.line = c.line ∧ d.addr = b.toNat) →
              exec (.addDrop [a, b]) s = .next (s.refuse .dropInUse)) ∧
            ((∀ d ∈ s.drops, d.line = c.line → d.addr ≠ b.toNat) →
              (160 ≤ s.drops.length → exec (.addDrop [a, b]) s = .next (s.refuse .dropPoolFull)) ∧
              (s.drops.length < 160 → exec (.addDrop [a, b]) s = .next { s with
                port := s.port.closed .ok
                drops := insertDrop (Drop.fresh c.line b.toNat id .add) s.drops
                att := s.att.enter id }))))) ∧
  (∀ (s : State) (a b : Byte), s.Ready →
      (95 < a.toNat → exec (.removeDrop [a, b]) s = .next (s.refuse .badId)) ∧
      ∀ id : Fin 96, a.toNat = id.val →
        ((s.conns[id].state = .vacant ∨ s.conns[id].state = .retiring) →
          exec (.removeDrop [a, b]) s = .next (s.refuse .badState)) ∧
        ((s.conns[id].state = .pending ∨ s.conns[id].state = .active ∨ s.conns[id].state = .suspended) →
          ((∀ d ∈ s.dropsOf id, d.addr ≠ b.toNat) → exec (.removeDrop [a, b]) s = .next (s.refuse .badParam)) ∧
          ((∃ d ∈ s.dropsOf id, d.addr = b.toNat) → (s.dropsOf id).length ≤ 1 →
            exec (.removeDrop [a, b]) s = .next (s.refuse .badState)))) ∧
  (∀ (s : State) (a b : Byte) (id : Fin 96) (c : Conn) (x : Drop), s.Ready → s.PoolRight → a.toNat = id.val →
      c = s.conns[id] → c.state = .active → x ∈ s.dropsOf id → x.addr = b.toNat →
      2 ≤ (s.dropsOf id).length →
      (s.lines[x.line].state ≠ .polling ∨ s.lines[x.line].polled ≠ x.addr ∨ s.lines[x.line].phase = .none ∨
        s.lines[x.line].phase = .spacing) →
      exec (.removeDrop [a, b]) s = .next { s with
        port := s.port.closed .ok
        conns := s.conns.set id { c with
          demand := min 65535 (((s.dropsOf id).filter (fun d => d.addr ≠ x.addr ∧ d.state = .live)).map (·.demand)).sum
          moved := true }
        drops := s.drops.filter (fun d => d.line ≠ x.line ∨ d.addr ≠ x.addr)
        engine := { s.engine with pend := true }
        att := s.att.enter id }) ∧
  (∀ (s : State) (a b : Byte) (id : Fin 96) (c : Conn) (x : Drop) (rest : List Drop) (u : State), s.Ready → s.PoolRight →
      a.toNat = id.val → c = s.conns[id] → c.state = .pending → x ∈ s.dropsOf id → x.addr = b.toNat →
      2 ≤ (s.dropsOf id).length →
      (s.lines[x.line].state ≠ .polling ∨ s.lines[x.line].polled ≠ x.addr ∨ s.lines[x.line].phase = .none ∨
        s.lines[x.line].phase = .spacing) →
      rest = (s.dropsOf id).filter (fun d => d.addr ≠ x.addr) →
      u = { s with
        port := s.port.closed .ok
        conns := s.conns.set id { c with
          demand := min 65535 ((rest.filter (fun d => d.state = .live)).map (·.demand)).sum }
        drops := s.drops.filter (fun d => d.line ≠ x.line ∨ d.addr ≠ x.addr)
        att := s.att.enter id } →
      (((∀ d ∈ rest, d.state ≠ .live) ∨ ∃ d ∈ rest, d.state = .silent ∨ (d.state = .joining ∧ d.origin = .create)) →
        exec (.removeDrop [a, b]) s = .next u) ∧
      ((∃ d ∈ rest, d.state = .live) → (∀ d ∈ rest, d.state = .live ∨ (d.state = .joining ∧ d.origin = .add)) →
        (s.lines[c.line].state = .polling → exec (.removeDrop [a, b]) s = .next ({ u with
          conns := u.conns.set id { u.conns[id] with state := .active, granted := 0, ceiling := 0, moved := true }
          drops := u.drops.map (fun d => if d.conn = id then { d with share := 0 } else d)
          att := (s.att.raise .stateChanged).enter id } : State).answered) ∧
        (s.lines[c.line].state ≠ .polling → exec (.removeDrop [a, b]) s = .next ({ u with
          conns := u.conns.set id { u.conns[id] with
            state := .suspended, lineCause := true, granted := 0, ceiling := 0, curtailed := false, ramp := false
            expired := false, holdLeft := s.holdSetting, moved := true }
          drops := u.drops.map (fun d => if d.conn = id then { d with share := 0 } else d)
          engine := { s.engine with curtail := s.engine.curtail.filter (fun e => e.id ≠ id) }
          att := (s.att.raise .stateChanged).enter id } : State).answered))) ∧
  (∀ (s : State) (a b : Byte) (id : Fin 96) (c : Conn) (x : Drop) (rest : List Drop) (u : State), s.Ready → s.PoolRight →
      a.toNat = id.val → c = s.conns[id] → c.state = .suspended → x ∈ s.dropsOf id → x.addr = b.toNat →
      2 ≤ (s.dropsOf id).length →
      (s.lines[x.line].state ≠ .polling ∨ s.lines[x.line].polled ≠ x.addr ∨ s.lines[x.line].phase = .none ∨
        s.lines[x.line].phase = .spacing) →
      rest = (s.dropsOf id).filter (fun d => d.addr ≠ x.addr) →
      u = { s with
        port := s.port.closed .ok
        conns := s.conns.set id { c with
          demand := min 65535 ((rest.filter (fun d => d.state = .live)).map (·.demand)).sum, moved := true }
        drops := s.drops.filter (fun d => d.line ≠ x.line ∨ d.addr ≠ x.addr)
        engine := { s.engine with pend := true }
        att := s.att.enter id } →
      ((x.state ≠ .silent ∨ ∃ d ∈ rest, d.state = .silent) → exec (.removeDrop [a, b]) s = .next u) ∧
      (x.state = .silent → (∀ d ∈ rest, d.state ≠ .silent) →
        ((c.lineCause = true ∨ c.supervisor = true) → exec (.removeDrop [a, b]) s = .next { u with
          conns := u.conns.set id { u.conns[id] with comms := false } }) ∧
        (c.lineCause = false → c.supervisor = false → exec (.removeDrop [a, b]) s = .next ({ u with
          conns := u.conns.set id { u.conns[id] with
            comms := false, state := .active, expired := false, holdLeft := 0
            granted := if c.expired then fallbackPower c.sub c.dt c.fallback else c.granted
            ceiling := if c.expired then c.fallback.getD 0 else c.ceiling }
          att := (s.att.raise .stateChanged).enter id } : State).answered))) ∧
  (∀ (s : State) (a b : Byte) (id : Fin 96) (x : Drop) (ds : List Drop), s.Ready → s.PoolRight → a.toNat = id.val →
      (s.conns[id].state = .pending ∨ s.conns[id].state = .active ∨ s.conns[id].state = .suspended) →
      x ∈ s.dropsOf id → x.addr = b.toNat → 2 ≤ (s.dropsOf id).length → s.lines[x.line].state = .polling →
      s.lines[x.line].polled = x.addr → s.lines[x.line].stop = false →
      ds = s.drops.filter (fun d => d.line ≠ x.line ∨ d.addr ≠ x.addr) →
      ((s.lines[x.line].phase = .awaiting ∨ s.lines[x.line].phase = .receiving) →
        ∃ t, exec (.removeDrop [a, b]) s = .next t ∧
          (s.conns[id].state ≠ .pending → t.drops = ds) ∧
          t.drops.map (fun d => { d with share := 0 }) = ds.map (fun d => { d with share := 0 }) ∧
          t.lines = s.lines.set x.line { s.lines[x.line] with
            phase := .spacing, te := false, respLeft := 0, spaceLeft := s.lines[x.line].spacing, cut := false }) ∧
      (s.lines[x.line].phase = .sending →
        ∃ t, exec (.removeDrop [a, b]) s = .next t ∧
          (s.conns[id].state ≠ .pending → t.drops = ds) ∧
          t.drops.map (fun d => { d with share := 0 }) = ds.map (fun d => { d with share := 0 }) ∧
          t.lines = s.lines.set x.line { s.lines[x.line] with cut := true } ∧
          exec (.pollSent x.line none) t = .next { t with lines := t.lines.set x.line { t.lines[x.line] with
            phase := .spacing, te := false, respLeft := 0, spaceLeft := t.lines[x.line].spacing, cut := false } }))

/-- CLEAR SHORTFALL clears score and LOW_DT together; a LOW_DT that was set raises LOW_DT_CHANGED and sets pending, and
the moved flag and the curtailment list stay (R68, R71). SET DEMOTE THRESHOLD, SET COMMS HOLD and SET STREAM POINTER
store one value and act on nothing else (R70, R125, R189). -/
def Obligations.ShortfallAndSettings : Prop :=
  (∀ (s : State) (a : Byte), s.Ready →
      (95 < a.toNat → exec (.clearShortfall [a]) s = .next (s.refuse .badId)) ∧
      ∀ (id : Fin 96) (c : Conn), a.toNat = id.val → c = s.conns[id] →
        ((c.state = .vacant ∨ c.state = .retiring) → exec (.clearShortfall [a]) s = .next (s.refuse .badState)) ∧
        ((c.state = .pending ∨ c.state = .active ∨ c.state = .suspended) → c.lowDt = false →
          exec (.clearShortfall [a]) s = .next { s with
            port := s.port.closed .ok, conns := s.conns.set id { c with score := 0 } }) ∧
        ((c.state = .pending ∨ c.state = .active ∨ c.state = .suspended) → c.lowDt = true →
          exec (.clearShortfall [a]) s = .next ({ s with
            port := s.port.closed .ok
            conns := s.conns.set id { c with score := 0, lowDt := false }
            engine := { s.engine with pend := true }
            att := s.att.raise .lowDtChanged } : State).attend)) ∧
  (∀ (s : State) (a b : Byte), s.Ready →
      exec (.setDemoteThreshold [a]) s = .next { s with
        port := s.port.closed (okOrClamped (a.toNat = 0)), demote := if a.toNat = 0 then 1 else a.toNat } ∧
      exec (.setCommsHold [a, b]) s = .next { s with
        port := s.port.closed (okOrClamped (a.toNat * 256 + b.toNat < 10 ∨ 600 < a.toNat * 256 + b.toNat))
        holdSetting := max 10 (min 600 (a.toNat * 256 + b.toNat)) } ∧
      (95 < a.toNat → exec (.setStreamPointer [a]) s = .next (s.refuse .badId)) ∧
      ∀ id : Fin 96, a.toNat = id.val →
        exec (.setStreamPointer [a]) s = .next { s with port := { s.port.closed .ok with pointer := id } })

/-- A comms hold expires on a SUSPENDED connection without SUPERVISOR: the flag set, the remaining 0, the record moved,
the fallback flow split equally among all its drops, and pending set (R16, R127, R128). It changes nothing once
expired, and nothing on a connection that is not SUSPENDED. -/
def Obligations.CommsHoldExpires : Prop :=
  ∀ (s : State) (id : Fin 96) (c : Conn), s.Settled → c = s.conns[id] →
    (c.state = .suspended → c.supervisor = false → c.expired = false →
      exec (.commsHoldExpiry id) s = .next { s with
        conns := s.conns.set id { c with expired := true, holdLeft := 0, moved := true }
        drops := s.drops.map (fun d => if d.conn = id then
          { d with share := fallbackShare (c.fallback.getD 0) (s.dropsOf id) d } else d)
        engine := { s.engine with pend := true } }) ∧
    ((c.state ≠ .suspended ∨ c.supervisor = true ∨ c.expired = true) → exec (.commsHoldExpiry id) s = .next s)

/-! ## The Allotment Engine -/

/-- RUN PASS (R36): in COMPUTING it sets rerun; in IDLE it starts a pass. It does not set pending. The snapshot, at RUN
PASS in IDLE (R38): what it copies, and all that it changes. -/
def Obligations.RunPassTakesSnapshot : Prop :=
  (∀ s : State, s.Ready →
      (s.computing = true → exec .runPass s = .next { s with
        port := s.port.closed .ok, engine := { s.engine with rerun := true } }) ∧
      (s.computing = false → ∃ t, exec .runPass s = .next t ∧ t.computing = true ∧ t.engine.pend = false ∧
        t.engine.rerun = false ∧ t.port = s.port.closed .ok)) ∧
  (∀ s : State, s.Ready → s.computing = false → ∃ (t : State) (p : Snapshot), exec .runPass s = .next t ∧
      t.engine = { s.engine with
        pend := false, rerun := false, snapCount := p.recs.length, snap := some p, passMs := 0 } ∧
      t.plant = { s.plant with snapOffer := if s.plant.latch then s.plant.emergency else s.plant.offer } ∧
      (∀ id : Fin 96, t.conns[id] = if s.conns[id].state = .active ∨ s.conns[id].state = .suspended
        then { s.conns[id] with moved := false, demandSnap := s.conns[id].demand } else s.conns[id]) ∧
      t = { s with
        port := s.port.closed .ok, conns := t.conns, engine := t.engine, plant := t.plant
        now := { s.now with pendTaken := false } } ∧
      p.offer = (if s.plant.latch then s.plant.emergency else s.plant.offer) ∧ p.ramp = s.engine.rampPct ∧
      (∀ b : Fin 8, p.limits[b] = s.branches[b].limit) ∧ p.listed = s.engine.curtail.map (·.id) ∧
      (p.recs.map (·.id)).Pairwise (· < ·) ∧
      (∀ id : Fin 96, (∃ r ∈ p.recs, r.id = id) ↔ s.conns[id].state = .active ∨ s.conns[id].state = .suspended) ∧
      ∀ r ∈ p.recs, r.gen = s.conns[r.id].gen ∧ r.state = s.conns[r.id].state ∧ r.eff = s.conns[r.id].effClass ∧
        r.sub = s.conns[r.id].sub ∧ r.dt = s.conns[r.id].dt ∧ r.maxFlow = s.conns[r.id].maxFlow ∧
        r.fallback = s.conns[r.id].fallback ∧ r.hold = s.conns[r.id].hold ∧ r.demand = s.conns[r.id].demand ∧
        r.gPrev = s.conns[r.id].granted ∧ r.ceiling = s.conns[r.id].ceiling ∧ r.expired = s.conns[r.id].expired ∧
        r.line = s.conns[r.id].line ∧ r.shares = (s.dropsOf r.id).map (fun d => (d.addr, d.share)))

/-- SET PASS PARAMETERS (R37): three fields, each applied as its last byte arrives: the interval, which restarts its
counter, the ramp percent, the deadband. An interval tick restarts the counter, and wants a pass only with pending or
ramp-unfinished set (R31, R35), or with pending taken by the rerun pass of a publication of the same moment (R209; what
one moment is: assumption log 36). An interval tick that comes with a publication, pending being set (R209, row 1).
Taken first, it sets rerun and the publication starts the new pass. Taken second, it starts a pass, or sets rerun when
the publication started one. -/
def Obligations.PassParametersAndIntervalTick : Prop :=
  (∀ (s : State) (i r h l : Byte) (w : Nat), s.Ready → w = max 1 (min 60 i.toNat) →
      exec (.setPassParameters [i]) s = .next { s with
        port := s.port.opened .setPassParameters 1 [] 0 (w ≠ i.toNat)
        engine := { s.engine with interval := w, counter := 0 } } ∧
      exec (.setPassParameters [i, r]) s = .next { s with
        port := s.port.opened .setPassParameters 2 [] 0 (!(1 ≤ i.toNat && i.toNat ≤ 60 && 1 ≤ r.toNat && r.toNat ≤ 100))
        engine := { s.engine with interval := w, counter := 0, rampPct := max 1 (min 100 r.toNat) } } ∧
      exec (.setPassParameters [i, r, h, l]) s = .next { s with
        port := s.port.closed (okOrClamped (!(1 ≤ i.toNat && i.toNat ≤ 60 && 1 ≤ r.toNat && r.toNat ≤ 100 &&
          h.toNat * 256 + l.toNat ≤ 1000)))
        engine := { s.engine with
          interval := w, counter := 0, rampPct := max 1 (min 100 r.toNat), deadband := min 1000 (h.toNat * 256 + l.toNat) } }) ∧
  (∀ s : State, s.Settled →
      ∀ u : State, u = { s with
          engine := { s.engine with counter := 0 }, now := { s.now with pendTaken := false } } →
        exec .intervalTick s = .next (if s.engine.pend = true ∨ s.engine.rampUnfinished = true ∨ s.now.pendTaken = true
          then u.answered else u)) ∧
  (∀ (s : State) (p : Snapshot), s.Settled → s.engine.snap = some p → s.engine.pend = true →
      (∃ t u, exec .intervalTick s = .next t ∧ t.engine.rerun = true ∧ t.engine.snap = some p ∧
        exec .publication t = .next u ∧ u.computing = true ∧ u.engine.rerun = false) ∧
      (∃ t u, exec .publication s = .next t ∧ exec .intervalTick t = .next u ∧ u.computing = true ∧
        u.engine.rerun = t.computing))

/-- Stage 1 and stage 2 (R43, R44): the reservation of a SUSPENDED connection, or of an ACTIVE one with a hold value,
is its grant; every other connection asks its ramped request. The grants of a pass sum to no more than its offer; when
its reservations alone are above the offer it sets OVERCOMMIT and grants nothing by class fill (R45). -/
def Obligations.ReservationsAndGrantBounds : Prop :=
  (∀ (p : Snapshot) (r : SnapRec),
      (r.state = .suspended → r.expired = false → p.power r = r.gPrev) ∧
      (r.state = .suspended → r.expired = true → p.power r =
        match r.fallback with | none => 0 | some f => min r.sub (f * r.dt * 419 / 10000)) ∧
      (∀ h, r.state = .active → r.hold = some h → p.power r = min h r.sub) ∧
      (p.over = true ↔ p.offer < (p.recs.map (fun q => q.reserve.getD 0)).sum) ∧
      r.ramped p.ramp = min (min r.demand r.sub) (r.gPrev + max 1 (r.sub * p.ramp / 100)) ∧
      (r.rampLimited p.ramp = true ↔ r.ramped p.ramp < min r.demand r.sub)) ∧
  (∀ p : Snapshot, (p.recs.map (·.id)).Nodup → p.listed.Nodup →
      (p.over = false → (p.recs.map p.power).sum + p.headroom ≤ p.offer) ∧
      (p.over = true → p.headroom = 0 ∧ ∀ r ∈ p.recs, r.reserve = none → p.power r = 0) ∧
      ∀ r ∈ p.recs, r.reserve = none → p.power r ≤ r.ramped p.ramp)

/-- The classes are served in turn (R45, R47): class 0 finds the offer less the reservations, each later class what the
one before it left, and the headroom is what class 2 leaves. A record the class fill serves is granted its entry in its
class; it is curtailed when that is below its ramped request, and ramp-limited when its ramped request is below its
request (R44, R47); a reserving record is neither. Stage 3 (R45, R46): a class that fits is granted its ramped requests
whole; a class that does not is scaled, every grant its rounded-down part or 1 kW more, and the class sums to exactly
the power it found. The order in which the residue of a scaled class is dealt (R46, R62): whoever gets 1 kW stands
before whoever does not, the listed first in list order, then ascending id. -/
def Obligations.ClassFillSharesOut : Prop :=
  (∀ (p : Snapshot) (r0 r1 r2 : Nat), (p.recs.map (·.id)).Nodup →
      r0 = p.offer - (p.recs.map (fun q => q.reserve.getD 0)).sum → r1 = r0 - p.classSum 0 → r2 = r1 - p.classSum 1 →
      (∀ k : Fin 3, p.members k.val =
          p.recs.filter (fun r => r.state != .suspended && r.hold == none && r.eff == k.val) ∧
        p.classSum k.val = ((p.members k.val).map (fun r => r.ramped p.ramp)).sum) ∧
      (∀ r ∈ p.members 0, (r.id, p.power r) ∈ p.classGrants 0 r0) ∧
      (∀ r ∈ p.members 1, (r.id, p.power r) ∈ p.classGrants 1 r1) ∧
      (∀ r ∈ p.members 2, (r.id, p.power r) ∈ p.classGrants 2 r2) ∧
      p.headroom = r2 - p.classSum 2 ∧
      ∀ r ∈ p.recs,
        (p.curtailedIn r = true ↔ r.state ≠ .suspended ∧ r.hold = none ∧ p.power r < r.ramped p.ramp) ∧
        (p.rampIn r = true ↔ r.state ≠ .suspended ∧ r.hold = none ∧ r.ramped p.ramp < min r.demand r.sub)) ∧
  (∀ (p : Snapshot) (k rem : Nat), (p.recs.map (·.id)).Nodup → p.listed.Nodup →
      (p.classSum k ≤ rem → ∀ r ∈ p.members k, (r.id, r.ramped p.ramp) ∈ p.classGrants k rem) ∧
      (rem < p.classSum k →
        ((p.classGrants k rem).map (·.2)).sum = rem ∧
        ∀ r ∈ p.members k, ∃ g, (r.id, g) ∈ p.classGrants k rem ∧ g ≤ r.ramped p.ramp ∧
          (g = r.ramped p.ramp * rem / p.classSum k ∨ g = r.ramped p.ramp * rem / p.classSum k + 1))) ∧
  (∀ (p : Snapshot) (k rem : Nat) (i j : Fin 96) (g h : Nat) (r q : SnapRec),
      (p.recs.map (·.id)).Pairwise (· < ·) → p.listed.Nodup → rem < p.classSum k → r ∈ p.members k → q ∈ p.members k →
      r.id = i → q.id = j → 0 < r.ramped p.ramp → 0 < q.ramped p.ramp →
      (i, g) ∈ p.classGrants k rem → (j, h) ∈ p.classGrants k rem →
      g = r.ramped p.ramp * rem / p.classSum k → h = q.ramped p.ramp * rem / p.classSum k + 1 →
      (i ∈ p.listed → j ∈ p.listed ∧ p.listed.idxOf j < p.listed.idxOf i) ∧
      (i ∉ p.listed → j ∈ p.listed ∨ j < i))

/-- Stage 4 and stage 5 (R48, R49, R50): the ACTIVE ceilings of a branch sum to no more than its limit less its
SUSPENDED ceilings, or to 0 when those alone reach the limit. A branch is LIMITED when its ACTIVE ceilings ask more
than is available: each is then its rounded-down part or one tenth of a litre per second more, they sum to exactly what
is available, and the tenths left over go out in ascending id. -/
def Obligations.CeilingsWithinBranchLimit : Prop :=
  ∀ (p : Snapshot) (b : Fin 8), (p.recs.map (·.id)).Nodup →
    ((p.actives b).map p.ceilingOf).sum ≤ p.limits[b] - p.heldFlow b ∧
    (p.limitedIn b = true → ((p.actives b).map p.ceilingOf).sum = p.limits[b] - p.heldFlow b) ∧
    (p.limitedIn b = false → ∀ r ∈ p.actives b, p.ceilingOf r = min r.maxFlow (p.power r * 10000 / (419 * r.dt))) ∧
    (∀ r ∈ p.actives b, p.ceilingOf r ≤ min r.maxFlow (p.power r * 10000 / (419 * r.dt))) ∧
    (∀ r, r.state = .suspended → p.ceilingOf r = if r.expired then r.fallback.getD 0 else r.ceiling) ∧
    p.heldFlow b = ((p.recs.filter (fun r => r.line == b && r.state == .suspended)).map p.ceilingOf).sum ∧
    (∀ (A N : Nat) (F : SnapRec → Nat), A = p.limits[b] - p.heldFlow b →
      F = (fun r => min r.maxFlow (p.power r * 10000 / (419 * r.dt))) → N = ((p.actives b).map F).sum →
      (p.limitedIn b = true ↔ A < N) ∧
      (A < N →
        (∀ r ∈ p.actives b, p.ceilingOf r = F r * A / N ∨ p.ceilingOf r = F r * A / N + 1) ∧
        ((p.recs.map (·.id)).Pairwise (· < ·) → ∀ r ∈ p.actives b, ∀ q ∈ p.actives b, 0 < F r → r.id < q.id →
          p.ceilingOf q = F q * A / N + 1 → p.ceilingOf r = F r * A / N + 1))) ∧
    (p.strandedIn b = min 65535 (((p.actives b).map (fun r => min r.maxFlow (p.power r * 10000 / (419 * r.dt)))).sum -
      (p.limits[b] - p.heldFlow b)))

/-- Stage 6 (R51): with a LIVE drop the shares sum to the ceiling; a drop that is not LIVE gets 0. With demand among
the LIVE drops each of them gets at least its rounded-down part, and only one of the largest demand gets more. The
remainder goes to one LIVE drop (R51): the one of the largest demand, the lowest address taking a tie; with no demand
among them the flow is split equally and the lowest address takes the remainder. An equal split gives out the whole
flow, each drop the rounded-down part and the first the remainder (R52, R128). -/
def Obligations.DropSplitsAreWhole : Prop :=
  (∀ (ceiling : Nat) (ds : List Drop), (ds.map (·.addr)).Nodup →
      ((∃ d ∈ ds, d.state = .live) → (ds.map (activeShare ceiling ds)).sum = ceiling) ∧
      (∀ d ∈ ds, d.state ≠ .live → activeShare ceiling ds d = 0) ∧
      (∀ d ∈ ds, d.state = .live → 0 < demandSum (liveDrops ds) →
        ceiling * d.demand / demandSum (liveDrops ds) ≤ activeShare ceiling ds d) ∧
      ∀ d ∈ ds, ∀ e ∈ ds, d.state = .live → e.state = .live → 0 < demandSum (liveDrops ds) →
        ceiling * d.demand / demandSum (liveDrops ds) < activeShare ceiling ds d → e.demand ≤ d.demand) ∧
  (∀ (ceiling : Nat) (ds : List Drop), (ds.map (·.addr)).Pairwise (· < ·) → ∀ d ∈ ds, d.state = .live →
      (0 < demandSum (liveDrops ds) →
        (∀ e ∈ ds, e.state = .live → e.demand < d.demand ∨ (e.demand = d.demand ∧ d.addr ≤ e.addr)) →
        ∀ e ∈ ds, e.state = .live → e.addr ≠ d.addr →
          activeShare ceiling ds e = ceiling * e.demand / demandSum (liveDrops ds)) ∧
      (demandSum (liveDrops ds) = 0 → (∀ e ∈ ds, e.state = .live → d.addr ≤ e.addr) →
        activeShare ceiling ds d = ceiling / (liveDrops ds).length + ceiling % (liveDrops ds).length ∧
        ∀ e ∈ ds, e.state = .live → e.addr ≠ d.addr → activeShare ceiling ds e = ceiling / (liveDrops ds).length)) ∧
  (∀ (flow : Nat) (d : Drop) (ds : List Drop), ((d :: ds).map (·.addr)).Nodup →
      ((d :: ds).map (fallbackShare flow (d :: ds))).sum = flow ∧
      ∀ e ∈ ds, fallbackShare flow (d :: ds) e = flow / (ds.length + 1))

/-- A publication writes the grants of a pass only into records that still match its snapshot and have not moved, and
skips the others (R53); it touches no other field of a record but what a following snapshot writes. What it writes to
now, the model's own field, PublicationResults says. The results of a publication outside the records (R54, R55), and
the rerun pass that starts in the same event. Of now, the model's own field, the mark pendTaken is written: set exactly
when that pass starts and finds pending set (assumption log 36). A publication with no pass in flight does nothing
(R31; assumption log 4). -/
def Obligations.PublicationWritesResults : Prop :=
  (∀ (s : State) (p : Snapshot), s.Settled → s.engine.snap = some p → (p.recs.map (·.id)).Nodup →
      ∃ t, exec .publication s = .next t ∧
        (∀ r ∈ p.recs, (s.conns[r.id].gen = r.gen ∧ s.conns[r.id].state = r.state ∧ s.conns[r.id].moved = false) →
          t.conns[r.id].granted = p.power r ∧ t.conns[r.id].ceiling = p.ceilingOf r ∧
          t.conns[r.id].curtailed = p.curtailedIn r ∧ t.conns[r.id].ramp = p.rampIn r ∧
          (r.state ≠ .suspended → t.dropsOf r.id = (s.dropsOf r.id).map (fun d =>
            { d with share := activeShare (p.ceilingOf r) (s.dropsOf r.id) d })) ∧
          (r.state = .suspended → r.expired = true → t.dropsOf r.id = (s.dropsOf r.id).map (fun d =>
            { d with share := fallbackShare (s.conns[r.id].fallback.getD 0) (s.dropsOf r.id) d })) ∧
          (r.state = .suspended → r.expired = false → t.dropsOf r.id = s.dropsOf r.id)) ∧
        (∀ id : Fin 96, (∀ r ∈ p.recs, r.id = id →
            ¬(s.conns[id].gen = r.gen ∧ s.conns[id].state = r.state ∧ s.conns[id].moved = false)) →
          t.conns[id].granted = s.conns[id].granted ∧ t.conns[id].ceiling = s.conns[id].ceiling ∧
          t.conns[id].curtailed = s.conns[id].curtailed ∧ t.conns[id].ramp = s.conns[id].ramp ∧
          t.dropsOf id = s.dropsOf id) ∧
        (∀ id : Fin 96, t.conns[id] = { s.conns[id] with
          granted := t.conns[id].granted, ceiling := t.conns[id].ceiling, curtailed := t.conns[id].curtailed,
          ramp := t.conns[id].ramp, moved := t.conns[id].moved, demandSnap := t.conns[id].demandSnap }) ∧
        t = { s with conns := t.conns, drops := t.drops, engine := t.engine, branches := t.branches, att := t.att,
                     plant := { s.plant with snapOffer := t.plant.snapOffer }, now := t.now }) ∧
  (∀ (s : State) (p : Snapshot) (ws : List SnapRec), s.Settled → s.engine.snap = some p → (p.recs.map (·.id)).Nodup →
      ws = p.recs.filter (fun r => s.conns[r.id].gen == r.gen && s.conns[r.id].state == r.state && !s.conns[r.id].moved) →
      ∃ t, exec .publication s = .next t ∧
        t.engine.headroom = p.headroom ∧ t.engine.overcommit = p.over ∧
        t.engine.rampUnfinished = ws.any p.rampIn ∧ t.engine.passCount = (s.engine.passCount + 1) % 65536 ∧
        t.engine.skipped = p.recs.length - ws.length ∧ t.engine.abandoned = s.engine.abandoned ∧
        t.engine.curtail =
          s.engine.curtail.filter (fun e => !ws.any (fun r => r.id == e.id && !p.curtailedIn r)) ++
          (ws.filter (fun r => p.curtailedIn r && !s.engine.curtail.any (fun e => e.id == r.id))).map
            (fun r => { id := r.id, cls := r.eff, pass := (s.engine.passCount + 1) % 65536 }) ∧
        (∀ b : Fin 8, t.branches[b] = { s.branches[b] with limited := p.limitedIn b, stranded := p.strandedIn b }) ∧
        (∀ c : Cause, t.att.isPending c = (s.att.isPending c ||
          match c with
          | .passPublished => true
          | .overcommit => p.over
          | .headroomZero => p.headroom == 0 && !t.engine.curtail.isEmpty
          | .branchLimited => (List.finRange 8).any (fun b => p.limitedIn b && !s.branches[b].limited)
          | _ => false)) ∧
        (∀ b : Fin 8, (t.att.unitsOf .branchLimited).getLsbD b.val =
          ((s.att.unitsOf .branchLimited).getLsbD b.val || (p.limitedIn b && !s.branches[b].limited))) ∧
        (∀ c : Cause, c ≠ .branchLimited → t.att.unitsOf c = s.att.unitsOf c) ∧
        t.engine.interval = s.engine.interval ∧ t.engine.rampPct = s.engine.rampPct ∧
        t.engine.deadband = s.engine.deadband ∧ t.engine.counter = s.engine.counter ∧
        (t.computing = true ↔ s.engine.rerun = true ∨ ws.length < p.recs.length) ∧
        (t.computing = true → t.engine.pend = false ∧ t.engine.rerun = false) ∧
        (t.computing = false → t.engine.pend = s.engine.pend ∧ t.engine.rerun = false) ∧
        t.now = { s.now with pendTaken := (s.engine.rerun || decide (ws.length < p.recs.length)) && s.engine.pend }) ∧
  (∀ s : State, s.Settled → s.engine.snap = none → exec .publication s = .next s)

/-! ## The plant -/

/-- SET PLANT OFFER and SET EMERGENCY OFFER (R75, R76, R77, R78): the values brought into range; a lower offer is an
urgent trigger, a higher one sets pending, an equal one is none. CLEAR TRIP (R83): refused while the qualified level is
asserted; otherwise it clears the latch and is an urgent trigger, even with the latch already clear. -/
def Obligations.OffersAndClearTrip : Prop :=
  (∀ (s : State) (a b c h l : Byte) (v : Nat) (w : Int), s.Ready → v = min 400000 (a.toNat * 65536 + b.toNat * 256 + c.toNat) →
      w = max (-100) (min 600 (if h.toNat < 128 then (h.toNat * 256 + l.toNat : Int) else h.toNat * 256 + l.toNat - 65536)) →
      (∀ u : State, u = { s with
          port := s.port.opened .setPlantOffer 3 [] 0 (400000 < a.toNat * 65536 + b.toNat * 256 + c.toNat)
          plant := { s.plant with offer := v } } →
        exec (.setPlantOffer [a, b, c]) s = .next (if v < s.plant.offer then u.answered
          else if s.plant.offer < v then { u with engine := { u.engine with pend := true } } else u)) ∧
      (∀ u : State, u = { s with
          port := s.port.closed (okOrClamped (!(a.toNat * 65536 + b.toNat * 256 + c.toNat ≤ 400000 &&
            w == (if h.toNat < 128 then (h.toNat * 256 + l.toNat : Int) else h.toNat * 256 + l.toNat - 65536))))
          plant := { s.plant with offer := v, setpoint := w } } →
        exec (.setPlantOffer [a, b, c, h, l]) s = .next (if v < s.plant.offer then u.answered
          else if s.plant.offer < v then { u with engine := { u.engine with pend := true } } else u)) ∧
      (∀ u : State, u = { s with
          port := s.port.closed (okOrClamped (400000 < a.toNat * 65536 + b.toNat * 256 + c.toNat))
          plant := { s.plant with emergency := v } } →
        exec (.setEmergencyOffer [a, b, c]) s = .next (if v < s.plant.emergency then u.answered
          else if s.plant.emergency < v then { u with engine := { u.engine with pend := true } } else u))) ∧
  (∀ s : State, s.Ready →
      (s.plant.level = true → exec .clearTrip s = .next (s.refuse .badState)) ∧
      (s.plant.level = false → exec .clearTrip s = .next ({ s with
        port := s.port.closed .ok, plant := { s.plant with latch := false } } : State).answered))

/-- The trip qualifier (R80): a sample equal to the qualified level clears the run, a sample that differs adds one to
it, and the fiftieth in a row is the qualified edge. The command is a sample of its own beside those of the idle ticks
(assumption log 37). A qualified assertion (R41, R81): the latch set, TRIP raised, a pass in flight abandoned and
counted with PASS_ABANDONED, and a new pass started, in one event; the raw level becomes asserted with it (assumption
log 22). A qualified deassertion changes the qualified level (R82), with it the raw level (assumption log 22), and
nothing else. -/
def Obligations.TripQualifierAndEdges : Prop :=
  (∀ (s : State) (b : Bool), s.Settled →
      (b = s.plant.level → exec (.tripInputSample b) s = .next { s with plant := { s.plant with raw := b, run := 0 } }) ∧
      (b ≠ s.plant.level → s.plant.run + 1 < 50 →
        exec (.tripInputSample b) s = .next { s with plant := { s.plant with raw := b, run := s.plant.run + 1 } }) ∧
      (b ≠ s.plant.level → 50 ≤ s.plant.run + 1 →
        exec (.tripInputSample b) s = exec (if b then .qualifiedAssertion else .qualifiedDeassertion) s)) ∧
  (∀ s : State, s.Settled → s.plant.level = false →
      exec .qualifiedAssertion s = .next ({ s with
        plant := { s.plant with level := true, raw := true, run := 0, latch := true }
        engine := { s.engine with
          abandoned := if s.computing then (s.engine.abandoned + 1) % 65536 else s.engine.abandoned }
        att := if s.computing then (s.att.raise .trip).raise .passAbandoned else s.att.raise .trip } : State).snapshot.attend) ∧
  (∀ s : State, s.Settled → s.plant.level = true →
      exec .qualifiedDeassertion s = .next { s with plant := { s.plant with level := false, raw := false, run := 0 } })

/-! ## Attention -/

/-- SET GROUP LEVEL and SET THRESHOLD (R197). ACK ATTENTION clears the causes its mask names, with their unit sets, and
nothing else; ATN follows (R199). -/
def Obligations.LevelsAndAcknowledgement : Prop :=
  (∀ (s : State) (g v : Byte), s.Ready →
      exec (.setThreshold [v]) s = .next ({ s with
        port := s.port.closed (okOrClamped (7 < v.toNat)), att := { s.att with threshold := min 7 v.toNat } } : State).attend ∧
      (5 < g.toNat → exec (.setGroupLevel [g, v]) s = .next (s.refuse .badParam)) ∧
      ∀ k : Fin 6, g.toNat = k.val → exec (.setGroupLevel [g, v]) s = .next ({ s with
        port := s.port.closed (okOrClamped (7 < v.toNat))
        att := { s.att with levels := s.att.levels.set k (min 7 v.toNat) } } : State).attend) ∧
  (∀ (s : State) (g m : Byte), s.Ready →
      (5 < g.toNat → exec (.ackAttention [g, m]) s = .next (s.refuse .badParam)) ∧
      ∀ k : Fin 6, g.toNat = k.val → ∃ t, exec (.ackAttention [g, m]) s = .next t ∧
        t = ({ s with port := s.port.closed .ok, att := { s.att with causes := t.att.causes } } : State).attend ∧
        ∀ c : Cause, ((c.group = k ∧ m.getLsbD ((groupCauses k).idxOf c) = true) →
            t.att.isPending c = false ∧ t.att.unitsOf c = 0) ∧
          (¬(c.group = k ∧ m.getLsbD ((groupCauses k).idxOf c) = true) →
            t.att.isPending c = s.att.isPending c ∧ t.att.unitsOf c = s.att.unitsOf c))

/-! ## Branch meters -/

/-- SET METER (R136, R141, R146): its checks in their order, and in one event the gate in flight discarded, the
settings stored, the measured flow invalid and the gate state of the new mode; on a cascaded branch OPEN restarts the
total and any other mode ends the cascade. -/
def Obligations.SetMeterActs : Prop :=
  ∀ (s : State) (a h l p m : Byte), s.Ready →
    ((7 < a.toNat ∨ (p.toNat ≠ 1 ∧ p.toNat ≠ 2) ∨ 4 < m.toNat) →
      exec (.setMeter [a, h, l, p, m]) s = .next (s.refuse .badParam)) ∧
    ∀ (n o : Fin 8) (b c : Branch) (g : GateMode), a.toNat = n.val → b = s.branches[n] →
      (p.toNat = 1 ∨ p.toNat = 2) → m.toNat = g.code →
      ((n.val % 2 = 1 ∧ b.cascade = true) → exec (.setMeter [a, h, l, p, m]) s = .next (s.refuse .badState)) ∧
      (c = { b with
          k := max 1 (h.toNat * 256 + l.toNat), prescale := p.toNat, mode := g
          divider := if p.toNat ≠ b.prescale ∨ g = .off then false else b.divider
          live := 0, liveOver := false, elapsed := 0, flow := 0, flowValid := false, overRun := 0
          gate := match g with | .off => .shut | .openGate => .totalizing | _ => .armed } →
        ((b.cascade = false → exec (.setMeter [a, h, l, p, m]) s = .next { s with
            port := s.port.closed (okOrClamped (h.toNat = 0 ∧ l.toNat = 0)), branches := s.branches.set n c }) ∧
        (n.val % 2 = 0 → b.cascade = true → o.val = n.val + 1 → exec (.setMeter [a, h, l, p, m]) s = .next { s with
            port := s.port.closed (okOrClamped (h.toNat = 0 ∧ l.toNat = 0))
            branches := if g = .openGate then (s.branches.set n c).set o { s.branches[o] with live := 0 }
              else (s.branches.set n { c with cascade := false }).set o
                { s.branches[o] with cascade := false, live := 0 } })))

/-- SET BRANCH LIMIT: only a limit that differs sets pending (R147). SET REGULATION (R151): the branch tested at its
byte, the base brought into the drive's travel and passed to the drive as its target, or as a bound on it while the
branch is OVERDRAWN, and the trim step at least 1. -/
def Obligations.LimitAndRegulationSettings : Prop :=
  (∀ (s : State) (a h l : Byte), s.Ready →
      (7 < a.toNat → exec (.setBranchLimit [a, h, l]) s = .next (s.refuse .badParam)) ∧
      ∀ n : Fin 8, a.toNat = n.val → exec (.setBranchLimit [a, h, l]) s = .next { s with
        port := s.port.closed .ok
        branches := s.branches.set n { s.branches[n] with limit := h.toNat * 256 + l.toNat }
        engine := { s.engine with
          pend := s.engine.pend || decide (h.toNat * 256 + l.toNat ≠ s.branches[n].limit) } }) ∧
  (∀ (s : State) (a h l v : Byte), s.Ready →
      (7 < a.toNat → exec (.setRegulation [a]) s = .next (s.refuse .badParam)) ∧
      ∀ (n : Fin 8) (w : Nat), a.toNat = n.val → w = min s.drives[n].travel (h.toNat * 256 + l.toNat) →
        exec (.setRegulation [a, h, l]) s = .next { s with
          port := s.port.opened .setRegulation 3 [] n.val (w ≠ h.toNat * 256 + l.toNat)
          branches := s.branches.set n { s.branches[n] with base := w }
          drives := s.drives.set n (s.drives[n].storeTarget
            (if s.branches[n].overdrawn then min s.drives[n].target w else w)) } ∧
        exec (.setRegulation [a, h, l, v]) s = .next { s with
          port := s.port.closed (okOrClamped (w ≠ h.toNat * 256 + l.toNat ∨ v.toNat = 0))
          branches := s.branches.set n { s.branches[n] with base := w, trim := max 1 v.toNat }
          drives := s.drives.set n (s.drives[n].storeTarget
            (if s.branches[n].overdrawn then min s.drives[n].target w else w)) })

/-- SET CASCADE (R143, R144, R146): its checks in their order; setting 1 forces the odd neighbour OFF, marks the pair
and starts the total at 0; setting 0 ends a cascade, the high half lost and the low half kept. -/
def Obligations.SetCascadeActs : Prop :=
  ∀ (s : State) (a v : Byte), s.Ready →
    ((7 < a.toNat ∨ a.toNat % 2 = 1 ∨ 1 < v.toNat) → exec (.setCascade [a, v]) s = .next (s.refuse .badParam)) ∧
    ∀ (n o : Fin 8) (b d : Branch), a.toNat = n.val → n.val % 2 = 0 → o.val = n.val + 1 → b = s.branches[n] →
      d = s.branches[o] →
      (v.toNat = 1 → b.mode ≠ .openGate → exec (.setCascade [a, v]) s = .next (s.refuse .badState)) ∧
      (v.toNat = 1 → b.mode = .openGate → exec (.setCascade [a, v]) s = .next { s with
        port := s.port.closed .ok
        branches := (s.branches.set o (if d.mode = .off then { d with cascade := true, live := 0, liveOver := false }
          else { d with cascade := true, live := 0, liveOver := false, mode := .off, gate := .shut, divider := false,
                        elapsed := 0, flow := 0, flowValid := false, overRun := 0 })).set n
          { b with cascade := true, live := 0, liveOver := false } }) ∧
      (v.toNat = 0 → b.cascade = false → exec (.setCascade [a, v]) s = .next { s with port := s.port.closed .ok }) ∧
      (v.toNat = 0 → b.cascade = true → exec (.setCascade [a, v]) s = .next { s with
        port := s.port.closed .ok
        branches := (s.branches.set n { b with cascade := false }).set o { d with cascade := false, live := 0 } })

/-- A rising edge of MTRn (R138, R139): counted outside a cascade while a gate counts, every one at prescale 1 and
every second at prescale 2; at 65535 the count stays and raises METER_OVERRANGE once, and not again while the flag is
set (log 38). A counted edge of a cascade (R145): at prescale 2 every second edge counts; the low half carries into the
high half in the event of the edge, the total stays at its top and raises METER_OVERRANGE once with the even branch's
number; the odd branch's own input is ignored. -/
def Obligations.MeterEdgesCount : Prop :=
  (∀ (s : State) (n : Fin 8) (b : Branch), s.Settled → b = s.branches[n] → b.cascade = false →
      ((b.gate = .shut ∨ b.gate = .armed) → exec (.meterEdge n) s = .next s) ∧
      ((b.gate = .counting ∨ b.gate = .totalizing) →
        (b.prescale ≠ 1 → b.divider = false →
          exec (.meterEdge n) s = .next { s with branches := s.branches.set n { b with divider := true } }) ∧
        (∀ d : Branch, (b.prescale = 1 ∧ d = b ∨ b.prescale ≠ 1 ∧ b.divider = true ∧ d = { b with divider := false }) →
          (b.live < 65535 → exec (.meterEdge n) s = .next { s with
            branches := s.branches.set n { d with live := b.live + 1 } }) ∧
          (65535 ≤ b.live → b.liveOver = false → exec (.meterEdge n) s = .next ({ s with
            branches := s.branches.set n { d with liveOver := true }
            att := s.att.raiseUnit .meterOverrange n } : State).attend) ∧
          (65535 ≤ b.live → b.liveOver = true →
            exec (.meterEdge n) s = .next { s with branches := s.branches.set n d })))) ∧
  (∀ (s : State) (n o : Fin 8) (b : Branch), s.Settled → n.val % 2 = 0 → o.val = n.val + 1 → b = s.branches[n] →
      b.cascade = true → b.gate = .totalizing →
      (s.branches[o].cascade = true → exec (.meterEdge o) s = .next s) ∧
      (b.prescale ≠ 1 → b.divider = false →
        exec (.meterEdge n) s = .next { s with branches := s.branches.set n { b with divider := true } }) ∧
      (∀ d : Branch, (b.prescale = 1 ∧ d = b ∨ b.prescale ≠ 1 ∧ b.divider = true ∧ d = { b with divider := false }) →
        (b.live < 65535 → exec (.meterEdge n) s = .next { s with
          branches := s.branches.set n { d with live := b.live + 1 } }) ∧
        (65535 ≤ b.live → s.branches[o].live < 65535 → exec (.meterEdge n) s = .next { s with
          branches := (s.branches.set n { d with live := 0 }).set o
            { s.branches[o] with live := s.branches[o].live + 1 } }) ∧
        (65535 ≤ b.live → 65535 ≤ s.branches[o].live → b.liveOver = false → exec (.meterEdge n) s = .next ({ s with
          branches := s.branches.set n { d with liveOver := true }
          att := s.att.raiseUnit .meterOverrange n } : State).attend) ∧
        (65535 ≤ b.live → 65535 ≤ s.branches[o].live → b.liveOver = true →
          exec (.meterEdge n) s = .next { s with branches := s.branches.set n d })))

/-- The tick that starts an ARMED gate (R137): COUNTING from 0, a high input being one edge for the divider; given to a
gate in another state, or a close to a gate that does not count, the event cannot arise and changes nothing (assumption
log 4). A timed gate closes (R140, R149): the count becomes the last gate count, the flow is computed from it, the
overdraw regulation compares it with the limit and its band, and the next gate opens at 0. -/
def Obligations.GatesOpenAndClose : Prop :=
  (∀ (s : State) (n : Fin 8) (b : Branch), s.Settled → b = s.branches[n] →
      (b.gate ≠ .armed → ∀ high, exec (.gateArmedStart n high) s = .next s) ∧
      (b.gate = .armed → b.cascade = false →
        exec (.gateArmedStart n false) s = .next { s with
          branches := s.branches.set n { b with gate := .counting, elapsed := 0, live := 0 } } ∧
        exec (.gateArmedStart n true) s = .next { s with
          branches := s.branches.set n { b with
            gate := .counting, elapsed := 0, live := if b.prescale = 1 ∨ b.divider = true then 1 else 0
            divider := if b.prescale = 1 then b.divider else !b.divider } })) ∧
  (∀ (s : State) (n : Fin 8) (b c : Branch) (q run v : Nat), s.Settled → b = s.branches[n] →
      q = (if b.liveOver then 65535 else min 65535 (b.live * b.prescale * b.k / (b.mode.seconds * 100))) →
      run = min 255 (b.overRun + 1) → v = min b.base (s.drives[n].target + b.trim) →
      c = { b with last := b.live, lastOver := b.liveOver, flow := q, flowValid := true, live := 0, liveOver := false,
                   elapsed := 0 } →
      (b.gate ≠ .counting → exec (.gateClose n) s = .next s) ∧
      (b.gate = .counting →
        (b.limit + b.limit / 20 < q → run < 3 →
          exec (.gateClose n) s = .next { s with branches := s.branches.set n { c with overRun := run } }) ∧
        (b.limit + b.limit / 20 < q → 3 ≤ run → exec (.gateClose n) s = .next ({ s with
          branches := s.branches.set n { c with overRun := run, overdrawn := true }
          drives := s.drives.set n (s.drives[n].storeTarget (s.drives[n].target - b.trim))
          att := if b.overdrawn then s.att else s.att.raiseUnit .overdrawn n } : State).attend) ∧
        (b.limit < q → q ≤ b.limit + b.limit / 20 →
          exec (.gateClose n) s = .next { s with branches := s.branches.set n { c with overRun := 0 } }) ∧
        (q ≤ b.limit → b.overdrawn = false →
          exec (.gateClose n) s = .next { s with branches := s.branches.set n { c with overRun := 0 } }) ∧
        (q ≤ b.limit → b.overdrawn = true → exec (.gateClose n) s = .next { s with
          branches := s.branches.set n { c with overRun := 0, overdrawn := decide (v ≠ b.base) }
          drives := s.drives.set n (s.drives[n].storeTarget v) })))

/-! ## Valve drives -/

/-- A target received (R159, R160, R161): clamped into the travel, rounded down to a position of the excitation, stored
in every state; from IDLE the drive takes its first step toward one that differs from its position. A step-timer expiry
in MOVING (R161, R166, R167): the stall check of the step just completed, a FAULT that keeps the homing steps
(assumption log 21), then arrival at the target or the next step toward it. Given in any other state it cannot arise
and does nothing (assumption log 4). -/
def Obligations.DriveMovesToTarget : Prop :=
  (∀ (d : Drive) (v w q : Nat), w = min d.travel v →
      q = (match d.excitation with
        | .half => w
        | .wave => w / 2 * 2
        | .twoPhase => if w = 0 then 0 else (w - 1) / 2 * 2 + 1) →
      (d.state ≠ .idle ∨ q = d.position → d.storeTarget v = { d with target := q }) ∧
      (d.state = .idle → d.position < q → ∀ k, k = d.position +
          (match d.excitation with | .half => 1 | .wave => 2 | .twoPhase => if d.position = 0 then 1 else 2) →
        d.storeTarget v = { d with
          target := q, state := .moving, position := k, phase := k % 8, stepPending := true, timer := 1000000 / d.rate }) ∧
      (d.state = .idle → q < d.position → ∀ k, k = d.position -
          (match d.excitation with | .half => 1 | .wave => 2 | .twoPhase => if d.position = 1 then 1 else 2) →
        d.storeTarget v = { d with
          target := q, state := .moving, position := k, phase := k % 8, stepPending := true, timer := 1000000 / d.rate })) ∧
  (∀ (s : State) (n : Fin 8) (d : Drive), s.Settled → d = s.drives[n] →
      (d.state ≠ .moving → exec (.stepTimerExpiry n) s = .next s) ∧
      (d.state = .moving →
        (d.stepPending = true → (d.tolerance : Int) < |d.encoder - d.position * d.ratio| →
          exec (.stepTimerExpiry n) s = .next ({ s with
            drives := s.drives.set n { d with
              state := .fault, coils := false, timer := 0, stepPending := false, known := false, reason := .stall }
            att := s.att.raiseUnit .valveFault n } : State).attend) ∧
        ((d.stepPending = false ∨ |d.encoder - d.position * d.ratio| ≤ (d.tolerance : Int)) →
          (d.position = d.target → exec (.stepTimerExpiry n) s = .next { s with
            drives := s.drives.set n { d with state := .idle, timer := 0, stepPending := false }
            now := { s.now with restarted := s.now.restarted.set n false } }) ∧
          (d.position ≠ d.target → ∀ k, k = (if d.position < d.target
              then d.position + (match d.excitation with
                | .half => 1 | .wave => 2 | .twoPhase => if d.position = 0 then 1 else 2)
              else d.position - (match d.excitation with
                | .half => 1 | .wave => 2 | .twoPhase => if d.position = 1 then 1 else 2)) →
            exec (.stepTimerExpiry n) s = .next { s with
              drives := s.drives.set n { d with
                position := k, phase := k % 8, stepPending := true, timer := 1000000 / d.rate }
              now := { s.now with restarted := s.now.restarted.set n true } }))))

/-- SET VALVE DRIVE (R157, R158): the values brought into range and stored; a change of travel, excitation or ratio
leaves the drive UNHOMED with its coils off; the target and the branch's regulation base are brought into the new
travel. A new rate alone leaves a running interval at its old length, but for one that an expiry of the same moment
restarted (R173; what one moment is: assumption log 34). SET VALVE DRIVE of a new rate alone just after an expiry that
restarted the timer (R173, last row): the restarted timer runs at the new rate. What one moment is, is assumption log
34. -/
def Obligations.SetValveDriveActs : Prop :=
  (∀ (s : State) (a th tl e rh rl q v : Byte), s.Ready →
      ((7 < a.toNat ∨ 2 < e.toNat) → exec (.setValveDrive [a, th, tl, e, rh, rl, q, v]) s = .next (s.refuse .badParam)) ∧
      ∀ (n : Fin 8) (x : Excitation) (d : Drive) (travel ratio : Nat), a.toNat = n.val → d = s.drives[n] →
        e.toNat = (match x with | .wave => 0 | .twoPhase => 1 | .half => 2) →
        travel = max 400 (min 8000 (th.toNat * 256 + tl.toNat)) → ratio = max 1 (min 16 q.toNat) →
        ∀ c, c = { d with
            travel := travel, excitation := x, rate := max 50 (min 800 (rh.toNat * 256 + rl.toNat)), ratio := ratio
            tolerance := max 4 v.toNat, target := roundTarget x travel d.target } →
        exec (.setValveDrive [a, th, tl, e, rh, rl, q, v]) s = .next { s with
          port := s.port.closed (okOrClamped (!(400 ≤ th.toNat * 256 + tl.toNat && th.toNat * 256 + tl.toNat ≤ 8000 &&
            50 ≤ rh.toNat * 256 + rl.toNat && rh.toNat * 256 + rl.toNat ≤ 800 && 1 ≤ q.toNat && q.toNat ≤ 16 &&
            4 ≤ v.toNat)))
          branches := s.branches.set n { s.branches[n] with base := min s.branches[n].base travel }
          drives := s.drives.set n (if d.travel ≠ travel ∨ d.excitation ≠ x ∨ d.ratio ≠ ratio
            then { c with state := .unhomed, timer := 0, coils := false, stepPending := false, known := false,
                          homingSteps := 0 }
            else if s.now.restarted[n] = true ∧ d.timer ≠ 0 ∧ c.rate ≠ d.rate then { c with timer := 1000000 / c.rate }
            else c) }) ∧
  (∀ (s : State) (n : Fin 8) (d : Drive) (a th tl e rh rl q v : Byte), s.Ready → d = s.drives[n] → d.state = .moving →
      d.position ≠ d.target → (d.stepPending = false ∨ |d.encoder - d.position * d.ratio| ≤ (d.tolerance : Int)) →
      50 ≤ d.rate → d.rate ≤ 800 → 400 ≤ d.travel → d.travel ≤ 8000 → 1 ≤ d.ratio → d.ratio ≤ 16 →
      a.toNat = n.val → th.toNat * 256 + tl.toNat = d.travel →
      e.toNat = (match d.excitation with | .wave => 0 | .twoPhase => 1 | .half => 2) → q.toNat = d.ratio →
      ∃ t u, exec (.stepTimerExpiry n) s = .next t ∧ t.drives[n].timer = 1000000 / d.rate ∧
        exec (.setValveDrive [a, th, tl, e, rh, rl, q, v]) t = .next u ∧ u.drives[n].state = .moving ∧
        u.drives[n].timer = 1000000 / max 50 (min 800 (rh.toNat * 256 + rl.toNat)))

/-- HOME VALVE (R168, R170): a switch that reads asserted homes the drive at once; otherwise homing starts with the
coils on the pattern of the current phase index. A step-timer expiry in HOMING (R169, R170, R171): the switch read
first, which homes the drive and starts it toward a target above 0, then the homing limit, then one closing step, an
aligning one from a phase index that does not belong to the excitation. Given in any other state it cannot arise and
changes nothing (assumption log 4). A drive that fails its homing keeps its homing steps (assumption log 21). -/
def Obligations.HomingActs : Prop :=
  (∀ (s : State) (a : Byte), s.Ready →
      (∀ home, 7 < a.toNat → exec (.homeValve [a] home) s = .next (s.refuse .badParam)) ∧
      ∀ (n : Fin 8) (d : Drive), a.toNat = n.val → d = s.drives[n] →
        exec (.homeValve [a] false) s = .next { s with
          port := s.port.closed .ok
          drives := s.drives.set n { d with
            state := .homing, known := false, homingSteps := 0, stepPending := false, homeSample := false, coils := true
            timer := 1000000 / d.rate }
          now := { s.now with restarted := s.now.restarted.set n false } } ∧
        (d.target = 0 → exec (.homeValve [a] true) s = .next ({ s with
          port := s.port.closed .ok
          drives := s.drives.set n { d with
            state := .idle, known := true, homingSteps := 0, stepPending := false, homeSample := true, coils := true
            timer := 0, position := 0, phase := 0, encoder := 0, reason := .none }
          att := s.att.raiseUnit .homeDone n
          now := { s.now with restarted := s.now.restarted.set n false } } : State).attend) ∧
        (0 < d.target → ∀ k, k = (if d.excitation = .wave then 2 else 1) →
          exec (.homeValve [a] true) s = .next ({ s with
          port := s.port.closed .ok
          drives := s.drives.set n { d with
            state := .moving, known := true, homingSteps := 0, stepPending := true, homeSample := true, coils := true
            timer := 1000000 / d.rate, position := k, phase := k, encoder := 0, reason := .none }
          att := s.att.raiseUnit .homeDone n
          now := { s.now with restarted := s.now.restarted.set n false } } : State).attend)) ∧
  (∀ (s : State) (n : Fin 8) (d : Drive), s.Settled → d = s.drives[n] →
      (d.state ≠ .homing → ∀ home, exec (.homingStepExpiry n home) s = .next s) ∧
      (d.state = .homing →
        (d.target = 0 → exec (.homingStepExpiry n true) s = .next ({ s with
          drives := s.drives.set n { d with
            state := .idle, known := true, homingSteps := 0, stepPending := false, homeSample := true, coils := true
            timer := 0, position := 0, phase := 0, encoder := 0, reason := .none }
          att := s.att.raiseUnit .homeDone n
          now := { s.now with restarted := s.now.restarted.set n false } } : State).attend) ∧
        (0 < d.target → ∀ k, k = (if d.excitation = .wave then 2 else 1) →
          exec (.homingStepExpiry n true) s = .next ({ s with
            drives := s.drives.set n { d with
              state := .moving, known := true, homingSteps := 0, stepPending := true, homeSample := true, coils := true
              timer := 1000000 / d.rate, position := k, phase := k, encoder := 0, reason := .none }
            att := s.att.raiseUnit .homeDone n
            now := { s.now with restarted := s.now.restarted.set n true } } : State).attend) ∧
        (d.travel + d.travel / 8 ≤ d.homingSteps → exec (.homingStepExpiry n false) s = .next ({ s with
          drives := s.drives.set n { d with
            state := .fault, coils := false, timer := 0, stepPending := false, known := false, reason := .homeLimit
            homeSample := false }
          att := s.att.raiseUnit .homeFailed n } : State).attend) ∧
        (d.homingSteps < d.travel + d.travel / 8 → d.phase ≤ 7 → ∀ k,
          k = (match d.excitation with
            | .half => 1 | .wave => if d.phase % 2 = 0 then 2 else 1 | .twoPhase => if d.phase % 2 = 1 then 2 else 1) →
          exec (.homingStepExpiry n false) s = .next { s with
            drives := s.drives.set n { d with
              phase := (d.phase + 8 - k) % 8, homingSteps := d.homingSteps + 1, timer := 1000000 / d.rate
              homeSample := false }
            now := { s.now with restarted := s.now.restarted.set n true } })))

/-- An encoder sample (R164, R165): one changed input is one count, up in the opening direction in which VnENCA leads;
both changed is an illegal transition, a FAULT of reason ENCODER in any state but FAULT. The first sample after reset
is only stored (assumption log 17); a drive that enters FAULT keeps its homing steps (assumption log 21). -/
def Obligations.EncoderSampleActs : Prop :=
  ∀ (s : State) (n : Fin 8) (d : Drive) (a b : Bool), s.Settled → d = s.drives[n] →
    (d.encSeen = false → exec (.encoderSample n a b) s = .next { s with
      drives := s.drives.set n { d with encA := a, encB := b, encSeen := true } }) ∧
    (d.encSeen = true →
      (a = d.encA → b = d.encB → exec (.encoderSample n a b) s = .next s) ∧
      (a ≠ d.encA → b ≠ d.encB → d.state = .fault → exec (.encoderSample n a b) s = .next { s with
        drives := s.drives.set n { d with encA := a, encB := b } }) ∧
      (a ≠ d.encA → b ≠ d.encB → d.state ≠ .fault → exec (.encoderSample n a b) s = .next ({ s with
        drives := s.drives.set n { d with
          encA := a, encB := b, state := .fault, coils := false, timer := 0, stepPending := false, known := false
          reason := .encoder }
        att := s.att.raiseUnit .valveFault n } : State).attend) ∧
      (((d.encA, d.encB, a, b) ∈ [(false, false, true, false), (true, false, true, true), (true, true, false, true),
          (false, true, false, false)]) → exec (.encoderSample n a b) s = .next { s with
        drives := s.drives.set n { d with
          encA := a, encB := b, encoder := max (-8388608) (min 8388607 (d.encoder + 1)) } }) ∧
      (((a, b, d.encA, d.encB) ∈ [(false, false, true, false), (true, false, true, true), (true, true, false, true),
          (false, true, false, false)]) → exec (.encoderSample n a b) s = .next { s with
        drives := s.drives.set n { d with
          encA := a, encB := b, encoder := max (-8388608) (min 8388607 (d.encoder - 1)) } }))

/-! ## Field lines -/

/-- LINE INIT: its checks, the parameters before the line's state (assumption log 32); accepted in DOWN and READY it
stores the settings, spacing and timeout brought into range, and the line is READY. CLEAR LINE ERRORS clears the six
counts, the CRC latch and the consecutive-bad count (R89, R108). STOP LINE refused, and STOP LINE with an exchange
under way, which sets stop pending only (R91); the check of a loopback echo then takes the stop (R107), shown here for
a good one and in `PollSentActs` for every one. What takes it in POLLING is `StopPendingEndsExchange`. Contention
outside a POLLING line's transmission cannot arise (log 4). -/
def Obligations.LineInitClearStop : Prop :=
  (∀ (s : State) (a r sh sl th tl m : Byte), s.Ready →
      ((7 < a.toNat ∨ 4 < r.toNat ∨ 1 < m.toNat) →
        exec (.lineInit [a, r, sh, sl, th, tl, m]) s = .next (s.refuse .badParam)) ∧
      (7 < a.toNat → exec (.clearLineErrors [a]) s = .next (s.refuse .badParam)) ∧
      ∀ (l : Fin 8) (x : Line) (sp ti : Nat), a.toNat = l.val → x = s.lines[l] → sp = sh.toNat * 256 + sl.toNat →
        ti = th.toNat * 256 + tl.toNat →
        (r.toNat ≤ 4 → m.toNat ≤ 1 →
          (x.state ≠ .down → x.state ≠ .ready →
            exec (.lineInit [a, r, sh, sl, th, tl, m]) s = .next (s.refuse .badState)) ∧
          ((x.state = .down ∨ x.state = .ready) → exec (.lineInit [a, r, sh, sl, th, tl, m]) s = .next { s with
            port := s.port.closed (okOrClamped (!(20 ≤ sp && sp ≤ 1000 && 5 ≤ ti && ti ≤ 500)))
            lines := s.lines.set l { x with
              state := .ready, rate := r.toNat, spacing := max 20 (min 1000 sp), timeout := max 5 (min 500 ti)
              mode := if m.toNat = 0 then .normal else .loopback } })) ∧
        exec (.clearLineErrors [a]) s = .next { s with
          port := s.port.closed .ok
          lines := s.lines.set l { x with crcCount := 0, brokenCount := 0, strayCount := 0, lateCount := 0, loopGood := 0,
                                          loopBad := 0, latch := false, bad := 0 } }) ∧
  (∀ (s : State) (a : Byte), s.Ready →
      (7 < a.toNat → exec (.stopLine [a]) s = .next (s.refuse .badParam) ∧
        exec (.lineReset [a]) s = .next (s.refuse .badParam)) ∧
      ∀ (l : Fin 8) (x : Line), a.toNat = l.val → x = s.lines[l] →
        ((x.state = .down ∨ x.state = .ready) → exec (.stopLine [a]) s = .next (s.refuse .badState)) ∧
        ((x.state = .polling ∨ x.state = .loopback) → (x.phase = .sending ∨ x.phase = .awaiting ∨ x.phase = .receiving) →
          exec (.stopLine [a]) s = .next { s with
            port := s.port.closed .ok, lines := s.lines.set l { x with stop := true } }) ∧
        (x.state = .loopback → x.phase = .sending → x.stop = true → x.polled ≤ 30 → ∀ m n,
          exec (.pollSent l (some (pollFrame l x.polled m n))) s = .next { s with lines := s.lines.set l { x with
            state := .ready, stop := false, phase := .none, te := false, respLeft := 0, spaceLeft := 0, assembling := false
            due := false, cut := false, loopGood := min 65535 (x.loopGood + 1) } }) ∧
        ((x.state ≠ .polling ∨ x.phase ≠ .sending) → exec (.contention l) s = .next s))

/-- START LINE (R90): accepted in READY and FAULTED; it clears the consecutive-bad count and the missed counts of the
line's drops and starts the walk. In LOOPBACK mode the line polls address 1 to itself. In NORMAL mode it enters
POLLING: the connections on it lose LINE, those left with no cause return to ACTIVE (R18, R93), and the first pollable
drop is polled (R94). The pass that a return to ACTIVE triggers starts at the event's end (assumption log 10). -/
def Obligations.StartLineActs : Prop :=
  ∀ (s : State) (a : Byte), s.Ready →
    (7 < a.toNat → exec (.startLine [a]) s = .next (s.refuse .badParam)) ∧
    ∀ (l : Fin 8) (x y : Line) (ds : List Drop), a.toNat = l.val → x = s.lines[l] →
      ds = s.drops.map (fun d => if d.line = l then { d with missed := 0 } else d) →
      y = { x with stop := false, phase := .none, bad := 0, walk := 0, te := false, respLeft := 0, spaceLeft := 0,
                   assembling := false, due := false, cut := false } →
      (x.state ≠ .ready → x.state ≠ .faulted → exec (.startLine [a]) s = .next (s.refuse .badState)) ∧
      ((x.state = .ready ∨ x.state = .faulted) →
        (x.mode = .loopback → exec (.startLine [a]) s = .next { s with
          port := s.port.closed .ok, drops := ds
          lines := s.lines.set l { y with
            state := .loopback, walk := 1, polled := 1, phase := .sending, tx := pollFrame l 1 .commission 0 } }) ∧
        (x.mode = .normal → ∃ u : State,
          exec (.startLine [a]) s = .next (if (∃ id : Fin 96, s.conns[id].line = l ∧ s.conns[id].state = .suspended ∧
            s.conns[id].comms = false ∧ s.conns[id].supervisor = false) then u.answered else u.attend) ∧
          u = { s with port := s.port.closed .ok, conns := u.conns, drops := u.drops, lines := u.lines, att := u.att } ∧
          (∀ id : Fin 96, u.conns[id] =
            if s.conns[id].line = l ∧ s.conns[id].state = .suspended then
              if s.conns[id].comms = true ∨ s.conns[id].supervisor = true then { s.conns[id] with lineCause := false }
              else { s.conns[id] with
                lineCause := false, state := .active, expired := false, holdLeft := 0, moved := true
                granted := if s.conns[id].expired
                  then fallbackPower s.conns[id].sub s.conns[id].dt s.conns[id].fallback else s.conns[id].granted
                ceiling := if s.conns[id].expired then s.conns[id].fallback.getD 0 else s.conns[id].ceiling }
            else s.conns[id]) ∧
          u.att = { s.att with causes := u.att.causes, changed := u.att.changed } ∧
          (∀ c : Cause, u.att.unitsOf c = s.att.unitsOf c ∧ u.att.isPending c = (s.att.isPending c ||
            (c == .stateChanged && decide (∃ id : Fin 96, s.conns[id].line = l ∧ s.conns[id].state = .suspended ∧
              s.conns[id].comms = false ∧ s.conns[id].supervisor = false)))) ∧
          (∀ id : Fin 96, u.att.changed.getLsbD id.val = (s.att.changed.getLsbD id.val ||
            decide (s.conns[id].line = l ∧ s.conns[id].state = .suspended ∧ s.conns[id].comms = false ∧
              s.conns[id].supervisor = false))) ∧
          ((∀ d ∈ s.drops, d.line = l → d.closed = true) →
            u.lines = s.lines.set l { y with state := .polling } ∧ u.drops = ds) ∧
          (∀ d ∈ ds, d.line = l → d.closed = false → 1 ≤ d.addr →
            (∀ e ∈ s.drops, e.line = l → e.closed = false → d.addr ≤ e.addr) →
            s.drops.Pairwise (fun e f => e.key < f.key) →
            u.lines = s.lines.set l { y with
              state := .polling, walk := d.addr, polled := d.addr, phase := .sending, te := true
              tx := pollFrame l d.addr (grantMode u.conns[d.conn] d) (grantCeiling u.conns[d.conn] d) } ∧
            u.drops = ds.map (fun e => if e.line = l ∧ e.addr = d.addr
              then { e with mode := some (grantMode u.conns[d.conn] d) } else e))))

/-- A line out of an exchange, or with none to finish, leaves its state at once: STOP LINE for READY from FAULTED, from
LOOPBACK or from POLLING with no exchange open, LINE RESET for DOWN from every state, contention for FAULTED. Leaving
POLLING gives LINE to the line's connections and closes its RETIRING ones; the one pass they trigger starts at the
event's end, after all of them have changed (assumption log 10) (R91, R92, R93, R105, R131, R132). -/
def Obligations.LeavingPollingSuspends : Prop :=
  ∀ (s : State) (i : Instr) (a : Byte) (l : Fin 8) (x y z : Line) (p : Port) (faults : Bool), s.Settled →
    x = s.lines[l] → a.toNat = l.val →
    z = { x with stop := false, phase := .none, te := false, respLeft := 0, spaceLeft := 0, assembling := false,
                 due := false, cut := false } →
    ((s.Ready ∧ i = .stopLine [a] ∧ x.state ≠ .down ∧ x.state ≠ .ready ∧
        (x.state = .faulted ∨ x.phase = .none ∨ x.phase = .spacing) ∧ y = { z with state := .ready } ∧
        p = s.port.closed .ok ∧ faults = false) ∨
      (s.Ready ∧ i = .lineReset [a] ∧ y = Line.reset ∧ p = s.port.closed .ok ∧ faults = false) ∨
      (i = .contention l ∧ x.state = .polling ∧ x.phase = .sending ∧ y = { z with state := .faulted } ∧ p = s.port ∧
        faults = true)) →
    (x.state ≠ .polling → exec i s = .next { s with port := p, lines := s.lines.set l y }) ∧
    (x.state = .polling → ∃ u : State,
      exec i s = .next (if (∃ id : Fin 96, s.conns[id].line = l ∧ (s.conns[id].state = .active)) then u.answered
        else u.attend) ∧
      u = { s with
        port := p, lines := s.lines.set l y, conns := u.conns, att := u.att
        drops := s.drops.filter (fun d => !(s.conns[d.conn].state == .retiring && s.conns[d.conn].line == l))
        engine := { s.engine with curtail := s.engine.curtail.filter (fun e =>
          !(s.conns[e.id].state == .active && s.conns[e.id].line == l)) } } ∧
      (∀ id : Fin 96, u.conns[id] = if s.conns[id].line = l then
          match s.conns[id].state with
          | .active => { s.conns[id] with
              state := .suspended, lineCause := true, curtailed := false, ramp := false, expired := false
              holdLeft := s.holdSetting, moved := true }
          | .suspended => { s.conns[id] with lineCause := true }
          | .retiring => Conn.vacant s.conns[id].gen
          | _ => s.conns[id]
        else s.conns[id]) ∧
      u.att = { s.att with causes := u.att.causes, changed := u.att.changed } ∧
      (∀ id : Fin 96, u.att.changed.getLsbD id.val = (s.att.changed.getLsbD id.val ||
        decide (s.conns[id].line = l ∧ (s.conns[id].state = .active ∨ s.conns[id].state = .retiring)))) ∧
      (∀ c : Cause, u.att.isPending c = (s.att.isPending c ||
        match c with
        | .stateChanged => decide (∃ id : Fin 96, s.conns[id].line = l ∧
            (s.conns[id].state = .active ∨ s.conns[id].state = .retiring))
        | .retireDone => decide (∃ id : Fin 96, s.conns[id].line = l ∧ s.conns[id].state = .retiring)
        | .lineFaulted => faults
        | _ => false)) ∧
      (∀ (c : Cause) (n : Fin 8), (u.att.unitsOf c).getLsbD n.val = ((s.att.unitsOf c).getLsbD n.val ||
        (c == .lineFaulted && faults && n == l))))

/-- A selection (R94, R98, R114): at a tick of an idle POLLING line with a pollable drop, and at the end of the poll
spacing, the line polls the lowest pollable address above its walk position, or the lowest of all, which ends a round;
the frame carries the grant mode and the ceiling of the drop. With no pollable drop the line goes idle. A frame being
assembled makes the selection wait with the phase as it was (assumption log 33); `FramesOutsideExchangeCount` says how
it is made then. Either event given in another phase cannot arise and changes nothing (assumption log 4). In LOOPBACK
the walk is 1 to 30 (R106). -/
def Obligations.SelectionPollsNextDrop : Prop :=
  ∀ (s : State) (i : Instr) (l : Fin 8) (x : Line), s.Settled → s.PoolRight → x = s.lines[l] →
    (((x.state ≠ .polling ∨ x.phase ≠ .none ∨ ∀ d ∈ s.drops, d.line = l → d.closed = true) →
      exec (.idleLineSelection l) s = .next s) ∧
    (x.phase ≠ .spacing → exec (.pollSpacingExpiry l) s = .next s)) ∧
    ((i = .idleLineSelection l ∧ x.state = .polling ∧ x.phase = .none ∧
          (∃ d ∈ s.drops, d.line = l ∧ d.closed = false) ∧ x.spaceLeft = 0 ∨
        i = .pollSpacingExpiry l ∧ (x.state = .polling ∨ x.state = .loopback) ∧ x.phase = .spacing) →
      (x.assembling = true →
        exec i s = .next { s with lines := s.lines.set l { x with due := true, spaceLeft := 0 } }) ∧
      (x.assembling = false → x.state = .polling →
        ((∀ d ∈ s.drops, d.line = l → d.closed = true) → exec i s = .next { s with
          lines := s.lines.set l { x with phase := .none, due := false, spaceLeft := 0 } }) ∧
        (∀ d ∈ s.drops, d.line = l → d.closed = false →
          ((x.walk < d.addr ∧ ∀ e ∈ s.drops, e.line = l → e.closed = false → e.addr ≤ x.walk ∨ d.addr ≤ e.addr) ∨
            (∀ e ∈ s.drops, e.line = l → e.closed = false → e.addr ≤ x.walk ∧ d.addr ≤ e.addr)) →
          ∀ (c : Conn) (g : GrantMode), c = s.conns[d.conn] →
            g = (if c.state = .retiring then .close else if c.state = .pending ∨ d.state = .joining then .commission
              else if c.state = .active then .openService else if c.expired then .fallback else .hold) →
            exec i s = .next { s with
              drops := s.drops.map (fun e => if e.line = l ∧ e.addr = d.addr then { e with mode := some g } else e)
              lines := s.lines.set l { x with
                rounds := if x.walk < d.addr then x.rounds else (x.rounds + 1) % 65536
                walk := d.addr, polled := d.addr, phase := .sending, te := true, due := false, cut := false
                respLeft := 0, spaceLeft := 0
                tx := pollFrame l d.addr g (if g = .close ∨ g = .commission then 0 else d.share) } })) ∧
      (x.assembling = false → x.state = .loopback → ∀ n, n = (if 30 ≤ x.walk then 1 else x.walk + 1) →
        exec i s = .next { s with lines := s.lines.set l { x with
          rounds := if 30 ≤ x.walk then (x.rounds + 1) % 65536 else x.rounds
          walk := n, polled := n, phase := .sending, te := false, due := false, cut := false, respLeft := 0
          spaceLeft := 0, tx := pollFrame l n .commission 0 } }))

/-- The end of a poll (R95, R96, R107): in POLLING the line turns round and the response timer starts, or a cut
exchange goes on to SPACING; in LOOPBACK the echo is checked, and a bad one sets the CRC latch with CRC_LATCHED on a
change and raises LOOP_ERROR. Given in another phase the event cannot arise and changes nothing (assumption log 4). A
stop pending is taken in the event of the check; in POLLING a cut exchange with one is left to
`StopPendingEndsExchange`. -/
def Obligations.PollSentActs : Prop :=
  ∀ (s : State) (l : Fin 8) (x : Line) (echo : Option (List Byte)), s.Settled → x = s.lines[l] →
    (x.phase ≠ .sending → exec (.pollSent l echo) s = .next s) ∧
    (x.phase = .sending → x.state ≠ .loopback → x.cut = false → exec (.pollSent l echo) s = .next { s with
      lines := s.lines.set l { x with phase := .awaiting, te := false, respLeft := x.timeout } }) ∧
    (x.phase = .sending → x.state ≠ .loopback → x.cut = true → x.stop = false → exec (.pollSent l echo) s = .next { s with
      lines := s.lines.set l { x with phase := .spacing, te := false, respLeft := 0, spaceLeft := x.spacing, cut := false } }) ∧
    (x.phase = .sending → x.state = .loopback → x.polled ≤ 30 → ∀ z : Line,
      z = (if x.stop
        then { x with
          state := .ready, stop := false, phase := .none, te := false, respLeft := 0, spaceLeft := 0
          assembling := false, due := false, cut := false }
        else { x with phase := .spacing, te := false, respLeft := 0, spaceLeft := x.spacing, cut := false }) →
      (∀ m n, echo = some (pollFrame l x.polled m n) → exec (.pollSent l echo) s = .next { s with
        lines := s.lines.set l { z with loopGood := min 65535 (x.loopGood + 1) } }) ∧
      ((echo = none ∨ ∃ b, echo = some b ∧ (completeFrame b = false ∨ crcGood b = false ∨ arg b 2 ≠ 0x31 ∨ arg b 3 ≠ l.val ∨ arg b 4 ≠ x.polled)) →
        exec (.pollSent l echo) s = .next ({ s with
          lines := s.lines.set l { z with loopBad := min 65535 (x.loopBad + 1), latch := true }
          att := (if x.latch then s.att else s.att.raiseUnit .crcLatched l).raiseUnit .loopError l } : State).attend))

/-- The polled drop's REPORT, from a drop that is LIVE already (R66, R67, R68, R96, R101, R117, R118, R120): the
exchange ends, the report is stored, the connection's demand recomputed, and an ACTIVE connection is scored and its
demand compared with the snapshot's. A report given in AWAITING is taken as the reply (assumption log 13); with a stop
pending see `StopPendingEndsExchange`. -/
def Obligations.ReportStoredAndScored : Prop :=
  ∀ (s : State) (l : Fin 8) (x : Line) (d d' : Drop) (c : Conn) (r : Report) (bytes : List Byte) (ok skip short : Bool)
    (demand score : Nat) (low : Bool) (ds : List Drop), s.Settled → s.PoolRight → x = s.lines[l] → x.state = .polling →
    (x.phase = .awaiting ∨ x.phase = .receiving) → x.stop = false → d ∈ s.drops → d.line = l → d.addr = x.polled →
    d.state = .live → c = s.conns[d.conn] →
    (∃ dh dl th tl uh ul fh fl v f : Byte,
      bytes = frameOf [13, 0x32, BitVec.ofNat 8 l.val, BitVec.ofNat 8 d.addr, dh, dl, th, tl, uh, ul, fh, fl, v, f] ∧
      r = { demand := dh.toNat * 256 + dl.toNat, supply := signed16 (th.toNat * 256 + tl.toNat)
            ret := signed16 (uh.toNat * 256 + ul.toNat), flow := fh.toNat * 256 + fl.toNat, valve := v.toNat
            localOverride := f.getLsbD 0, sensorFault := f.getLsbD 1 }) →
    ok = (decide (-100 ≤ r.supply ∧ r.supply ≤ 600 ∧ -100 ≤ r.ret ∧ r.ret ≤ 600) && !r.sensorFault) →
    d' = { d with
      demand := r.demand, flow := r.flow, valve := r.valve, localOverride := r.localOverride
      sensorFault := r.sensorFault, supply := if ok then r.supply else d.supply, ret := if ok then r.ret else d.ret
      stale := !ok, missed := 0 } →
    ds = s.drops.map (fun e => if e.line = l ∧ e.addr = d.addr then d' else e) →
    demand = min 65535 ((ds.filter (fun e => e.conn = d.conn ∧ e.state = .live)).map (·.demand)).sum →
    skip = (!ok || r.localOverride || decide (s.plant.setpoint + 20 < r.supply) || decide (r.flow < c.maxFlow / 20)) →
    short = decide (r.ret - r.supply < c.dt - 5) →
    score = (if skip then c.score else if short then min 255 (c.score + 1) else c.score - 1) →
    low = (if skip then c.lowDt else if short then c.lowDt || decide (s.demote ≤ score)
      else c.lowDt && !decide (c.score = 1)) →
    ∀ u : State, u = { s with
        drops := ds
        lines := s.lines.set l { x with
          phase := .spacing, te := false, respLeft := 0, spaceLeft := x.spacing, cut := false, bad := 0
          assembling := false } } →
      (c.state = .active → exec (.frameReceived l bytes) s = .next ({ u with
        conns := s.conns.set d.conn { c with demand := demand, score := score, lowDt := low }
        engine := { s.engine with pend := s.engine.pend || (low != c.lowDt) || decide (demand ≠ c.demand ∧
          (s.engine.deadband ≤ demand - c.demandSnap ∨ s.engine.deadband ≤ c.demandSnap - demand)) }
        att := if low = c.lowDt then s.att else s.att.raise .lowDtChanged } : State).attend) ∧
      ((c.state = .pending ∨ c.state = .suspended) → exec (.frameReceived l bytes) s = .next { u with
        conns := s.conns.set d.conn { c with demand := demand } }) ∧
      (c.state = .retiring → d.mode ≠ some .close → exec (.frameReceived l bytes) s = .next u)

/-- The REPORT that makes a JOINING or SILENT drop LIVE (R13, R14, R18, R112, R117, R121): the change is reported; a
PENDING connection whose every other drop is LIVE, or JOINING by ADD DROP, enters service with grant and shares 0; a
SUSPENDED connection whose last SILENT drop this was loses COMMS, and returns to ACTIVE when no cause is left, the pass
starting at the event's end (assumption log 10). A report given in AWAITING is taken as the reply (assumption log 13).
The REPORT that makes a drop of an ACTIVE connection LIVE (R65, R112, R117, R119): the change is reported, and the
connection is scored and its demand compared by that report too; one given in AWAITING is taken as the reply
(assumption log 13). -/
def Obligations.ReportMakesDropLive : Prop :=
  (∀ (s : State) (l : Fin 8) (x : Line) (d d' : Drop) (c : Conn) (r : Report) (bytes : List Byte) (demand : Nat)
      (ds : List Drop), s.Settled → s.PoolRight → x = s.lines[l] → x.state = .polling →
      (x.phase = .awaiting ∨ x.phase = .receiving) → x.stop = false → d ∈ s.drops → d.line = l → d.addr = x.polled →
      d.state ≠ .live → c = s.conns[d.conn] → completeFrame bytes = true → crcGood bytes = true →
      arg bytes 1 = 13 → arg bytes 2 = 0x32 → arg bytes 3 = l.val → arg bytes 4 = d.addr → r = reportOf bytes →
      d' = { d.store r with state := .live } →
      ds = s.drops.map (fun e => if e.line = l ∧ e.addr = d.addr then d' else e) →
      demand = min 65535 ((ds.filter (fun e => e.conn = d.conn ∧ e.state = .live)).map (·.demand)).sum →
      ∀ u : State, u = { s with
          drops := ds
          conns := s.conns.set d.conn { c with demand := demand }
          lines := s.lines.set l { x with
            phase := .spacing, te := false, respLeft := 0, spaceLeft := x.spacing, cut := false, bad := 0
            assembling := false }
          att := (s.att.raise .stateChanged).enter d.conn } →
        (c.state = .pending →
          ((∃ e ∈ ds, e.conn = d.conn ∧ (e.state = .silent ∨ (e.state = .joining ∧ e.origin = .create))) →
            exec (.frameReceived l bytes) s = .next u.attend) ∧
          ((∀ e ∈ ds, e.conn = d.conn → e.state = .live ∨ (e.state = .joining ∧ e.origin = .add)) →
            exec (.frameReceived l bytes) s = .next ({ u with
              conns := s.conns.set d.conn { c with demand := demand, state := .active, granted := 0, ceiling := 0,
                                                   moved := true }
              drops := ds.map (fun e => if e.conn = d.conn then { e with share := 0 } else e) } : State).answered)) ∧
        (c.state = .suspended →
          ((∃ e ∈ ds, e.conn = d.conn ∧ e.state = .silent) → exec (.frameReceived l bytes) s = .next u.attend) ∧
          ((∀ e ∈ ds, e.conn = d.conn → e.state ≠ .silent) →
            ((c.lineCause = true ∨ c.supervisor = true) → exec (.frameReceived l bytes) s = .next ({ u with
              conns := s.conns.set d.conn { c with demand := demand, comms := false } } : State).attend) ∧
            (c.lineCause = false → c.supervisor = false → exec (.frameReceived l bytes) s = .next ({ u with
              conns := s.conns.set d.conn { c with
                demand := demand, comms := false, state := .active, expired := false, holdLeft := 0, moved := true
                granted := if c.expired then fallbackPower c.sub c.dt c.fallback else c.granted
                ceiling := if c.expired then c.fallback.getD 0 else c.ceiling } } : State).answered)))) ∧
  (∀ (s : State) (l : Fin 8) (x : Line) (d d' : Drop) (c : Conn) (r : Report) (bytes : List Byte) (ok skip short low : Bool)
      (demand score : Nat) (ds : List Drop) (att : Attention), s.Settled → s.PoolRight → x = s.lines[l] →
      x.state = .polling → (x.phase = .awaiting ∨ x.phase = .receiving) → x.stop = false → d ∈ s.drops → d.line = l →
      d.addr = x.polled → d.state ≠ .live → c = s.conns[d.conn] → c.state = .active → completeFrame bytes = true →
      crcGood bytes = true → arg bytes 1 = 13 → arg bytes 2 = 0x32 → arg bytes 3 = l.val → arg bytes 4 = d.addr →
      r = reportOf bytes → d' = { d.store r with state := .live } →
      ds = s.drops.map (fun e => if e.line = l ∧ e.addr = d.addr then d' else e) →
      demand = min 65535 ((ds.filter (fun e => e.conn = d.conn ∧ e.state = .live)).map (·.demand)).sum →
      ok = (decide (-100 ≤ r.supply ∧ r.supply ≤ 600 ∧ -100 ≤ r.ret ∧ r.ret ≤ 600) && !r.sensorFault) →
      skip = (!ok || r.localOverride || decide (s.plant.setpoint + 20 < r.supply) || decide (r.flow < c.maxFlow / 20)) →
      short = decide (r.ret - r.supply < c.dt - 5) →
      score = (if skip then c.score else if short then min 255 (c.score + 1) else c.score - 1) →
      low = (if skip then c.lowDt else if short then c.lowDt || decide (s.demote ≤ score)
        else c.lowDt && !decide (c.score = 1)) →
      att = (s.att.raise .stateChanged).enter d.conn →
      exec (.frameReceived l bytes) s = .next ({ s with
        drops := ds
        conns := s.conns.set d.conn { c with demand := demand, score := score, lowDt := low }
        lines := s.lines.set l { x with
          phase := .spacing, te := false, respLeft := 0, spaceLeft := x.spacing, cut := false, bad := 0
          assembling := false }
        engine := { s.engine with pend := s.engine.pend || (low != c.lowDt) || decide (demand ≠ c.demand ∧
          (s.engine.deadband ≤ demand - c.demandSnap ∨ s.engine.deadband ≤ c.demandSnap - demand)) }
        att := if low = c.lowDt then att else att.raise .lowDtChanged } : State).attend)

/-- A miss (R96, R99, R100, R101, R103, R104, R123): by the response timer in AWAITING, by a broken frame, by the gap
limit, by a frame that fails its CRC, or by a stray frame that ends after the timer has expired. It ends the exchange;
the broken and the CRC-failing ones count toward the eight that fault the line. A bad frame given in AWAITING ends it
too (assumption log 13); a pass starts at the event's end (assumption log 10). The drop's missed count rises, and the
third miss of a LIVE drop makes it SILENT and suspends its ACTIVE connection with COMMS. -/
def Obligations.MissesSilenceAndFault : Prop :=
  ∀ (s : State) (i : Instr) (l : Fin 8) (x y : Line) (d : Drop) (c : Conn) (bytes : List Byte) (att : Attention)
    (demand : Nat) (ds : List Drop), s.Settled → s.PoolRight → x = s.lines[l] → x.state = .polling →
    x.stop = false → d ∈ s.drops → d.line = l → d.addr = x.polled → c = s.conns[d.conn] → c.state ≠ .retiring →
    (i = .responseTimeout l ∧ x.phase = .awaiting ∧ y = { x with bad := 0 } ∧ att = s.att ∨
      (x.phase = .awaiting ∨ x.phase = .receiving) ∧
        ((i = .brokenFrame l ∨ (i = .gapLimitExpiry l ∧ x.assembling = true)) ∧ att = s.att ∧
            y = { x with bad := x.bad + 1, brokenCount := min 65535 (x.brokenCount + 1), assembling := false } ∨
          i = .frameReceived l bytes ∧ completeFrame bytes = true ∧ crcGood bytes = false ∧
            att = (if x.latch then s.att else s.att.raiseUnit .crcLatched l) ∧
            y = { x with bad := x.bad + 1, crcCount := min 65535 (x.crcCount + 1), latch := true
                         assembling := false } ∨
          i = .frameReceived l bytes ∧ completeFrame bytes = true ∧ crcGood bytes = true ∧ x.respLeft = 0 ∧
            (arg bytes 1 ≠ 13 ∨ arg bytes 2 ≠ 0x32 ∨ arg bytes 3 ≠ l.val ∨ arg bytes 4 ≠ x.polled) ∧ att = s.att ∧
            y = { x with bad := 0, strayCount := min 65535 (x.strayCount + 1), assembling := false })) →
    ds = s.drops.map (fun e => if e.line = l ∧ e.addr = d.addr then { e with
      missed := min 255 (e.missed + 1), state := if d.state = .live ∧ d.missed = 2 then .silent else e.state } else e) →
    demand = min 65535 ((ds.filter (fun e => e.conn = d.conn ∧ e.state = .live)).map (·.demand)).sum →
    ∀ u : State, u = { s with
        att := att
        lines := s.lines.set l { y with
          phase := .spacing, te := false, respLeft := 0, spaceLeft := x.spacing, cut := false } } →
      (y.bad < 8 →
        ((d.state ≠ .live ∨ d.missed ≠ 2) → exec i s = .next ({ u with drops := ds } : State).attend) ∧
        (d.state = .live → d.missed = 2 →
          (c.state = .active → exec i s = .next ({ u with
            drops := ds
            conns := s.conns.set d.conn { c with
              demand := demand, comms := true, state := .suspended, curtailed := false, ramp := false, expired := false
              holdLeft := s.holdSetting, moved := true }
            engine := { s.engine with
              pend := s.engine.pend || decide (demand ≠ c.demand ∧
                (s.engine.deadband ≤ demand - c.demandSnap ∨ s.engine.deadband ≤ c.demandSnap - demand))
              curtail := s.engine.curtail.filter (fun e => e.id ≠ d.conn) }
            att := (att.raise .stateChanged).enter d.conn } : State).answered) ∧
          ((c.state = .pending ∨ c.state = .suspended) → exec i s = .next ({ u with
            drops := ds
            conns := s.conns.set d.conn { c with demand := demand, comms := c.comms || c.state == .suspended }
            att := (att.raise .stateChanged).enter d.conn } : State).attend))) ∧
      (y.bad = 8 → ∃ t, exec i s = .next t ∧ t.att.isPending .lineFaulted = true ∧
        (t.att.unitsOf .lineFaulted).getLsbD l.val = true ∧
        t.lines = s.lines.set l { y with
          state := .faulted, phase := .none, te := false, respLeft := 0, spaceLeft := 0, assembling := false, due := false
          cut := false } ∧
        ∀ id : Fin 96, s.conns[id].line = l → s.conns[id].state = .active → t.conns[id].state = .suspended)

/-- The close-out of a RETIRING connection on a POLLING line (R130, R131, R132): a report that answers a CLOSE poll
closes its drop, and so does the second miss of a CLOSE poll, of any kind, that by a stray frame which ends after the
response timer has expired (R101) among them; a report given in AWAITING is taken as the reply (assumption log 13); a
poll that went out before with another mode closes nothing. The last drop closed, the record is VACANT, its slots free
and its generation kept, with RETIRE_DONE. -/
def Obligations.ClosePollsVacateRecord : Prop :=
  ∀ (s : State) (i : Instr) (l : Fin 8) (x y : Line) (d : Drop) (c : Conn) (bytes : List Byte) (r : Report)
    (ds : List Drop) (closes : Bool) (att : Attention), s.Settled → s.PoolRight → x = s.lines[l] →
    x.state = .polling → x.stop = false →
    d ∈ s.drops → d.line = l → d.addr = x.polled → c = s.conns[d.conn] → c.state = .retiring →
    ((i = .responseTimeout l ∧ x.phase = .awaiting ∧ y = { x with bad := 0 } ∧ att = s.att ∨
          (x.phase = .awaiting ∨ x.phase = .receiving) ∧
            ((i = .brokenFrame l ∨ (i = .gapLimitExpiry l ∧ x.assembling = true)) ∧ att = s.att ∧ x.bad < 7 ∧
                y = { x with bad := x.bad + 1, brokenCount := min 65535 (x.brokenCount + 1), assembling := false } ∨
              i = .frameReceived l bytes ∧ completeFrame bytes = true ∧ crcGood bytes = false ∧ x.bad < 7 ∧
                att = (if x.latch then s.att else s.att.raiseUnit .crcLatched l) ∧
                y = { x with bad := x.bad + 1, crcCount := min 65535 (x.crcCount + 1), latch := true
                             assembling := false } ∨
              i = .frameReceived l bytes ∧ completeFrame bytes = true ∧ crcGood bytes = true ∧ x.respLeft = 0 ∧
                (arg bytes 1 ≠ 13 ∨ arg bytes 2 ≠ 0x32 ∨ arg bytes 3 ≠ l.val ∨ arg bytes 4 ≠ x.polled) ∧ att = s.att ∧
                y = { x with bad := 0, strayCount := min 65535 (x.strayCount + 1), assembling := false })) ∧
        closes = decide (d.mode = some .close ∧ 1 ≤ d.closePolls) ∧
        ds = s.drops.map (fun e => if e.line = l ∧ e.addr = d.addr then { e with
          closePolls := if d.mode = some .close then min 2 (e.closePolls + 1) else e.closePolls
          closed := e.closed || closes } else e) ∨
      i = .frameReceived l bytes ∧ (x.phase = .awaiting ∨ x.phase = .receiving) ∧ completeFrame bytes = true ∧
        crcGood bytes = true ∧ arg bytes 1 = 13 ∧ arg bytes 2 = 0x32 ∧ arg bytes 3 = l.val ∧ arg bytes 4 = d.addr ∧
        r = reportOf bytes ∧ closes = decide (d.mode = some .close) ∧ att = s.att ∧
        y = { x with bad := 0, assembling := false } ∧
        ds = s.drops.map (fun e => if e.line = l ∧ e.addr = d.addr then { e.store r with closed := e.closed || closes }
          else e)) →
    ∀ u : State, u = { s with
        att := att
        lines := s.lines.set l { y with
          phase := .spacing, te := false, respLeft := 0, spaceLeft := x.spacing, cut := false } } →
      ((closes = false ∨ ∃ e ∈ ds, e.conn = d.conn ∧ e.closed = false) → exec i s = .next ({ u with drops := ds } : State).attend) ∧
      (closes = true → (∀ e ∈ ds, e.conn = d.conn → e.closed = true) → exec i s = .next ({ u with
        conns := s.conns.set d.conn (Conn.vacant c.gen)
        drops := s.drops.filter (fun e => e.conn ≠ d.conn)
        att := ((att.raise .retireDone).raise .stateChanged).enter d.conn } : State).attend)

/-- A stop pending is taken in the event that ends the exchange (R91, R93): a report, or a miss of any kind short of
the eighth bad end, is handed on first (assumption log 12; a frame given in AWAITING counts as the reply, log 13), then
the line is READY instead of SPACING, its ACTIVE and SUSPENDED connections hold LINE, its RETIRING ones are VACANT, and
no other line's connection or drop changes. A stop pending is taken as well when the exchange ends in a cut (R91, R96):
at the end of its poll, or at once when REMOVE DROP frees the drop whose reply is awaited. -/
def Obligations.StopPendingEndsExchange : Prop :=
  (∀ (s : State) (i : Instr) (l : Fin 8) (x y : Line) (d : Drop) (bytes : List Byte) (r : Option Report), s.Settled →
      s.PoolRight → x = s.lines[l] → x.state = .polling → x.stop = true → d ∈ s.drops → d.line = l → d.addr = x.polled →
      (i = .responseTimeout l ∧ x.phase = .awaiting ∧ r = none ∧ y = { x with bad := 0 } ∨
        (x.phase = .awaiting ∨ x.phase = .receiving) ∧
          ((i = .brokenFrame l ∨ (i = .gapLimitExpiry l ∧ x.assembling = true)) ∧ x.bad < 7 ∧ r = none ∧
              y = { x with bad := x.bad + 1, brokenCount := min 65535 (x.brokenCount + 1) } ∨
            i = .frameReceived l bytes ∧ completeFrame bytes = true ∧
              (crcGood bytes = false ∧ x.bad < 7 ∧ r = none ∧
                  y = { x with bad := x.bad + 1, crcCount := min 65535 (x.crcCount + 1), latch := true } ∨
                crcGood bytes = true ∧
                  (arg bytes 1 ≠ 13 ∨ arg bytes 2 ≠ 0x32 ∨ arg bytes 3 ≠ l.val ∨ arg bytes 4 ≠ x.polled) ∧
                  x.respLeft = 0 ∧ r = none ∧ y = { x with bad := 0, strayCount := min 65535 (x.strayCount + 1) } ∨
                crcGood bytes = true ∧ arg bytes 1 = 13 ∧ arg bytes 2 = 0x32 ∧ arg bytes 3 = l.val ∧
                  arg bytes 4 = x.polled ∧ r = some (reportOf bytes) ∧ y = { x with bad := 0 }))) →
      ∃ t, exec i s = .next t ∧
        t.lines = s.lines.set l { y with
          state := .ready, stop := false, phase := .none, te := false, respLeft := 0, spaceLeft := 0, assembling := false
          due := false, cut := false } ∧
        (∀ id : Fin 96, s.conns[id].line = l →
          ((s.conns[id].state = .active ∨ s.conns[id].state = .suspended) →
            t.conns[id].state = .suspended ∧ t.conns[id].lineCause = true) ∧
          (s.conns[id].state = .retiring → t.conns[id] = Conn.vacant s.conns[id].gen) ∧
          (s.conns[id].state = .pending →
            t.conns[id].state = .pending ∨ (t.conns[id].state = .suspended ∧ t.conns[id].lineCause = true)) ∧
          (s.conns[id].state = .active → t.computing = true)) ∧
        (∀ id : Fin 96, s.conns[id].line ≠ l → t.conns[id] = { s.conns[id] with
          moved := t.conns[id].moved, demandSnap := t.conns[id].demandSnap }) ∧
        t.drops.filter (fun e => e.line ≠ l) = s.drops.filter (fun e => e.line ≠ l) ∧
        (s.conns[d.conn].state ≠ .retiring → ∃ e ∈ t.drops, e.line = l ∧ e.addr = d.addr ∧
          match r with
          | none => e.missed = min 255 (d.missed + 1)
          | some r => e.missed = 0 ∧ e.state = .live ∧ e.demand = r.demand) ∧
        t.branches = s.branches ∧ t.drives = s.drives ∧ t.port = s.port ∧ t.pending = s.pending) ∧
  (∀ (s : State) (i : Instr) (l : Fin 8) (x : Line) (echo : Option (List Byte)) (a b : Byte) (id : Fin 96), s.Settled →
      s.PoolRight → x = s.lines[l] → x.state = .polling → x.stop = true →
      (i = .pollSent l echo ∧ x.phase = .sending ∧ x.cut = true ∨
        i = .removeDrop [a, b] ∧ s.Ready ∧ (x.phase = .awaiting ∨ x.phase = .receiving) ∧ a.toNat = id.val ∧
          s.conns[id].state = .active ∧ s.conns[id].line = l ∧ b.toNat = x.polled ∧
          (∃ d ∈ s.dropsOf id, d.addr = x.polled) ∧ 2 ≤ (s.dropsOf id).length) →
      ∃ t, exec i s = .next t ∧
        t.lines = s.lines.set l { x with
          state := .ready, stop := false, phase := .none, te := false, respLeft := 0, spaceLeft := 0, assembling := false
          due := false, cut := false } ∧
        ∀ id : Fin 96, s.conns[id].line = l → (s.conns[id].state = .active ∨ s.conns[id].state = .suspended) →
          t.conns[id].state = .suspended ∧ t.conns[id].lineCause = true)

/-- The receiver apart from the end of an exchange (R88, R95, R97, R99, R101, R102, R103): a line that does not listen
takes nothing; the first character of a frame turns AWAITING into RECEIVING, and the response timer's expiry in
RECEIVING ends nothing; a good frame that is not the polled drop's REPORT is a stray; outside an exchange a REPORT is
late, any other good frame a stray, and a bad frame is counted only. A frame given in AWAITING is taken as one in
RECEIVING (assumption log 13); an expiry outside an exchange, a first character while a frame is being assembled and a
gap with no frame cannot arise and change nothing (assumption log 4). A selection that waits for a frame is made in the
event that ends the frame, whole or broken, as at the end of a poll spacing (R94, R98); the frame is counted as one
outside an exchange (R102, R103); until then the phase is what it was (assumption log 33). -/
def Obligations.FramesOutsideExchangeCount : Prop :=
  (∀ (s : State) (l : Fin 8) (x : Line) (bytes : List Byte), s.Settled → x = s.lines[l] →
      ((x.state ≠ .polling ∨ x.phase = .sending) → exec (.replyStart l) s = .next s ∧
        exec (.frameReceived l bytes) s = .next s ∧ exec (.brokenFrame l) s = .next s ∧
        exec (.gapLimitExpiry l) s = .next s) ∧
      (x.phase ≠ .awaiting → x.phase ≠ .receiving → exec (.responseTimeout l) s = .next s) ∧
      (x.phase = .receiving → exec (.responseTimeout l) s = .next { s with
        lines := s.lines.set l { x with respLeft := 0 } }) ∧
      (x.state = .polling → x.phase ≠ .sending →
        (x.assembling = false → exec (.replyStart l) s = .next { s with lines := s.lines.set l { x with
          assembling := true, phase := if x.phase = .awaiting then .receiving else x.phase } }) ∧
        (x.assembling = true → exec (.replyStart l) s = .next s) ∧
        (completeFrame bytes = true → crcGood bytes = true → (x.phase = .awaiting ∨ x.phase = .receiving) →
          0 < x.respLeft → (arg bytes 1 ≠ 13 ∨ arg bytes 2 ≠ 0x32 ∨ arg bytes 3 ≠ l.val ∨ arg bytes 4 ≠ x.polled) →
          exec (.frameReceived l bytes) s = .next { s with lines := s.lines.set l { x with
            assembling := false, phase := .awaiting, strayCount := min 65535 (x.strayCount + 1) } }) ∧
        ((x.phase = .none ∨ x.phase = .spacing) → x.due = false →
          (completeFrame bytes = true → crcGood bytes = true → arg bytes 2 = 0x32 → arg bytes 3 = l.val →
            exec (.frameReceived l bytes) s = .next { s with lines := s.lines.set l { x with
              assembling := false, lateCount := min 65535 (x.lateCount + 1) } }) ∧
          (completeFrame bytes = true → crcGood bytes = true → (arg bytes 2 ≠ 0x32 ∨ arg bytes 3 ≠ l.val) →
            exec (.frameReceived l bytes) s = .next { s with lines := s.lines.set l { x with
              assembling := false, strayCount := min 65535 (x.strayCount + 1) } }) ∧
          (completeFrame bytes = true → crcGood bytes = false → exec (.frameReceived l bytes) s = .next ({ s with
            lines := s.lines.set l { x with assembling := false, crcCount := min 65535 (x.crcCount + 1), latch := true }
            att := if x.latch then s.att else s.att.raiseUnit .crcLatched l } : State).attend) ∧
          exec (.brokenFrame l) s = .next { s with lines := s.lines.set l { x with
            assembling := false, brokenCount := min 65535 (x.brokenCount + 1) } } ∧
          exec (.gapLimitExpiry l) s = .next { s with lines := s.lines.set l (if x.assembling then { x with
            assembling := false, brokenCount := min 65535 (x.brokenCount + 1) } else x) }))) ∧
  (∀ (s : State) (i : Instr) (l : Fin 8) (x y : Line) (bytes : List Byte) (att : Attention), s.Settled →
      x = s.lines[l] → x.state = .polling → (x.phase = .none ∨ x.phase = .spacing) → x.due = true → x.assembling = true →
      (i = .frameReceived l bytes ∧ completeFrame bytes = true ∧
          (crcGood bytes = true ∧ att = s.att ∧
              y = (if arg bytes 2 = 0x32 ∧ arg bytes 3 = l.val
                then { x with lateCount := min 65535 (x.lateCount + 1) }
                else { x with strayCount := min 65535 (x.strayCount + 1) }) ∨
            crcGood bytes = false ∧ att = (if x.latch then s.att else s.att.raiseUnit .crcLatched l) ∧
              y = { x with crcCount := min 65535 (x.crcCount + 1), latch := true }) ∨
        (i = .brokenFrame l ∨ i = .gapLimitExpiry l) ∧ att = s.att ∧
          y = { x with brokenCount := min 65535 (x.brokenCount + 1) }) →
      exec i s = exec (.pollSpacingExpiry l) { s with
        att := att, lines := s.lines.set l { y with phase := .spacing, assembling := false, due := false } })

/-! ## What every step keeps -/

/-- ATN stands at its condition after every event: it is asserted exactly when some pending cause belongs to a group
whose level exceeds the threshold (R195, R196). That no urgent trigger is left over speaks of a field of the model's
own, by which it delivers triggers at an event's end (assumption log 10). -/
def Obligations.EveryStepSettlesAtn : Prop :=
  ∀ s t : State, s.Settled → step s = .next t → t.Settled ∧
    (t.att.atn = true ↔ ∃ c : Cause, t.att.isPending c = true ∧ t.att.threshold < t.att.levels[c.group])

/-- A unit set is not empty exactly while its cause of G3, G4 or G5 is pending (R194). -/
def Obligations.EveryStepKeepsUnitSets : Prop :=
  ∀ s t : State, s.att.UnitsRight → step s = .next t → t.att.UnitsRight

/-- Only a SUSPENDED record holds a suspend cause, and it holds one; hold expired is clear and the remaining 0 in every
other state (R6). The score stays within 0-255 and is above 0 while LOW_DT is set (R64). -/
def Obligations.EveryStepKeepsSuspension : Prop :=
  ∀ s t : State, (∀ id : Fin 96, s.conns[id].SuspensionRight ∧ s.conns[id].StandingRight) →
    step s = .next t → ∀ id : Fin 96, t.conns[id].SuspensionRight ∧ t.conns[id].StandingRight

/-- Granted power stays within S, the flow ceiling and the fallback flow within M (R2, R4, R23, R24). -/
def Obligations.EveryStepKeepsGrants : Prop :=
  ∀ s t : State, s.GrantsRight → step s = .next t → t.GrantsRight

/-- The curtailment list names each connection once, and only ACTIVE connections with no hold value (R58), given that
the records' grants and those of the snapshot are within their contracts, as `EveryStepKeepsGrants` keeps them. -/
def Obligations.EveryStepKeepsCurtailmentList : Prop :=
  ∀ s t : State, s.GrantsRight → s.ListRight → step s = .next t → t.ListRight

/-- The drop pool: at most 160 slots in use, in rising line and address, every one on the line of a connection that is
not VACANT and has one to three; and the demand of each record is the saturated sum of its LIVE drops' demands (R3, R7,
R8). -/
def Obligations.EveryStepKeepsPoolAndDemand : Prop :=
  ∀ s t : State, s.PoolRight → s.DemandRight → step s = .next t → t.PoolRight ∧ t.DemandRight

/-- The drives: the position is known exactly in IDLE and MOVING, the coils are energized exactly in HOMING, IDLE and
MOVING, position and target lie in the travel on positions of the excitation, the phase index follows the position, and
an IDLE drive stands at its target (R135, R155, R156, R159, R160, R161). -/
def Obligations.EveryStepKeepsDrives : Prop :=
  ∀ s t : State, s.DrivesRight → step s = .next t → t.DrivesRight

/-- The meters: the gate state is one its mode allows, counts and flow stay within 16 bits, and both halves of a
cascade agree (R135, R139, R143, R144). -/
def Obligations.EveryStepKeepsMeters : Prop :=
  ∀ s t : State, s.MetersRight → step s = .next t → t.MetersRight

/-- The lines: no exchange phase outside POLLING and LOOPBACK, LnTE exactly while a POLLING line sends, stop pending
only with an exchange under way (R88, R91). -/
def Obligations.EveryStepKeepsLines : Prop :=
  ∀ s t : State, (∀ l : Fin 8, s.lines[l].Right) → step s = .next t → ∀ l : Fin 8, t.lines[l].Right

/-- The machine after reset, and after part reset from every state, meets every invariant above. -/
def Obligations.ResetMeetsInvariants : Prop :=
  ∀ (s t : State) (trip : Bool), (t = State.reset ∨ exec (.partReset trip) s = .next t) →
    t.Settled ∧ t.att.UnitsRight ∧
    (∀ id : Fin 96, t.conns[id].SuspensionRight ∧ t.conns[id].StandingRight) ∧ t.GrantsRight ∧ t.ListRight ∧
    t.PoolRight ∧ t.DemandRight ∧ t.DrivesRight ∧ t.MetersRight ∧ ∀ l : Fin 8, t.lines[l].Right
end

