-- ==== Sys2Proof/Laws/State.lean ====
section
/-! SUPPORT. The fields of State under each named update, one lemma per field per update, all true by unfolding; and the
records read back after one of them was changed. -/

namespace Sys2Proof.Machine

/-! ### State.modConn -/

@[simp] theorem State.modConn_conns (s : State) (id : Fin 96) (f : Conn → Conn) : (s.modConn id f).conns = s.conns.set id (f s.conns[id]) := rfl
@[simp] theorem State.modConn_drops (s : State) (id : Fin 96) (f : Conn → Conn) : (s.modConn id f).drops = s.drops := rfl
@[simp] theorem State.modConn_engine (s : State) (id : Fin 96) (f : Conn → Conn) : (s.modConn id f).engine = s.engine := rfl
@[simp] theorem State.modConn_demote (s : State) (id : Fin 96) (f : Conn → Conn) : (s.modConn id f).demote = s.demote := rfl
@[simp] theorem State.modConn_holdSetting (s : State) (id : Fin 96) (f : Conn → Conn) : (s.modConn id f).holdSetting = s.holdSetting := rfl
@[simp] theorem State.modConn_plant (s : State) (id : Fin 96) (f : Conn → Conn) : (s.modConn id f).plant = s.plant := rfl
@[simp] theorem State.modConn_lines (s : State) (id : Fin 96) (f : Conn → Conn) : (s.modConn id f).lines = s.lines := rfl
@[simp] theorem State.modConn_branches (s : State) (id : Fin 96) (f : Conn → Conn) : (s.modConn id f).branches = s.branches := rfl
@[simp] theorem State.modConn_drives (s : State) (id : Fin 96) (f : Conn → Conn) : (s.modConn id f).drives = s.drives := rfl
@[simp] theorem State.modConn_port (s : State) (id : Fin 96) (f : Conn → Conn) : (s.modConn id f).port = s.port := rfl
@[simp] theorem State.modConn_att (s : State) (id : Fin 96) (f : Conn → Conn) : (s.modConn id f).att = s.att := rfl
@[simp] theorem State.modConn_ms (s : State) (id : Fin 96) (f : Conn → Conn) : (s.modConn id f).ms = s.ms := rfl
@[simp] theorem State.modConn_urgent (s : State) (id : Fin 96) (f : Conn → Conn) : (s.modConn id f).urgent = s.urgent := rfl
@[simp] theorem State.modConn_free (s : State) (id : Fin 96) (f : Conn → Conn) : (s.modConn id f).free = s.free := rfl
@[simp] theorem State.modConn_now (s : State) (id : Fin 96) (f : Conn → Conn) : (s.modConn id f).now = s.now := rfl
@[simp] theorem State.modConn_pending (s : State) (id : Fin 96) (f : Conn → Conn) : (s.modConn id f).pending = s.pending := rfl

/-! ### State.modLine -/

@[simp] theorem State.modLine_conns (s : State) (l : Fin 8) (f : Line → Line) : (s.modLine l f).conns = s.conns := rfl
@[simp] theorem State.modLine_drops (s : State) (l : Fin 8) (f : Line → Line) : (s.modLine l f).drops = s.drops := rfl
@[simp] theorem State.modLine_engine (s : State) (l : Fin 8) (f : Line → Line) : (s.modLine l f).engine = s.engine := rfl
@[simp] theorem State.modLine_demote (s : State) (l : Fin 8) (f : Line → Line) : (s.modLine l f).demote = s.demote := rfl
@[simp] theorem State.modLine_holdSetting (s : State) (l : Fin 8) (f : Line → Line) : (s.modLine l f).holdSetting = s.holdSetting := rfl
@[simp] theorem State.modLine_plant (s : State) (l : Fin 8) (f : Line → Line) : (s.modLine l f).plant = s.plant := rfl
@[simp] theorem State.modLine_lines (s : State) (l : Fin 8) (f : Line → Line) : (s.modLine l f).lines = s.lines.set l (f s.lines[l]) := rfl
@[simp] theorem State.modLine_branches (s : State) (l : Fin 8) (f : Line → Line) : (s.modLine l f).branches = s.branches := rfl
@[simp] theorem State.modLine_drives (s : State) (l : Fin 8) (f : Line → Line) : (s.modLine l f).drives = s.drives := rfl
@[simp] theorem State.modLine_port (s : State) (l : Fin 8) (f : Line → Line) : (s.modLine l f).port = s.port := rfl
@[simp] theorem State.modLine_att (s : State) (l : Fin 8) (f : Line → Line) : (s.modLine l f).att = s.att := rfl
@[simp] theorem State.modLine_ms (s : State) (l : Fin 8) (f : Line → Line) : (s.modLine l f).ms = s.ms := rfl
@[simp] theorem State.modLine_urgent (s : State) (l : Fin 8) (f : Line → Line) : (s.modLine l f).urgent = s.urgent := rfl
@[simp] theorem State.modLine_free (s : State) (l : Fin 8) (f : Line → Line) : (s.modLine l f).free = s.free := rfl
@[simp] theorem State.modLine_now (s : State) (l : Fin 8) (f : Line → Line) : (s.modLine l f).now = s.now := rfl
@[simp] theorem State.modLine_pending (s : State) (l : Fin 8) (f : Line → Line) : (s.modLine l f).pending = s.pending := rfl

/-! ### State.modBranch -/

@[simp] theorem State.modBranch_conns (s : State) (n : Fin 8) (f : Branch → Branch) : (s.modBranch n f).conns = s.conns := rfl
@[simp] theorem State.modBranch_drops (s : State) (n : Fin 8) (f : Branch → Branch) : (s.modBranch n f).drops = s.drops := rfl
@[simp] theorem State.modBranch_engine (s : State) (n : Fin 8) (f : Branch → Branch) : (s.modBranch n f).engine = s.engine := rfl
@[simp] theorem State.modBranch_demote (s : State) (n : Fin 8) (f : Branch → Branch) : (s.modBranch n f).demote = s.demote := rfl
@[simp] theorem State.modBranch_holdSetting (s : State) (n : Fin 8) (f : Branch → Branch) : (s.modBranch n f).holdSetting = s.holdSetting := rfl
@[simp] theorem State.modBranch_plant (s : State) (n : Fin 8) (f : Branch → Branch) : (s.modBranch n f).plant = s.plant := rfl
@[simp] theorem State.modBranch_lines (s : State) (n : Fin 8) (f : Branch → Branch) : (s.modBranch n f).lines = s.lines := rfl
@[simp] theorem State.modBranch_branches (s : State) (n : Fin 8) (f : Branch → Branch) : (s.modBranch n f).branches = s.branches.set n (f s.branches[n]) := rfl
@[simp] theorem State.modBranch_drives (s : State) (n : Fin 8) (f : Branch → Branch) : (s.modBranch n f).drives = s.drives := rfl
@[simp] theorem State.modBranch_port (s : State) (n : Fin 8) (f : Branch → Branch) : (s.modBranch n f).port = s.port := rfl
@[simp] theorem State.modBranch_att (s : State) (n : Fin 8) (f : Branch → Branch) : (s.modBranch n f).att = s.att := rfl
@[simp] theorem State.modBranch_ms (s : State) (n : Fin 8) (f : Branch → Branch) : (s.modBranch n f).ms = s.ms := rfl
@[simp] theorem State.modBranch_urgent (s : State) (n : Fin 8) (f : Branch → Branch) : (s.modBranch n f).urgent = s.urgent := rfl
@[simp] theorem State.modBranch_free (s : State) (n : Fin 8) (f : Branch → Branch) : (s.modBranch n f).free = s.free := rfl
@[simp] theorem State.modBranch_now (s : State) (n : Fin 8) (f : Branch → Branch) : (s.modBranch n f).now = s.now := rfl
@[simp] theorem State.modBranch_pending (s : State) (n : Fin 8) (f : Branch → Branch) : (s.modBranch n f).pending = s.pending := rfl

/-! ### State.modDrive -/

@[simp] theorem State.modDrive_conns (s : State) (n : Fin 8) (f : Drive → Drive) : (s.modDrive n f).conns = s.conns := rfl
@[simp] theorem State.modDrive_drops (s : State) (n : Fin 8) (f : Drive → Drive) : (s.modDrive n f).drops = s.drops := rfl
@[simp] theorem State.modDrive_engine (s : State) (n : Fin 8) (f : Drive → Drive) : (s.modDrive n f).engine = s.engine := rfl
@[simp] theorem State.modDrive_demote (s : State) (n : Fin 8) (f : Drive → Drive) : (s.modDrive n f).demote = s.demote := rfl
@[simp] theorem State.modDrive_holdSetting (s : State) (n : Fin 8) (f : Drive → Drive) : (s.modDrive n f).holdSetting = s.holdSetting := rfl
@[simp] theorem State.modDrive_plant (s : State) (n : Fin 8) (f : Drive → Drive) : (s.modDrive n f).plant = s.plant := rfl
@[simp] theorem State.modDrive_lines (s : State) (n : Fin 8) (f : Drive → Drive) : (s.modDrive n f).lines = s.lines := rfl
@[simp] theorem State.modDrive_branches (s : State) (n : Fin 8) (f : Drive → Drive) : (s.modDrive n f).branches = s.branches := rfl
@[simp] theorem State.modDrive_drives (s : State) (n : Fin 8) (f : Drive → Drive) : (s.modDrive n f).drives = s.drives.set n (f s.drives[n]) := rfl
@[simp] theorem State.modDrive_port (s : State) (n : Fin 8) (f : Drive → Drive) : (s.modDrive n f).port = s.port := rfl
@[simp] theorem State.modDrive_att (s : State) (n : Fin 8) (f : Drive → Drive) : (s.modDrive n f).att = s.att := rfl
@[simp] theorem State.modDrive_ms (s : State) (n : Fin 8) (f : Drive → Drive) : (s.modDrive n f).ms = s.ms := rfl
@[simp] theorem State.modDrive_urgent (s : State) (n : Fin 8) (f : Drive → Drive) : (s.modDrive n f).urgent = s.urgent := rfl
@[simp] theorem State.modDrive_free (s : State) (n : Fin 8) (f : Drive → Drive) : (s.modDrive n f).free = s.free := rfl
@[simp] theorem State.modDrive_now (s : State) (n : Fin 8) (f : Drive → Drive) : (s.modDrive n f).now = s.now := rfl
@[simp] theorem State.modDrive_pending (s : State) (n : Fin 8) (f : Drive → Drive) : (s.modDrive n f).pending = s.pending := rfl

/-! ### State.modDrops -/

@[simp] theorem State.modDrops_conns (s : State) (p : Drop → Bool) (f : Drop → Drop) : (s.modDrops p f).conns = s.conns := rfl
@[simp] theorem State.modDrops_drops (s : State) (p : Drop → Bool) (f : Drop → Drop) : (s.modDrops p f).drops = s.drops.map (fun d => if p d then f d else d) := rfl
@[simp] theorem State.modDrops_engine (s : State) (p : Drop → Bool) (f : Drop → Drop) : (s.modDrops p f).engine = s.engine := rfl
@[simp] theorem State.modDrops_demote (s : State) (p : Drop → Bool) (f : Drop → Drop) : (s.modDrops p f).demote = s.demote := rfl
@[simp] theorem State.modDrops_holdSetting (s : State) (p : Drop → Bool) (f : Drop → Drop) : (s.modDrops p f).holdSetting = s.holdSetting := rfl
@[simp] theorem State.modDrops_plant (s : State) (p : Drop → Bool) (f : Drop → Drop) : (s.modDrops p f).plant = s.plant := rfl
@[simp] theorem State.modDrops_lines (s : State) (p : Drop → Bool) (f : Drop → Drop) : (s.modDrops p f).lines = s.lines := rfl
@[simp] theorem State.modDrops_branches (s : State) (p : Drop → Bool) (f : Drop → Drop) : (s.modDrops p f).branches = s.branches := rfl
@[simp] theorem State.modDrops_drives (s : State) (p : Drop → Bool) (f : Drop → Drop) : (s.modDrops p f).drives = s.drives := rfl
@[simp] theorem State.modDrops_port (s : State) (p : Drop → Bool) (f : Drop → Drop) : (s.modDrops p f).port = s.port := rfl
@[simp] theorem State.modDrops_att (s : State) (p : Drop → Bool) (f : Drop → Drop) : (s.modDrops p f).att = s.att := rfl
@[simp] theorem State.modDrops_ms (s : State) (p : Drop → Bool) (f : Drop → Drop) : (s.modDrops p f).ms = s.ms := rfl
@[simp] theorem State.modDrops_urgent (s : State) (p : Drop → Bool) (f : Drop → Drop) : (s.modDrops p f).urgent = s.urgent := rfl
@[simp] theorem State.modDrops_free (s : State) (p : Drop → Bool) (f : Drop → Drop) : (s.modDrops p f).free = s.free := rfl
@[simp] theorem State.modDrops_now (s : State) (p : Drop → Bool) (f : Drop → Drop) : (s.modDrops p f).now = s.now := rfl
@[simp] theorem State.modDrops_pending (s : State) (p : Drop → Bool) (f : Drop → Drop) : (s.modDrops p f).pending = s.pending := rfl

/-! ### State.takeSlot -/

@[simp] theorem State.takeSlot_conns (s : State) (d : Drop) : (s.takeSlot d).conns = s.conns := rfl
@[simp] theorem State.takeSlot_drops (s : State) (d : Drop) : (s.takeSlot d).drops = insertDrop d s.drops := rfl
@[simp] theorem State.takeSlot_engine (s : State) (d : Drop) : (s.takeSlot d).engine = s.engine := rfl
@[simp] theorem State.takeSlot_demote (s : State) (d : Drop) : (s.takeSlot d).demote = s.demote := rfl
@[simp] theorem State.takeSlot_holdSetting (s : State) (d : Drop) : (s.takeSlot d).holdSetting = s.holdSetting := rfl
@[simp] theorem State.takeSlot_plant (s : State) (d : Drop) : (s.takeSlot d).plant = s.plant := rfl
@[simp] theorem State.takeSlot_lines (s : State) (d : Drop) : (s.takeSlot d).lines = s.lines := rfl
@[simp] theorem State.takeSlot_branches (s : State) (d : Drop) : (s.takeSlot d).branches = s.branches := rfl
@[simp] theorem State.takeSlot_drives (s : State) (d : Drop) : (s.takeSlot d).drives = s.drives := rfl
@[simp] theorem State.takeSlot_port (s : State) (d : Drop) : (s.takeSlot d).port = s.port := rfl
@[simp] theorem State.takeSlot_att (s : State) (d : Drop) : (s.takeSlot d).att = s.att := rfl
@[simp] theorem State.takeSlot_ms (s : State) (d : Drop) : (s.takeSlot d).ms = s.ms := rfl
@[simp] theorem State.takeSlot_urgent (s : State) (d : Drop) : (s.takeSlot d).urgent = s.urgent := rfl
@[simp] theorem State.takeSlot_free (s : State) (d : Drop) : (s.takeSlot d).free = s.free := rfl
@[simp] theorem State.takeSlot_now (s : State) (d : Drop) : (s.takeSlot d).now = s.now := rfl
@[simp] theorem State.takeSlot_pending (s : State) (d : Drop) : (s.takeSlot d).pending = s.pending := rfl

/-! ### State.freeSlotsOf -/

@[simp] theorem State.freeSlotsOf_conns (s : State) (id : Fin 96) : (s.freeSlotsOf id).conns = s.conns := rfl
@[simp] theorem State.freeSlotsOf_drops (s : State) (id : Fin 96) : (s.freeSlotsOf id).drops = s.drops.filter (fun d => !(d.conn == id)) := rfl
@[simp] theorem State.freeSlotsOf_engine (s : State) (id : Fin 96) : (s.freeSlotsOf id).engine = s.engine := rfl
@[simp] theorem State.freeSlotsOf_demote (s : State) (id : Fin 96) : (s.freeSlotsOf id).demote = s.demote := rfl
@[simp] theorem State.freeSlotsOf_holdSetting (s : State) (id : Fin 96) : (s.freeSlotsOf id).holdSetting = s.holdSetting := rfl
@[simp] theorem State.freeSlotsOf_plant (s : State) (id : Fin 96) : (s.freeSlotsOf id).plant = s.plant := rfl
@[simp] theorem State.freeSlotsOf_lines (s : State) (id : Fin 96) : (s.freeSlotsOf id).lines = s.lines := rfl
@[simp] theorem State.freeSlotsOf_branches (s : State) (id : Fin 96) : (s.freeSlotsOf id).branches = s.branches := rfl
@[simp] theorem State.freeSlotsOf_drives (s : State) (id : Fin 96) : (s.freeSlotsOf id).drives = s.drives := rfl
@[simp] theorem State.freeSlotsOf_port (s : State) (id : Fin 96) : (s.freeSlotsOf id).port = s.port := rfl
@[simp] theorem State.freeSlotsOf_att (s : State) (id : Fin 96) : (s.freeSlotsOf id).att = s.att := rfl
@[simp] theorem State.freeSlotsOf_ms (s : State) (id : Fin 96) : (s.freeSlotsOf id).ms = s.ms := rfl
@[simp] theorem State.freeSlotsOf_urgent (s : State) (id : Fin 96) : (s.freeSlotsOf id).urgent = s.urgent := rfl
@[simp] theorem State.freeSlotsOf_free (s : State) (id : Fin 96) : (s.freeSlotsOf id).free = s.free := rfl
@[simp] theorem State.freeSlotsOf_now (s : State) (id : Fin 96) : (s.freeSlotsOf id).now = s.now := rfl
@[simp] theorem State.freeSlotsOf_pending (s : State) (id : Fin 96) : (s.freeSlotsOf id).pending = s.pending := rfl

/-! ### State.freeSlot -/

@[simp] theorem State.freeSlot_conns (s : State) (l : Fin 8) (a : Nat) : (s.freeSlot l a).conns = s.conns := rfl
@[simp] theorem State.freeSlot_drops (s : State) (l : Fin 8) (a : Nat) : (s.freeSlot l a).drops = s.drops.filter (fun d => !(d.line == l && d.addr == a)) := rfl
@[simp] theorem State.freeSlot_engine (s : State) (l : Fin 8) (a : Nat) : (s.freeSlot l a).engine = s.engine := rfl
@[simp] theorem State.freeSlot_demote (s : State) (l : Fin 8) (a : Nat) : (s.freeSlot l a).demote = s.demote := rfl
@[simp] theorem State.freeSlot_holdSetting (s : State) (l : Fin 8) (a : Nat) : (s.freeSlot l a).holdSetting = s.holdSetting := rfl
@[simp] theorem State.freeSlot_plant (s : State) (l : Fin 8) (a : Nat) : (s.freeSlot l a).plant = s.plant := rfl
@[simp] theorem State.freeSlot_lines (s : State) (l : Fin 8) (a : Nat) : (s.freeSlot l a).lines = s.lines := rfl
@[simp] theorem State.freeSlot_branches (s : State) (l : Fin 8) (a : Nat) : (s.freeSlot l a).branches = s.branches := rfl
@[simp] theorem State.freeSlot_drives (s : State) (l : Fin 8) (a : Nat) : (s.freeSlot l a).drives = s.drives := rfl
@[simp] theorem State.freeSlot_port (s : State) (l : Fin 8) (a : Nat) : (s.freeSlot l a).port = s.port := rfl
@[simp] theorem State.freeSlot_att (s : State) (l : Fin 8) (a : Nat) : (s.freeSlot l a).att = s.att := rfl
@[simp] theorem State.freeSlot_ms (s : State) (l : Fin 8) (a : Nat) : (s.freeSlot l a).ms = s.ms := rfl
@[simp] theorem State.freeSlot_urgent (s : State) (l : Fin 8) (a : Nat) : (s.freeSlot l a).urgent = s.urgent := rfl
@[simp] theorem State.freeSlot_free (s : State) (l : Fin 8) (a : Nat) : (s.freeSlot l a).free = s.free := rfl
@[simp] theorem State.freeSlot_now (s : State) (l : Fin 8) (a : Nat) : (s.freeSlot l a).now = s.now := rfl
@[simp] theorem State.freeSlot_pending (s : State) (l : Fin 8) (a : Nat) : (s.freeSlot l a).pending = s.pending := rfl

/-! ### State.raise -/

@[simp] theorem State.raise_conns (s : State) (c : Cause) : (s.raise c).conns = s.conns := rfl
@[simp] theorem State.raise_drops (s : State) (c : Cause) : (s.raise c).drops = s.drops := rfl
@[simp] theorem State.raise_engine (s : State) (c : Cause) : (s.raise c).engine = s.engine := rfl
@[simp] theorem State.raise_demote (s : State) (c : Cause) : (s.raise c).demote = s.demote := rfl
@[simp] theorem State.raise_holdSetting (s : State) (c : Cause) : (s.raise c).holdSetting = s.holdSetting := rfl
@[simp] theorem State.raise_plant (s : State) (c : Cause) : (s.raise c).plant = s.plant := rfl
@[simp] theorem State.raise_lines (s : State) (c : Cause) : (s.raise c).lines = s.lines := rfl
@[simp] theorem State.raise_branches (s : State) (c : Cause) : (s.raise c).branches = s.branches := rfl
@[simp] theorem State.raise_drives (s : State) (c : Cause) : (s.raise c).drives = s.drives := rfl
@[simp] theorem State.raise_port (s : State) (c : Cause) : (s.raise c).port = s.port := rfl
@[simp] theorem State.raise_att (s : State) (c : Cause) : (s.raise c).att = s.att.raise c := rfl
@[simp] theorem State.raise_ms (s : State) (c : Cause) : (s.raise c).ms = s.ms := rfl
@[simp] theorem State.raise_urgent (s : State) (c : Cause) : (s.raise c).urgent = s.urgent := rfl
@[simp] theorem State.raise_free (s : State) (c : Cause) : (s.raise c).free = s.free := rfl
@[simp] theorem State.raise_now (s : State) (c : Cause) : (s.raise c).now = s.now := rfl
@[simp] theorem State.raise_pending (s : State) (c : Cause) : (s.raise c).pending = s.pending := rfl

/-! ### State.raiseUnit -/

@[simp] theorem State.raiseUnit_conns (s : State) (c : Cause) (u : Fin 8) : (s.raiseUnit c u).conns = s.conns := rfl
@[simp] theorem State.raiseUnit_drops (s : State) (c : Cause) (u : Fin 8) : (s.raiseUnit c u).drops = s.drops := rfl
@[simp] theorem State.raiseUnit_engine (s : State) (c : Cause) (u : Fin 8) : (s.raiseUnit c u).engine = s.engine := rfl
@[simp] theorem State.raiseUnit_demote (s : State) (c : Cause) (u : Fin 8) : (s.raiseUnit c u).demote = s.demote := rfl
@[simp] theorem State.raiseUnit_holdSetting (s : State) (c : Cause) (u : Fin 8) : (s.raiseUnit c u).holdSetting = s.holdSetting := rfl
@[simp] theorem State.raiseUnit_plant (s : State) (c : Cause) (u : Fin 8) : (s.raiseUnit c u).plant = s.plant := rfl
@[simp] theorem State.raiseUnit_lines (s : State) (c : Cause) (u : Fin 8) : (s.raiseUnit c u).lines = s.lines := rfl
@[simp] theorem State.raiseUnit_branches (s : State) (c : Cause) (u : Fin 8) : (s.raiseUnit c u).branches = s.branches := rfl
@[simp] theorem State.raiseUnit_drives (s : State) (c : Cause) (u : Fin 8) : (s.raiseUnit c u).drives = s.drives := rfl
@[simp] theorem State.raiseUnit_port (s : State) (c : Cause) (u : Fin 8) : (s.raiseUnit c u).port = s.port := rfl
@[simp] theorem State.raiseUnit_att (s : State) (c : Cause) (u : Fin 8) : (s.raiseUnit c u).att = s.att.raiseUnit c u := rfl
@[simp] theorem State.raiseUnit_ms (s : State) (c : Cause) (u : Fin 8) : (s.raiseUnit c u).ms = s.ms := rfl
@[simp] theorem State.raiseUnit_urgent (s : State) (c : Cause) (u : Fin 8) : (s.raiseUnit c u).urgent = s.urgent := rfl
@[simp] theorem State.raiseUnit_free (s : State) (c : Cause) (u : Fin 8) : (s.raiseUnit c u).free = s.free := rfl
@[simp] theorem State.raiseUnit_now (s : State) (c : Cause) (u : Fin 8) : (s.raiseUnit c u).now = s.now := rfl
@[simp] theorem State.raiseUnit_pending (s : State) (c : Cause) (u : Fin 8) : (s.raiseUnit c u).pending = s.pending := rfl

/-! ### State.enterChanged -/

@[simp] theorem State.enterChanged_conns (s : State) (id : Fin 96) : (s.enterChanged id).conns = s.conns := rfl
@[simp] theorem State.enterChanged_drops (s : State) (id : Fin 96) : (s.enterChanged id).drops = s.drops := rfl
@[simp] theorem State.enterChanged_engine (s : State) (id : Fin 96) : (s.enterChanged id).engine = s.engine := rfl
@[simp] theorem State.enterChanged_demote (s : State) (id : Fin 96) : (s.enterChanged id).demote = s.demote := rfl
@[simp] theorem State.enterChanged_holdSetting (s : State) (id : Fin 96) : (s.enterChanged id).holdSetting = s.holdSetting := rfl
@[simp] theorem State.enterChanged_plant (s : State) (id : Fin 96) : (s.enterChanged id).plant = s.plant := rfl
@[simp] theorem State.enterChanged_lines (s : State) (id : Fin 96) : (s.enterChanged id).lines = s.lines := rfl
@[simp] theorem State.enterChanged_branches (s : State) (id : Fin 96) : (s.enterChanged id).branches = s.branches := rfl
@[simp] theorem State.enterChanged_drives (s : State) (id : Fin 96) : (s.enterChanged id).drives = s.drives := rfl
@[simp] theorem State.enterChanged_port (s : State) (id : Fin 96) : (s.enterChanged id).port = s.port := rfl
@[simp] theorem State.enterChanged_att (s : State) (id : Fin 96) : (s.enterChanged id).att = s.att.enter id := rfl
@[simp] theorem State.enterChanged_ms (s : State) (id : Fin 96) : (s.enterChanged id).ms = s.ms := rfl
@[simp] theorem State.enterChanged_urgent (s : State) (id : Fin 96) : (s.enterChanged id).urgent = s.urgent := rfl
@[simp] theorem State.enterChanged_free (s : State) (id : Fin 96) : (s.enterChanged id).free = s.free := rfl
@[simp] theorem State.enterChanged_now (s : State) (id : Fin 96) : (s.enterChanged id).now = s.now := rfl
@[simp] theorem State.enterChanged_pending (s : State) (id : Fin 96) : (s.enterChanged id).pending = s.pending := rfl

/-! ### State.ordinary -/

@[simp] theorem State.ordinary_conns (s : State) : (s.ordinary).conns = s.conns := rfl
@[simp] theorem State.ordinary_drops (s : State) : (s.ordinary).drops = s.drops := rfl
@[simp] theorem State.ordinary_engine (s : State) : (s.ordinary).engine = { s.engine with pend := true } := rfl
@[simp] theorem State.ordinary_demote (s : State) : (s.ordinary).demote = s.demote := rfl
@[simp] theorem State.ordinary_holdSetting (s : State) : (s.ordinary).holdSetting = s.holdSetting := rfl
@[simp] theorem State.ordinary_plant (s : State) : (s.ordinary).plant = s.plant := rfl
@[simp] theorem State.ordinary_lines (s : State) : (s.ordinary).lines = s.lines := rfl
@[simp] theorem State.ordinary_branches (s : State) : (s.ordinary).branches = s.branches := rfl
@[simp] theorem State.ordinary_drives (s : State) : (s.ordinary).drives = s.drives := rfl
@[simp] theorem State.ordinary_port (s : State) : (s.ordinary).port = s.port := rfl
@[simp] theorem State.ordinary_att (s : State) : (s.ordinary).att = s.att := rfl
@[simp] theorem State.ordinary_ms (s : State) : (s.ordinary).ms = s.ms := rfl
@[simp] theorem State.ordinary_urgent (s : State) : (s.ordinary).urgent = s.urgent := rfl
@[simp] theorem State.ordinary_free (s : State) : (s.ordinary).free = s.free := rfl
@[simp] theorem State.ordinary_now (s : State) : (s.ordinary).now = s.now := rfl
@[simp] theorem State.ordinary_pending (s : State) : (s.ordinary).pending = s.pending := rfl

/-! ### State.wantPass -/

@[simp] theorem State.wantPass_conns (s : State) : (s.wantPass).conns = s.conns := rfl
@[simp] theorem State.wantPass_drops (s : State) : (s.wantPass).drops = s.drops := rfl
@[simp] theorem State.wantPass_engine (s : State) : (s.wantPass).engine = s.engine := rfl
@[simp] theorem State.wantPass_demote (s : State) : (s.wantPass).demote = s.demote := rfl
@[simp] theorem State.wantPass_holdSetting (s : State) : (s.wantPass).holdSetting = s.holdSetting := rfl
@[simp] theorem State.wantPass_plant (s : State) : (s.wantPass).plant = s.plant := rfl
@[simp] theorem State.wantPass_lines (s : State) : (s.wantPass).lines = s.lines := rfl
@[simp] theorem State.wantPass_branches (s : State) : (s.wantPass).branches = s.branches := rfl
@[simp] theorem State.wantPass_drives (s : State) : (s.wantPass).drives = s.drives := rfl
@[simp] theorem State.wantPass_port (s : State) : (s.wantPass).port = s.port := rfl
@[simp] theorem State.wantPass_att (s : State) : (s.wantPass).att = s.att := rfl
@[simp] theorem State.wantPass_ms (s : State) : (s.wantPass).ms = s.ms := rfl
@[simp] theorem State.wantPass_urgent (s : State) : (s.wantPass).urgent = true := rfl
@[simp] theorem State.wantPass_free (s : State) : (s.wantPass).free = s.free := rfl
@[simp] theorem State.wantPass_now (s : State) : (s.wantPass).now = s.now := rfl
@[simp] theorem State.wantPass_pending (s : State) : (s.wantPass).pending = s.pending := rfl

/-! ### State.leaveList -/

@[simp] theorem State.leaveList_conns (s : State) (id : Fin 96) : (s.leaveList id).conns = s.conns := rfl
@[simp] theorem State.leaveList_drops (s : State) (id : Fin 96) : (s.leaveList id).drops = s.drops := rfl
@[simp] theorem State.leaveList_engine (s : State) (id : Fin 96) : (s.leaveList id).engine = { s.engine with curtail := s.engine.curtail.filter (fun e => !(e.id == id)) } := rfl
@[simp] theorem State.leaveList_demote (s : State) (id : Fin 96) : (s.leaveList id).demote = s.demote := rfl
@[simp] theorem State.leaveList_holdSetting (s : State) (id : Fin 96) : (s.leaveList id).holdSetting = s.holdSetting := rfl
@[simp] theorem State.leaveList_plant (s : State) (id : Fin 96) : (s.leaveList id).plant = s.plant := rfl
@[simp] theorem State.leaveList_lines (s : State) (id : Fin 96) : (s.leaveList id).lines = s.lines := rfl
@[simp] theorem State.leaveList_branches (s : State) (id : Fin 96) : (s.leaveList id).branches = s.branches := rfl
@[simp] theorem State.leaveList_drives (s : State) (id : Fin 96) : (s.leaveList id).drives = s.drives := rfl
@[simp] theorem State.leaveList_port (s : State) (id : Fin 96) : (s.leaveList id).port = s.port := rfl
@[simp] theorem State.leaveList_att (s : State) (id : Fin 96) : (s.leaveList id).att = s.att := rfl
@[simp] theorem State.leaveList_ms (s : State) (id : Fin 96) : (s.leaveList id).ms = s.ms := rfl
@[simp] theorem State.leaveList_urgent (s : State) (id : Fin 96) : (s.leaveList id).urgent = s.urgent := rfl
@[simp] theorem State.leaveList_free (s : State) (id : Fin 96) : (s.leaveList id).free = s.free := rfl
@[simp] theorem State.leaveList_now (s : State) (id : Fin 96) : (s.leaveList id).now = s.now := rfl
@[simp] theorem State.leaveList_pending (s : State) (id : Fin 96) : (s.leaveList id).pending = s.pending := rfl

/-! ### State.notePendTaken -/

@[simp] theorem State.notePendTaken_conns (s : State) (b : Bool) : (s.notePendTaken b).conns = s.conns := rfl
@[simp] theorem State.notePendTaken_drops (s : State) (b : Bool) : (s.notePendTaken b).drops = s.drops := rfl
@[simp] theorem State.notePendTaken_engine (s : State) (b : Bool) : (s.notePendTaken b).engine = s.engine := rfl
@[simp] theorem State.notePendTaken_demote (s : State) (b : Bool) : (s.notePendTaken b).demote = s.demote := rfl
@[simp] theorem State.notePendTaken_holdSetting (s : State) (b : Bool) : (s.notePendTaken b).holdSetting = s.holdSetting := rfl
@[simp] theorem State.notePendTaken_plant (s : State) (b : Bool) : (s.notePendTaken b).plant = s.plant := rfl
@[simp] theorem State.notePendTaken_lines (s : State) (b : Bool) : (s.notePendTaken b).lines = s.lines := rfl
@[simp] theorem State.notePendTaken_branches (s : State) (b : Bool) : (s.notePendTaken b).branches = s.branches := rfl
@[simp] theorem State.notePendTaken_drives (s : State) (b : Bool) : (s.notePendTaken b).drives = s.drives := rfl
@[simp] theorem State.notePendTaken_port (s : State) (b : Bool) : (s.notePendTaken b).port = s.port := rfl
@[simp] theorem State.notePendTaken_att (s : State) (b : Bool) : (s.notePendTaken b).att = s.att := rfl
@[simp] theorem State.notePendTaken_ms (s : State) (b : Bool) : (s.notePendTaken b).ms = s.ms := rfl
@[simp] theorem State.notePendTaken_urgent (s : State) (b : Bool) : (s.notePendTaken b).urgent = s.urgent := rfl
@[simp] theorem State.notePendTaken_free (s : State) (b : Bool) : (s.notePendTaken b).free = s.free := rfl
@[simp] theorem State.notePendTaken_now (s : State) (b : Bool) : (s.notePendTaken b).now = { s.now with pendTaken := b } := rfl
@[simp] theorem State.notePendTaken_pending (s : State) (b : Bool) : (s.notePendTaken b).pending = s.pending := rfl

/-! ### State.noteRestart -/

@[simp] theorem State.noteRestart_conns (s : State) (n : Fin 8) (b : Bool) : (s.noteRestart n b).conns = s.conns := rfl
@[simp] theorem State.noteRestart_drops (s : State) (n : Fin 8) (b : Bool) : (s.noteRestart n b).drops = s.drops := rfl
@[simp] theorem State.noteRestart_engine (s : State) (n : Fin 8) (b : Bool) : (s.noteRestart n b).engine = s.engine := rfl
@[simp] theorem State.noteRestart_demote (s : State) (n : Fin 8) (b : Bool) : (s.noteRestart n b).demote = s.demote := rfl
@[simp] theorem State.noteRestart_holdSetting (s : State) (n : Fin 8) (b : Bool) : (s.noteRestart n b).holdSetting = s.holdSetting := rfl
@[simp] theorem State.noteRestart_plant (s : State) (n : Fin 8) (b : Bool) : (s.noteRestart n b).plant = s.plant := rfl
@[simp] theorem State.noteRestart_lines (s : State) (n : Fin 8) (b : Bool) : (s.noteRestart n b).lines = s.lines := rfl
@[simp] theorem State.noteRestart_branches (s : State) (n : Fin 8) (b : Bool) : (s.noteRestart n b).branches = s.branches := rfl
@[simp] theorem State.noteRestart_drives (s : State) (n : Fin 8) (b : Bool) : (s.noteRestart n b).drives = s.drives := rfl
@[simp] theorem State.noteRestart_port (s : State) (n : Fin 8) (b : Bool) : (s.noteRestart n b).port = s.port := rfl
@[simp] theorem State.noteRestart_att (s : State) (n : Fin 8) (b : Bool) : (s.noteRestart n b).att = s.att := rfl
@[simp] theorem State.noteRestart_ms (s : State) (n : Fin 8) (b : Bool) : (s.noteRestart n b).ms = s.ms := rfl
@[simp] theorem State.noteRestart_urgent (s : State) (n : Fin 8) (b : Bool) : (s.noteRestart n b).urgent = s.urgent := rfl
@[simp] theorem State.noteRestart_free (s : State) (n : Fin 8) (b : Bool) : (s.noteRestart n b).free = s.free := rfl
@[simp] theorem State.noteRestart_now (s : State) (n : Fin 8) (b : Bool) : (s.noteRestart n b).now = { s.now with restarted := s.now.restarted.set n b } := rfl
@[simp] theorem State.noteRestart_pending (s : State) (n : Fin 8) (b : Bool) : (s.noteRestart n b).pending = s.pending := rfl

/-! ### State.modPort -/

@[simp] theorem State.modPort_conns (s : State) (f : Port → Port) : (s.modPort f).conns = s.conns := rfl
@[simp] theorem State.modPort_drops (s : State) (f : Port → Port) : (s.modPort f).drops = s.drops := rfl
@[simp] theorem State.modPort_engine (s : State) (f : Port → Port) : (s.modPort f).engine = s.engine := rfl
@[simp] theorem State.modPort_demote (s : State) (f : Port → Port) : (s.modPort f).demote = s.demote := rfl
@[simp] theorem State.modPort_holdSetting (s : State) (f : Port → Port) : (s.modPort f).holdSetting = s.holdSetting := rfl
@[simp] theorem State.modPort_plant (s : State) (f : Port → Port) : (s.modPort f).plant = s.plant := rfl
@[simp] theorem State.modPort_lines (s : State) (f : Port → Port) : (s.modPort f).lines = s.lines := rfl
@[simp] theorem State.modPort_branches (s : State) (f : Port → Port) : (s.modPort f).branches = s.branches := rfl
@[simp] theorem State.modPort_drives (s : State) (f : Port → Port) : (s.modPort f).drives = s.drives := rfl
@[simp] theorem State.modPort_port (s : State) (f : Port → Port) : (s.modPort f).port = f s.port := rfl
@[simp] theorem State.modPort_att (s : State) (f : Port → Port) : (s.modPort f).att = s.att := rfl
@[simp] theorem State.modPort_ms (s : State) (f : Port → Port) : (s.modPort f).ms = s.ms := rfl
@[simp] theorem State.modPort_urgent (s : State) (f : Port → Port) : (s.modPort f).urgent = s.urgent := rfl
@[simp] theorem State.modPort_free (s : State) (f : Port → Port) : (s.modPort f).free = s.free := rfl
@[simp] theorem State.modPort_now (s : State) (f : Port → Port) : (s.modPort f).now = s.now := rfl
@[simp] theorem State.modPort_pending (s : State) (f : Port → Port) : (s.modPort f).pending = s.pending := rfl

/-! ### State.setTarget -/

@[simp] theorem State.setTarget_conns (s : State) (n : Nat) : (s.setTarget n).conns = s.conns := rfl
@[simp] theorem State.setTarget_drops (s : State) (n : Nat) : (s.setTarget n).drops = s.drops := rfl
@[simp] theorem State.setTarget_engine (s : State) (n : Nat) : (s.setTarget n).engine = s.engine := rfl
@[simp] theorem State.setTarget_demote (s : State) (n : Nat) : (s.setTarget n).demote = s.demote := rfl
@[simp] theorem State.setTarget_holdSetting (s : State) (n : Nat) : (s.setTarget n).holdSetting = s.holdSetting := rfl
@[simp] theorem State.setTarget_plant (s : State) (n : Nat) : (s.setTarget n).plant = s.plant := rfl
@[simp] theorem State.setTarget_lines (s : State) (n : Nat) : (s.setTarget n).lines = s.lines := rfl
@[simp] theorem State.setTarget_branches (s : State) (n : Nat) : (s.setTarget n).branches = s.branches := rfl
@[simp] theorem State.setTarget_drives (s : State) (n : Nat) : (s.setTarget n).drives = s.drives := rfl
@[simp] theorem State.setTarget_port (s : State) (n : Nat) : (s.setTarget n).port = { s.port with target := n } := rfl
@[simp] theorem State.setTarget_att (s : State) (n : Nat) : (s.setTarget n).att = s.att := rfl
@[simp] theorem State.setTarget_ms (s : State) (n : Nat) : (s.setTarget n).ms = s.ms := rfl
@[simp] theorem State.setTarget_urgent (s : State) (n : Nat) : (s.setTarget n).urgent = s.urgent := rfl
@[simp] theorem State.setTarget_free (s : State) (n : Nat) : (s.setTarget n).free = s.free := rfl
@[simp] theorem State.setTarget_now (s : State) (n : Nat) : (s.setTarget n).now = s.now := rfl
@[simp] theorem State.setTarget_pending (s : State) (n : Nat) : (s.setTarget n).pending = s.pending := rfl

/-! ### State.closeWith -/

@[simp] theorem State.closeWith_conns (s : State) (r : Result) : (s.closeWith r).conns = s.conns := rfl
@[simp] theorem State.closeWith_drops (s : State) (r : Result) : (s.closeWith r).drops = s.drops := rfl
@[simp] theorem State.closeWith_engine (s : State) (r : Result) : (s.closeWith r).engine = s.engine := rfl
@[simp] theorem State.closeWith_demote (s : State) (r : Result) : (s.closeWith r).demote = s.demote := rfl
@[simp] theorem State.closeWith_holdSetting (s : State) (r : Result) : (s.closeWith r).holdSetting = s.holdSetting := rfl
@[simp] theorem State.closeWith_plant (s : State) (r : Result) : (s.closeWith r).plant = s.plant := rfl
@[simp] theorem State.closeWith_lines (s : State) (r : Result) : (s.closeWith r).lines = s.lines := rfl
@[simp] theorem State.closeWith_branches (s : State) (r : Result) : (s.closeWith r).branches = s.branches := rfl
@[simp] theorem State.closeWith_drives (s : State) (r : Result) : (s.closeWith r).drives = s.drives := rfl
@[simp] theorem State.closeWith_port (s : State) (r : Result) : (s.closeWith r).port = { s.port.close with result := r } := rfl
@[simp] theorem State.closeWith_att (s : State) (r : Result) : (s.closeWith r).att = s.att := rfl
@[simp] theorem State.closeWith_ms (s : State) (r : Result) : (s.closeWith r).ms = s.ms := rfl
@[simp] theorem State.closeWith_urgent (s : State) (r : Result) : (s.closeWith r).urgent = s.urgent := rfl
@[simp] theorem State.closeWith_free (s : State) (r : Result) : (s.closeWith r).free = s.free := rfl
@[simp] theorem State.closeWith_now (s : State) (r : Result) : (s.closeWith r).now = s.now := rfl
@[simp] theorem State.closeWith_pending (s : State) (r : Result) : (s.closeWith r).pending = s.pending := rfl

/-! ### State.attend -/

@[simp] theorem State.attend_conns (s : State) : (s.attend).conns = s.conns := rfl
@[simp] theorem State.attend_drops (s : State) : (s.attend).drops = s.drops := rfl
@[simp] theorem State.attend_engine (s : State) : (s.attend).engine = s.engine := rfl
@[simp] theorem State.attend_demote (s : State) : (s.attend).demote = s.demote := rfl
@[simp] theorem State.attend_holdSetting (s : State) : (s.attend).holdSetting = s.holdSetting := rfl
@[simp] theorem State.attend_plant (s : State) : (s.attend).plant = s.plant := rfl
@[simp] theorem State.attend_lines (s : State) : (s.attend).lines = s.lines := rfl
@[simp] theorem State.attend_branches (s : State) : (s.attend).branches = s.branches := rfl
@[simp] theorem State.attend_drives (s : State) : (s.attend).drives = s.drives := rfl
@[simp] theorem State.attend_port (s : State) : (s.attend).port = s.port := rfl
@[simp] theorem State.attend_att (s : State) : (s.attend).att = { s.att with atn := s.att.atnDue } := rfl
@[simp] theorem State.attend_ms (s : State) : (s.attend).ms = s.ms := rfl
@[simp] theorem State.attend_urgent (s : State) : (s.attend).urgent = s.urgent := rfl
@[simp] theorem State.attend_free (s : State) : (s.attend).free = s.free := rfl
@[simp] theorem State.attend_now (s : State) : (s.attend).now = s.now := rfl
@[simp] theorem State.attend_pending (s : State) : (s.attend).pending = s.pending := rfl

/-! ### Records read back -/

/-- The record `modConn` changes. -/
@[simp] theorem State.modConn_get_self (s : State) (i : Fin 96) (f : Conn → Conn) : (s.modConn i f).conns[i] = f s.conns[i] := by
  simp

/-- Every other record. -/
theorem State.modConn_get_ne (s : State) {i j : Fin 96} (f : Conn → Conn) (h : i ≠ j) : (s.modConn i f).conns[j] = s.conns[j] := by
  have hne : (i : Nat) ≠ (j : Nat) := fun e => h (Fin.ext e)
  simp [hne]

/-- The record `modLine` changes. -/
@[simp] theorem State.modLine_get_self (s : State) (i : Fin 8) (f : Line → Line) : (s.modLine i f).lines[i] = f s.lines[i] := by
  simp

/-- Every other record. -/
theorem State.modLine_get_ne (s : State) {i j : Fin 8} (f : Line → Line) (h : i ≠ j) : (s.modLine i f).lines[j] = s.lines[j] := by
  have hne : (i : Nat) ≠ (j : Nat) := fun e => h (Fin.ext e)
  simp [hne]

/-- The record `modBranch` changes. -/
@[simp] theorem State.modBranch_get_self (s : State) (i : Fin 8) (f : Branch → Branch) : (s.modBranch i f).branches[i] = f s.branches[i] := by
  simp

/-- Every other record. -/
theorem State.modBranch_get_ne (s : State) {i j : Fin 8} (f : Branch → Branch) (h : i ≠ j) : (s.modBranch i f).branches[j] = s.branches[j] := by
  have hne : (i : Nat) ≠ (j : Nat) := fun e => h (Fin.ext e)
  simp [hne]

/-- The record `modDrive` changes. -/
@[simp] theorem State.modDrive_get_self (s : State) (i : Fin 8) (f : Drive → Drive) : (s.modDrive i f).drives[i] = f s.drives[i] := by
  simp

/-- Every other record. -/
theorem State.modDrive_get_ne (s : State) {i j : Fin 8} (f : Drive → Drive) (h : i ≠ j) : (s.modDrive i f).drives[j] = s.drives[j] := by
  have hne : (i : Nat) ≠ (j : Nat) := fun e => h (Fin.ext e)
  simp [hne]

end Sys2Proof.Machine
end

