-- ==== Sys2Proof/Laws/Attention.lean ====
section
/-! SUPPORT. The attention record: what raising, clearing and entering do, cause by cause. -/

namespace Sys2Proof.Machine

/-- No two causes share a place. -/
theorem Cause.index_inj {c d : Cause} (h : c.index = d.index) : c = d := by
  cases c <;> cases d <;> first | rfl | (revert h; decide)

/-- Every cause is listed. -/
theorem mem_allCauses (c : Cause) : c ∈ allCauses := by cases c <;> decide

/-- The places of two causes differ as numbers when the causes differ. -/
theorem Cause.index_ne {c d : Cause} (h : c ≠ d) : (c.index : Nat) ≠ (d.index : Nat) :=
  fun e => h (Cause.index_inj (Fin.ext e))

/-- Pending flags after a raise. -/
@[simp] theorem Attention.raise_isPending (a : Attention) (c d : Cause) :
    (a.raise c).isPending d = (decide (c = d) || a.isPending d) := by
  by_cases h : c = d
  · subst h; simp [Attention.raise, Attention.isPending]
  · have := Cause.index_ne h
    simp [Attention.raise, Attention.isPending, h, this]

/-- A raise of a cause without a unit leaves every unit set. -/
@[simp] theorem Attention.raise_unitsOf (a : Attention) (c d : Cause) : (a.raise c).unitsOf d = a.unitsOf d := by
  by_cases h : c = d
  · subst h; simp [Attention.raise, Attention.unitsOf]
  · have := Cause.index_ne h
    simp [Attention.raise, Attention.unitsOf, this]

/-- Pending flags after a raise with a unit. -/
@[simp] theorem Attention.raiseUnit_isPending (a : Attention) (c d : Cause) (u : Fin 8) :
    (a.raiseUnit c u).isPending d = (decide (c = d) || a.isPending d) := by
  by_cases h : c = d
  · subst h; simp [Attention.raiseUnit, Attention.isPending]
  · have := Cause.index_ne h
    simp [Attention.raiseUnit, Attention.isPending, h, this]

/-- Unit sets after a raise with a unit. -/
@[simp] theorem Attention.raiseUnit_unitsOf (a : Attention) (c d : Cause) (u : Fin 8) :
    (a.raiseUnit c u).unitsOf d = if c = d then a.unitsOf d ||| (1#8 <<< u.val) else a.unitsOf d := by
  by_cases h : c = d
  · subst h; simp [Attention.raiseUnit, Attention.unitsOf]
  · have := Cause.index_ne h
    simp [Attention.raiseUnit, Attention.unitsOf, h, this]

/-- Pending flags after an acknowledgement. -/
@[simp] theorem Attention.clear_isPending (a : Attention) (c d : Cause) :
    (a.clear c).isPending d = (!decide (c = d) && a.isPending d) := by
  by_cases h : c = d
  · subst h; simp [Attention.clear, Attention.isPending]
  · have := Cause.index_ne h
    simp [Attention.clear, Attention.isPending, h, this]

/-- Unit sets after an acknowledgement. -/
@[simp] theorem Attention.clear_unitsOf (a : Attention) (c d : Cause) :
    (a.clear c).unitsOf d = if c = d then 0 else a.unitsOf d := by
  by_cases h : c = d
  · subst h; simp [Attention.clear, Attention.unitsOf]
  · have := Cause.index_ne h
    simp [Attention.clear, Attention.unitsOf, h, this]

/-- Entering an id changes no cause. -/
@[simp] theorem Attention.enter_isPending (a : Attention) (id : Fin 96) (c : Cause) :
    (a.enter id).isPending c = a.isPending c := rfl

/-- Entering an id changes no unit set. -/
@[simp] theorem Attention.enter_unitsOf (a : Attention) (id : Fin 96) (c : Cause) :
    (a.enter id).unitsOf c = a.unitsOf c := rfl

/-- Entering an id sets its bit of the changed-connection set and no other. -/
theorem Attention.enter_changed (a : Attention) (id j : Fin 96) :
    (a.enter id).changed.getLsbD j.val = (a.changed.getLsbD j.val || decide (id = j)) := by
  have hj := j.isLt
  have hi := id.isLt
  simp only [Attention.enter, BitVec.getLsbD_or, BitVec.getLsbD_shiftLeft, BitVec.getLsbD_one]
  congr 1
  by_cases h : id = j
  · subst h; simp
  · have hv : (id : Nat) ≠ (j : Nat) := fun e => h (Fin.ext e)
    simp only [hj, h, decide_true, decide_false, Bool.true_and]
    by_cases h2 : j.val < id.val
    · simp [h2]
    · simp only [h2, decide_false, Bool.not_false, Bool.true_and, Bool.and_eq_false_iff, decide_eq_false_iff_not]
      omega

/-- The bit a unit takes in a unit set. -/
theorem unitBit (u n : Fin 8) : (1#8 <<< u.val).getLsbD n.val = decide (u = n) := by
  revert u n; decide

end Sys2Proof.Machine
end

