-- ==== Sys2Proof/Laws/Conn.lean ====
section
/-! SUPPORT. The life of a connection: what each shared operation does in each state of the record, and which records it
leaves alone. -/

namespace Sys2Proof.Machine

/-! ## Causes -/

/-- Only a SUSPENDED or an ACTIVE record can gain a cause (01 R14). -/
theorem State.gainCause_other (s : State) (id : Fin 96) (cause : SuspendCause) (ha : s.conns[id].state ≠ .active)
    (hs : s.conns[id].state ≠ .suspended) : s.gainCause id cause = s := by
  unfold State.gainCause
  cases h : s.conns[id].state <;> simp_all

/-- A SUSPENDED record adds the cause and nothing else happens (01 R14). -/
theorem State.gainCause_suspended (s : State) (id : Fin 96) (cause : SuspendCause) (h : s.conns[id].state = .suspended) :
    s.gainCause id cause = s.modConn id (fun c => c.addCause cause) := by
  unfold State.gainCause
  rw [h]

/-- An ACTIVE record enters SUSPENDED (01 R14, R15). -/
theorem State.gainCause_active (s : State) (id : Fin 96) (cause : SuspendCause) (h : s.conns[id].state = .active) :
    s.gainCause id cause = s.enterSuspended id cause := by
  unfold State.gainCause
  rw [h]

/-- Only a SUSPENDED record can lose a cause (01 R14). -/
theorem State.loseCause_other (s : State) (id : Fin 96) (cause : SuspendCause) (h : s.conns[id].state ≠ .suspended) :
    s.loseCause id cause = s := by
  simp only [State.loseCause, if_neg h]

/-- The record after entry to SUSPENDED by COMMS or LINE (01 R15). -/
theorem State.enterSuspended_conn (s : State) (id : Fin 96) (cause : SuspendCause) (h : cause ≠ .supervisor) :
    (s.enterSuspended id cause).conns[id] = { s.conns[id].addCause cause with
      state := .suspended, curtailed := false, ramp := false, expired := false, holdLeft := s.holdSetting,
      moved := true } := by
  simp only [State.enterSuspended, if_neg h, State.reportChange, State.wantPass_conns, State.enterChanged_conns,
    State.raise_conns, State.leaveList_conns, State.modConn_conns]
  simp

/-! ## Records left alone -/

/-- A change of one record leaves the others. -/
theorem State.modConn_other {s : State} {i j : Fin 96} (f : Conn → Conn) (h : i ≠ j) :
    (s.modConn i f).conns[j] = s.conns[j] := State.modConn_get_ne s f h

/-- Hold expiry leaves the other records. -/
theorem State.expireHold_conn_other {s : State} {i j : Fin 96} (h : i ≠ j) : (s.expireHold i).conns[j] = s.conns[j] := by
  have hne : (i : Nat) ≠ (j : Nat) := fun e => h (Fin.ext e)
  simp [State.expireHold, State.fallbackSplit, State.modDropsOf, hne]

/-- Entry to SUSPENDED leaves the other records. -/
theorem State.enterSuspended_other {s : State} {i j : Fin 96} (cause : SuspendCause) (h : i ≠ j) :
    (s.enterSuspended i cause).conns[j] = s.conns[j] := by
  have hne : (i : Nat) ≠ (j : Nat) := fun e => h (Fin.ext e)
  unfold State.enterSuspended
  split
  · rw [State.expireHold_conn_other h]
    simp [State.reportChange, hne]
  · simp [State.reportChange, hne]

/-- Return to ACTIVE leaves the other records. -/
theorem State.returnActive_conn_other {s : State} {i j : Fin 96} (h : i ≠ j) :
    (s.returnActive i).conns[j] = s.conns[j] := by
  have hne : (i : Nat) ≠ (j : Nat) := fun e => h (Fin.ext e)
  simp [State.returnActive, State.reportChange, hne]

/-- Return to VACANT leaves the other records. -/
theorem State.toVacant_conn_other {s : State} {i j : Fin 96} (h : i ≠ j) : (s.toVacant i).conns[j] = s.conns[j] := by
  have hne : (i : Nat) ≠ (j : Nat) := fun e => h (Fin.ext e)
  simp [State.toVacant, State.reportChange, hne]

/-- A cause gained leaves the other records. -/
theorem State.gainCause_conn_other {s : State} {i j : Fin 96} (cause : SuspendCause) (h : i ≠ j) :
    (s.gainCause i cause).conns[j] = s.conns[j] := by
  unfold State.gainCause
  split
  · exact State.enterSuspended_other cause h
  · exact State.modConn_other _ h
  · rfl

/-- A cause lost leaves the other records. -/
theorem State.loseCause_conn_other {s : State} {i j : Fin 96} (cause : SuspendCause) (h : i ≠ j) :
    (s.loseCause i cause).conns[j] = s.conns[j] := by
  unfold State.loseCause
  split
  · dsimp only
    split
    · rw [State.returnActive_conn_other h]
      exact State.modConn_other _ h
    · exact State.modConn_other _ h
  · rfl

/-- The close-out of one connection leaves the other records. -/
theorem State.closeAll_conn_other {s : State} {i j : Fin 96} (h : i ≠ j) :
    (s.closeAll i).conns[j] = s.conns[j] := by
  unfold State.closeAll State.vacantIfClosed
  split
  · rw [State.toVacant_conn_other h]
    rfl
  · rfl

/-- What a line that left POLLING does to one connection leaves the other records. -/
theorem State.lineLost_conn_other (l : Fin 8) {s : State} {i j : Fin 96} (h : i ≠ j) :
    (State.lineLost l s i).conns[j] = s.conns[j] := by
  unfold State.lineLost
  split
  · split
    · exact State.gainCause_conn_other _ h
    · exact State.gainCause_conn_other _ h
    · exact State.closeAll_conn_other h
    · rfl
  · rfl

/-- What a line that entered POLLING does to one connection leaves the other records. -/
theorem State.lineBack_conn_other (l : Fin 8) {s : State} {i j : Fin 96} (h : i ≠ j) :
    (State.lineBack l s i).conns[j] = s.conns[j] := by
  unfold State.lineBack
  split
  · exact State.loseCause_conn_other _ h
  · rfl

/-- A pass over the records whose step at one id leaves the others: a record not visited is left as it was. -/
theorem foldl_conn_other {f : State → Fin 96 → State}
    (hf : ∀ (s : State) (i j : Fin 96), i ≠ j → (f s i).conns[j] = s.conns[j]) (l : List (Fin 96)) (s : State)
    (j : Fin 96) (hj : j ∉ l) : (l.foldl f s).conns[j] = s.conns[j] := by
  induction l generalizing s with
  | nil => rfl
  | cons a l ih =>
    rw [List.foldl_cons, ih _ (fun h => hj (List.mem_cons_of_mem _ h))]
    exact hf s a j (fun e => hj (by simp [e]))

/-- A pass over the records: what holds of the state whenever each step keeps it holds at its end. -/
theorem foldl_keeps {f : State → Fin 96 → State} {P : State → Prop} (hf : ∀ s i, P s → P (f s i))
    (l : List (Fin 96)) (s : State) (h : P s) : P (l.foldl f s) := by
  induction l generalizing s with
  | nil => exact h
  | cons a l ih => exact ih _ (hf s a h)

/-- A line that leaves POLLING: what every single suspension and close-out keeps. -/
theorem State.leavePolling_keeps {l : Fin 8} {P : State → Prop} (hf : ∀ s i, P s → P (State.lineLost l s i))
    (s : State) (h : P s) : P (s.leavePolling l) := foldl_keeps hf _ s h

/-- A line that enters POLLING: what every single loss of LINE keeps. -/
theorem State.enterPolling_keeps {l : Fin 8} {P : State → Prop} (hf : ∀ s i, P s → P (State.lineBack l s i))
    (s : State) (h : P s) : P (s.enterPolling l) := foldl_keeps hf _ s h

end Sys2Proof.Machine
end

