-- ==== Sys2Proof/Laws/Drops.lean ====
section
/-! SUPPORT. The drop pool: a slot entered or freed keeps the pool's order, and what the pool then holds. -/

namespace Sys2Proof.Machine

/-- The pool's order: rising line and address (01 R8). -/
abbrev SortedDrops (ds : List Drop) : Prop := ds.Pairwise (fun d e => d.key < e.key)

/-- What a pool holds after a slot is entered. -/
@[simp] theorem mem_insertDrop {d e : Drop} {ds : List Drop} : e ∈ insertDrop d ds ↔ e = d ∨ e ∈ ds := by
  induction ds with
  | nil => simp [insertDrop]
  | cons a l ih =>
    unfold insertDrop
    split
    · simp
    · simp only [List.mem_cons, ih]
      tauto

/-- A slot entered is one more. -/
@[simp] theorem length_insertDrop (d : Drop) (ds : List Drop) : (insertDrop d ds).length = ds.length + 1 := by
  induction ds with
  | nil => rfl
  | cons a l ih => unfold insertDrop; split <;> simp [ih]

/-- A slot entered at a free place keeps the pool's order. -/
theorem SortedDrops.insert {d : Drop} {ds : List Drop} (h : SortedDrops ds) (hd : ∀ e ∈ ds, e.key ≠ d.key) :
    SortedDrops (insertDrop d ds) := by
  induction ds with
  | nil => simp [insertDrop]
  | cons a l ih =>
    replace h := List.pairwise_cons.1 h
    unfold insertDrop
    split
    · rename_i hlt
      refine List.pairwise_cons.2 ⟨fun e he => ?_, List.pairwise_cons.2 h⟩
      rcases List.mem_cons.1 he with rfl | he
      · exact hlt
      · exact lt_trans hlt (h.1 e he)
    · rename_i hge
      have ha : a.key < d.key := lt_of_le_of_ne (not_lt.1 hge) (hd a (by simp))
      refine List.pairwise_cons.2 ⟨fun e he => ?_, ih h.2 (fun e he => hd e (by simp [he]))⟩
      rcases mem_insertDrop.1 he with rfl | he
      · exact ha
      · exact h.1 e he

/-- Slots freed keep the pool's order. -/
theorem SortedDrops.filter {ds : List Drop} (h : SortedDrops ds) (p : Drop → Bool) : SortedDrops (ds.filter p) :=
  List.Pairwise.filter p h

/-- Slots changed without their line and address keep the pool's order. -/
theorem SortedDrops.map {ds : List Drop} (h : SortedDrops ds) (f : Drop → Drop) (hf : ∀ d, (f d).key = d.key) :
    SortedDrops (ds.map f) := by
  rw [SortedDrops, List.pairwise_map]
  simpa only [hf] using h

/-- Line and address give a slot its place, and addresses are below 32. -/
theorem Drop.key_inj {d e : Drop} (hd : d.addr < 32) (he : e.addr < 32) (h : d.key = e.key) :
    d.line = e.line ∧ d.addr = e.addr := by
  unfold Drop.key at h
  refine ⟨Fin.ext ?_, ?_⟩ <;> omega

/-- In a sorted pool two slots of one place are one. -/
theorem SortedDrops.eq_of_key {ds : List Drop} (h : SortedDrops ds) {d e : Drop} (hd : d ∈ ds) (he : e ∈ ds)
    (hk : d.key = e.key) : d = e := by
  induction ds with
  | nil => simp at hd
  | cons a l ih =>
    replace h := List.pairwise_cons.1 h
    rcases List.mem_cons.1 hd with rfl | hd' <;> rcases List.mem_cons.1 he with rfl | he'
    · rfl
    · exact absurd hk (Nat.ne_of_lt (h.1 e he'))
    · exact absurd hk.symm (Nat.ne_of_lt (h.1 d hd'))
    · exact ih h.2 hd' he'

/-- The slot found at the place of a slot of a right pool is that slot. -/
theorem State.findDrop_of_mem {s : State} (h : s.PoolRight) {d : Drop} (hd : d ∈ s.drops) :
    s.findDrop d.line d.addr = some d := by
  unfold State.findDrop
  cases hf : s.drops.find? (fun e => e.line == d.line && e.addr == d.addr) with
  | none =>
    have := List.find?_eq_none.1 hf d hd
    simp at this
  | some e =>
    have hm := List.mem_of_find?_eq_some hf
    have hp := List.find?_some hf
    simp only [Bool.and_eq_true, beq_iff_eq] at hp
    have hk : e.key = d.key := by unfold Drop.key; rw [hp.1, hp.2]
    rw [SortedDrops.eq_of_key h.1 hm hd hk]

/-- Slots in use and free slots make up the pool (01 R8). -/
theorem State.freeSlots_eq (s : State) : s.freeSlots = 160 - s.drops.length := rfl

end Sys2Proof.Machine
end

