-- ==== Sys2Proof/Laws/Event.lean ====
section
/-! SUPPORT. The end of an event: what `State.finish` does, and that no command stops the block. -/

namespace Sys2Proof.Machine

/-- A settled state is left as it is. -/
theorem State.finish_of_settled {s : State} (h : s.Settled) : s.finish = s := by
  obtain ⟨hu, ha⟩ := h
  unfold State.finish
  rw [if_neg (by simp [hu])]
  show ({ s with att := { s.att with atn := s.att.atnDue } } : State) = s
  rw [← ha]

/-- With no urgent trigger the end of an event brings ATN to its condition. -/
theorem State.finish_of_quiet {s : State} (h : s.urgent = false) : s.finish = s.attend := by
  unfold State.finish
  rw [if_neg (by simp [h])]
  rfl

/-- An urgent trigger is answered once, at the end of its event. -/
theorem State.finish_of_urgent {s : State} (h : s.urgent = true) :
    s.finish = ({ s with urgent := false } : State).answered := by
  unfold State.finish
  rw [if_pos h]
  rfl

/-- ATN brought to its condition in a state where it stands there changes nothing. -/
theorem State.attend_of_settled {s : State} (h : s.Settled) : s.attend = s := by
  rw [← State.finish_of_quiet h.1, State.finish_of_settled h]

/-- The condition of ATN does not depend on ATN. -/
@[simp] theorem Attention.atnDue_set (a : Attention) (b : Bool) : ({ a with atn := b } : Attention).atnDue = a.atnDue := rfl

/-- After its end an event has left nothing over. -/
theorem State.attend_settled {s : State} (h : s.urgent = false) : s.attend.Settled := ⟨h, rfl⟩

/-- A pass that starts, or is wanted, leaves the urgent flag as it was. -/
@[simp] theorem State.startOrRerun_urgent (s : State) : s.startOrRerun.urgent = s.urgent := by
  unfold State.startOrRerun; split <;> rfl

/-- A pass that starts, or is wanted, leaves the attention record as it was. -/
@[simp] theorem State.startOrRerun_att (s : State) : s.startOrRerun.att = s.att := by
  unfold State.startOrRerun; split <;> rfl

/-- A pass that starts, or is wanted, leaves the port as it was. -/
@[simp] theorem State.startOrRerun_port (s : State) : s.startOrRerun.port = s.port := by
  unfold State.startOrRerun; split <;> rfl

/-- A pass that starts, or is wanted, leaves the drops as they were. -/
@[simp] theorem State.startOrRerun_drops (s : State) : s.startOrRerun.drops = s.drops := by
  unfold State.startOrRerun; split <;> rfl

/-- A pass that starts, or is wanted, leaves the lines as they were. -/
@[simp] theorem State.startOrRerun_lines (s : State) : s.startOrRerun.lines = s.lines := by
  unfold State.startOrRerun; split <;> rfl

/-- A pass that starts, or is wanted, leaves the branches as they were. -/
@[simp] theorem State.startOrRerun_branches (s : State) : s.startOrRerun.branches = s.branches := by
  unfold State.startOrRerun; split <;> rfl

/-- A pass that starts, or is wanted, leaves the drives as they were. -/
@[simp] theorem State.startOrRerun_drives (s : State) : s.startOrRerun.drives = s.drives := by
  unfold State.startOrRerun; split <;> rfl

/-- A pass that starts, or is wanted, leaves the queue as it was. -/
@[simp] theorem State.startOrRerun_pending (s : State) : s.startOrRerun.pending = s.pending := by
  unfold State.startOrRerun; split <;> rfl

/-- A snapshot ends what an interval tick of the moment could still want. -/
@[simp] theorem State.snapshot_now (s : State) : s.snapshot.now = { s.now with pendTaken := false } := rfl

/-- A pass that starts, or is wanted, leaves the drives of the present moment as they were. -/
@[simp] theorem State.startOrRerun_restarted (s : State) : s.startOrRerun.now.restarted = s.now.restarted := by
  unfold State.startOrRerun; split <;> rfl

/-- A record after a pass was started or wanted: the moved flag and the demand at the snapshot may differ. -/
theorem State.startOrRerun_conn (s : State) (id : Fin 96) :
    s.startOrRerun.conns[id] = s.conns[id] ∨
      s.startOrRerun.conns[id] = { s.conns[id] with moved := false, demandSnap := s.conns[id].demand } := by
  unfold State.startOrRerun
  split
  · exact .inl rfl
  · by_cases h : s.conns[id].taken = true
    · right; simp [State.snapshot]; intro k; simp [k] at h
    · left; simp [State.snapshot]; intro k; exact absurd k h

/-- The end of every event leaves nothing over. -/
theorem State.finish_settled (s : State) : s.finish.Settled := by
  cases h : s.urgent with
  | false => rw [State.finish_of_quiet h]; exact State.attend_settled h
  | true =>
    rw [State.finish_of_urgent h]
    exact State.attend_settled (by simp)

/-- Every command answers a next state: the block never stops. -/
theorem exec_next (i : Instr) (s : State) : ∃ t, exec i s = .next t := by
  cases i <;> exact ⟨_, rfl⟩

/-- Every step answers a next state. -/
theorem step_next (s : State) : ∃ t, step s = .next t := by
  unfold step
  split
  · exact ⟨_, rfl⟩
  · exact exec_next _ _

end Sys2Proof.Machine
end

