-- ==== Sys2Proof/Laws/Frames.lean ====
section
/-! SUPPORT. Field-line frames: a frame that was formed is complete and passes its CRC; bytes and the values in them. -/

namespace Sys2Proof.Machine

/-- A number below 65536 out of its two bytes. -/
theorem arg2_b2 {n : Nat} (h : n < 65536) : arg2 (b2 n) 0 = n := by
  simp only [arg2, arg, b2, List.getD_cons_zero, List.getD_cons_succ, BitVec.toNat_ofNat]
  omega

/-- The value of a byte. -/
@[simp] theorem arg_cons_zero (b : Byte) (l : List Byte) : arg (b :: l) 0 = b.toNat := rfl

/-- The value of a later byte. -/
@[simp] theorem arg_cons_succ (b : Byte) (l : List Byte) (i : Nat) : arg (b :: l) (i + 1) = arg l i := rfl

/-- The length of a frame: the lead and two CRC bytes beside its body. -/
@[simp] theorem frameOf_length (body : List Byte) : (frameOf body).length = body.length + 3 := by
  simp [frameOf, b2]

/-- The body of a frame that was formed. -/
@[simp] theorem frameBody_frameOf (body : List Byte) : frameBody (frameOf body) = body := by
  simp [frameBody, frameOf, b2]

/-- A frame that was formed passes its CRC (05 R100). -/
@[simp] theorem crcGood_frameOf (body : List Byte) : crcGood (frameOf body) = true := by
  have hl : (crc body).toNat < 65536 := (crc body).isLt
  unfold crcGood
  rw [frameBody_frameOf, frameOf_length]
  have e : arg2 (frameOf body) (body.length + 3 - 2) = (crc body).toNat := by
    rw [← arg2_b2 hl]
    simp [frameOf, arg2, arg, b2, List.getD_eq_getElem?_getD]
  rw [e]
  simp

/-- A POLL-GRANT frame is complete (05 R99, 11 R204). -/
theorem completeFrame_pollFrame (l : Fin 8) (addr : Nat) (m : GrantMode) (c : Nat) :
    completeFrame (pollFrame l addr m c) = true := by
  simp [completeFrame, pollFrame, frameOf, b1, b2, lead]

/-- A POLL-GRANT frame passes its CRC (05 R100). -/
theorem crcGood_pollFrame (l : Fin 8) (addr : Nat) (m : GrantMode) (c : Nat) :
    crcGood (pollFrame l addr m c) = true := crcGood_frameOf _

end Sys2Proof.Machine
end

