-- ==== Sys2Proof/Laws/Port.lean ====
section
/-! SUPPORT. The port byte by byte: what one command byte and one parameter byte do to a port that hears SCK. The statements
about host commands follow from these, one byte after another. -/

namespace Sys2Proof.Machine

/-- A port that hears SCK has SEL low and has seen it high. -/
theorem Port.listening_iff (p : Port) : p.listening = true ↔ p.selLow = true ∧ p.seenHigh = true := by
  simp [Port.listening]

/-- A port that does not hear SCK takes no command byte. -/
theorem State.commandByte_deaf {s : State} (h : s.port.listening = false) (b : Byte) : s.commandByte b = s := by
  simp [State.commandByte, h]

/-- A port that does not hear SCK takes no parameter byte. -/
theorem State.paramByte_deaf {s : State} (h : s.port.listening = false) (b : Byte) (home : Bool) :
    s.paramByte b home = s := by
  simp [State.paramByte, h]

/-- Outside DATA nothing is captured and the byte due out is 00: a byte period changes the port alone. -/
theorem State.byteDone_of_not_data {s : State} (h : s.port.phase ≠ .data) :
    s.byteDone = { s with port := s.port.period 0 } := by
  have hc : s.port.captureDue = false := by
    simp [Port.captureDue, h]
  unfold State.byteDone State.placeMsb
  cases hm : s.port.msb <;> simp [State.modPort, Port.period, Port.outByte, h, hc]

/-- A byte period outside DATA keeps what of the port is not the byte assembler's. -/
theorem Port.period_phase (p : Port) (b : Byte) : (p.period b).phase = p.phase := rfl

/-- Closing after a byte period outside DATA leaves the closed port. -/
theorem Port.period_close (p : Port) (r : Result) : { (p.period 0).close with result := r } = p.closed r := rfl

/-- Closing a port twice is closing it once. -/
theorem Port.closed_closed (p : Port) (q r : Result) : (p.closed q).closed r = p.closed r := rfl

/-- A command byte on a port with no command open: the code's command is opened, or there is none. -/
theorem State.commandByte_ready {s : State} (h : s.Ready) (b : Byte) :
    s.commandByte b = (match Cmd.ofCode b with
      | some c => ({ s with port := s.port.period 0 } : State).openCmd c
      | none => ({ s with port := s.port.period 0 } : State).badCode).finish := by
  obtain ⟨hl, hp, _⟩ := h
  unfold State.commandByte
  rw [if_pos hl, State.byteDone_of_not_data (by rw [hp]; decide)]
  cases Cmd.ofCode b <;> simp [State.endOpen, Port.period_phase, hp]

/-- A command with parameter bytes is opened in COLLECTING (09 R181). -/
theorem State.openCmd_params (s : State) (c : Cmd) (h : c.paramCount ≠ 0) :
    ({ s with port := s.port.period 0 } : State).openCmd c = { s with port := s.port.opened c 0 [] 0 false } := by
  simp only [State.openCmd, if_neg h]
  rfl

/-- A whole command without parameter bytes acts in the event of its command byte (09 R181). -/
theorem State.openCmd_whole (s : State) (c : Cmd) (h : c.paramCount = 0) (hk : c.kind = .whole) :
    s.openCmd c = s.finishWhole c [] false := by
  simp [State.openCmd, h, hk]

/-- A read without parameter bytes enters DATA in the event of its command byte (09 R181, R185). -/
theorem State.openCmd_read (s : State) (c : Cmd) (h : c.paramCount = 0) (hk : c.kind = .read) :
    s.openCmd c = s.enterData c [] := by
  simp [State.openCmd, h, hk]

/-- A parameter byte on a port in COLLECTING (09 R180, R182). -/
theorem State.paramByte_collecting {s : State} (hl : s.port.listening = true) (hp : s.port.phase = .collecting)
    (b : Byte) (home : Bool) :
    s.paramByte b home = (({ s with port := s.port.period 0 } : State).collect b home).finish := by
  unfold State.paramByte
  rw [if_pos hl, State.byteDone_of_not_data (by rw [hp]; decide)]
  simp only [Port.period_phase, hp]

/-- A parameter byte on a port in IDLE is ignored (09 R180). -/
theorem State.paramByte_idle {s : State} (h : s.Ready) (b : Byte) (home : Bool) :
    s.paramByte b home = ({ s with port := s.port.period 0 } : State).finish := by
  obtain ⟨hl, hp, _⟩ := h
  unfold State.paramByte
  rw [if_pos hl, State.byteDone_of_not_data (by rw [hp]; decide)]
  simp only [Port.period_phase, hp]

/-- The state a whole command acts on: its last parameter byte is in, and its command record still open. Every whole command
but SET STREAM POINTER reads nothing of the port. -/
abbrev State.acting (s : State) (c : Cmd) (pos : Nat) (held : List Byte) : State :=
  { s with port := (s.port.opened c pos held 0 false).period 0 }

/-- A parameter byte of a whole command that lacks more (09 R182). -/
theorem State.collectWhole_more (s : State) (c : Cmd) (a : List Byte) (home : Bool) (hb : badDropCount c a = false)
    (hn : a.length ≠ c.paramsNeeded a) :
    s.collectWhole c a home = s.modPort (fun p => { p with pos := p.pos + 1, field := a }) := by
  simp [State.collectWhole, hb, hn]

/-- The last parameter byte of a whole command (09 R183). -/
theorem State.collectWhole_last (s : State) (c : Cmd) (a : List Byte) (home : Bool) (hb : badDropCount c a = false)
    (hn : a.length = c.paramsNeeded a) : s.collectWhole c a home = s.finishWhole c a home := by
  simp only [State.collectWhole, hb, Bool.false_eq_true, if_false, if_pos hn]

/-- Only CREATE CONNECTION counts drops. -/
theorem badDropCount_other {c : Cmd} (h : c ≠ .createConnection) (a : List Byte) : badDropCount c a = false := by
  simp [badDropCount, h]

/-- Every command but CREATE CONNECTION takes a fixed number of parameter bytes. -/
theorem Cmd.paramsNeeded_other {c : Cmd} (h : c ≠ .createConnection) (a : List Byte) :
    c.paramsNeeded a = c.paramCount := by
  cases c <;> first | rfl | exact absurd rfl h

/-- One more parameter byte of a whole command that still lacks some (09 R182). -/
theorem State.paramByte_more {s : State} (h : s.Ready) {c : Cmd} (hk : c.kind = .whole) (pos : Nat) (held : List Byte)
    (b : Byte) (home : Bool) (hb : badDropCount c (held ++ [b]) = false)
    (hn : (held ++ [b]).length ≠ c.paramsNeeded (held ++ [b])) :
    ({ s with port := s.port.opened c pos held 0 false } : State).paramByte b home =
      { s with port := s.port.opened c (pos + 1) (held ++ [b]) 0 false } := by
  have hl : s.port.selLow = true ∧ s.port.seenHigh = true := (Port.listening_iff _).1 h.1
  rw [State.paramByte_collecting (by simp [Port.opened, Port.closed, Port.reset, Port.listening, hl]) rfl]
  show ((s.acting c pos held).collect b home).finish = _
  have hcol : (s.acting c pos held).collect b home = (s.acting c pos held).collectWhole c (held ++ [b]) home := by
    show (match c.kind with | .whole => _ | .read => _ | .field => _) = _
    rw [hk]
    rfl
  rw [hcol, State.collectWhole_more _ _ _ _ hb hn]
  exact State.finish_of_settled h.2.2

/-- The last parameter byte of a whole command (09 R183). -/
theorem State.paramByte_last {s : State} (h : s.Ready) {c : Cmd} (hk : c.kind = .whole) (pos : Nat) (held : List Byte)
    (b : Byte) (home : Bool) (hb : badDropCount c (held ++ [b]) = false)
    (hn : (held ++ [b]).length = c.paramsNeeded (held ++ [b])) :
    ({ s with port := s.port.opened c pos held 0 false } : State).paramByte b home =
      ((s.acting c pos held).finishWhole c (held ++ [b]) home).finish := by
  have hl : s.port.selLow = true ∧ s.port.seenHigh = true := (Port.listening_iff _).1 h.1
  rw [State.paramByte_collecting (by simp [Port.opened, Port.closed, Port.reset, Port.listening, hl]) rfl]
  show ((s.acting c pos held).collect b home).finish = _
  have hcol : (s.acting c pos held).collect b home = (s.acting c pos held).collectWhole c (held ++ [b]) home := by
    show (match c.kind with | .whole => _ | .read => _ | .field => _) = _
    rw [hk]
    rfl
  rw [hcol, State.collectWhole_last _ _ _ _ hb hn]

/-- A whole command of one parameter byte, sent to a ready port. -/
theorem State.send_one {s : State} (h : s.Ready) {c : Cmd} (hk : c.kind = .whole) (hc : Cmd.ofCode c.code = some c)
    (hn : c.paramCount = 1) (hne : c ≠ .createConnection) (b : Byte) (home : Bool) :
    s.send c [b] home = ((s.acting c 0 []).finishWhole c [b] home).finish := by
  have hl : s.port.selLow = true ∧ s.port.seenHigh = true := (Port.listening_iff _).1 h.1
  have h1 : s.commandByte c.code = { s with port := s.port.opened c 0 [] 0 false } := by
    rw [State.commandByte_ready h, hc]
    simp only [State.openCmd_params s c (by rw [hn]; decide)]
    exact State.finish_of_settled h.2.2
  show State.paramByte (s.commandByte c.code) b home = _
  rw [h1, State.paramByte_collecting (by simp [Port.opened, Port.closed, Port.reset, Port.listening, hl]) rfl]
  show ((s.acting c 0 []).collect b home).finish = _
  have hcol : (s.acting c 0 []).collect b home = (s.acting c 0 []).collectWhole c [b] home := by
    show (match c.kind with | .whole => _ | .read => _ | .field => _) = _
    rw [hk]
    rfl
  rw [hcol, State.collectWhole_last _ _ _ _ (badDropCount_other hne _)
    (by rw [Cmd.paramsNeeded_other hne, hn]; rfl)]

/-- A command that names no field ends with its result and a closed port, whatever its act did to the rest. -/
theorem State.closeWith_port_of {s t : State} (r : Result) (hs : t.port.selLow = s.port.selLow)
    (hh : t.port.seenHigh = s.port.seenHigh) (hp : t.port.pointer = s.port.pointer) (ho : t.port.sdo = some false)
    (hb : t.port.bitCount = 0) (hd : t.port.bits = 0) (hm : t.port.msb = false) (hl : t.port.lastOut = 0) :
    (t.closeWith r).port = s.port.closed r := by
  simp [State.closeWith, State.modPort, Port.close, Port.closed, Port.reset, hs, hh, hp, ho, hb, hd, hm, hl]

end Sys2Proof.Machine
end

