-- ==== Sys2Proof/Laws/Units.lean ====
section
/-! SUPPORT. Drives, meters and the arithmetic of a pass: where the results of the shared operations lie. -/

namespace Sys2Proof.Machine

/-! ## Drives -/

/-- A stored target lies in the travel (08 R160). -/
theorem roundTarget_le (e : Excitation) (travel v : Nat) : roundTarget e travel v ≤ travel := by
  unfold roundTarget
  cases e <;> simp only <;> (try split) <;> (try split) <;> omega

/-- A new configuration keeps a running interval, unless it changes what the position means or only the rate of an interval
that an expiry of the same moment restarted (08 R158, R173). -/
theorem Drive.configure_timer (d : Drive) (g : DriveConfig) (restarted : Bool) :
    (d.configure g restarted).timer =
      if d.rescaled g then 0
      else if restarted ∧ d.timer ≠ 0 ∧ g.rate ≠ d.rate then 1000000 / g.rate else d.timer := by
  unfold Drive.configure
  simp only [Drive.interval]
  split
  · rfl
  · split <;> rfl

/-- A stored target is a position of the excitation (08 R160). -/
theorem roundTarget_uses (e : Excitation) (travel v : Nat) : usesPosition e (roundTarget e travel v) = true := by
  unfold roundTarget usesPosition
  cases e
  · simp only [beq_iff_eq]; omega
  · simp only [Bool.or_eq_true, beq_iff_eq]; split
    · simp
    · split <;> omega
  · rfl

/-- A target on a position of the excitation within the travel is stored as it is (08 R160). -/
theorem roundTarget_of_uses {e : Excitation} {travel v : Nat} (h : v ≤ travel) (hu : usesPosition e v = true) :
    roundTarget e travel v = v := by
  unfold roundTarget
  cases e
  · simp only [usesPosition, beq_iff_eq] at hu; simp only; omega
  · simp only [usesPosition, Bool.or_eq_true, beq_iff_eq] at hu
    simp only; split
    · omega
    · split <;> omega
  · simp only; omega

/-- A step toward the target stays between the position and the target (08 R159, R161). -/
theorem Drive.nextPosition_between {d : Drive} (hp : usesPosition d.excitation d.position = true)
    (ht : usesPosition d.excitation d.target = true) :
    (d.position < d.target → d.position < d.nextPosition ∧ d.nextPosition ≤ d.target) ∧
      (d.target < d.position → d.target ≤ d.nextPosition ∧ d.nextPosition < d.position) := by
  unfold Drive.nextPosition
  cases he : d.excitation <;> simp only [he, usesPosition, Bool.or_eq_true, beq_iff_eq] at hp ht ⊢
  · split <;> omega
  · split <;> split <;> omega
  · split <;> omega

/-- A step toward the target ends on a position of the excitation (08 R159). -/
theorem Drive.nextPosition_uses {d : Drive} (hp : usesPosition d.excitation d.position = true)
    (ht : usesPosition d.excitation d.target = true) :
    usesPosition d.excitation d.nextPosition = true := by
  unfold Drive.nextPosition
  cases he : d.excitation <;> simp only [he, usesPosition, Bool.or_eq_true, beq_iff_eq] at hp ht ⊢
  · split <;> omega
  · split <;> split <;> omega

/-! ## Meters -/

/-- The partner of a partner is the branch itself. -/
@[simp] theorem partner_partner (n : Fin 8) : partner (partner n) = n := by revert n; decide

/-- A branch is not its own partner. -/
theorem partner_ne (n : Fin 8) : partner n ≠ n := by revert n; decide

/-- One of a pair is even and the other odd. -/
@[simp] theorem isEven_partner (n : Fin 8) : isEven (partner n) = !isEven n := by revert n; decide

/-- The measured flow fits 16 bits (07 R140). -/
theorem Branch.measure_le (b : Branch) : b.measure ≤ 65535 := by
  unfold Branch.measure
  split <;> omega

/-! ## A pass -/

/-- The ramped request is within the subscription (02 R44). -/
theorem SnapRec.ramped_le_sub (r : SnapRec) (ramp : Nat) : r.ramped ramp ≤ r.sub := by
  unfold SnapRec.ramped SnapRec.request
  omega

/-- The fallback power is within the subscription (01 R16). -/
theorem fallbackPower_le (sub dt : Nat) (f : Option Nat) : fallbackPower sub dt f ≤ sub := by
  unfold fallbackPower
  cases f with
  | none => simp
  | some v => exact Nat.min_le_left _ _

/-- A class that fits is granted its ramped requests (02 R45). -/
theorem Snapshot.classGrants_fit (p : Snapshot) (k rem : Nat) (h : p.classSum k ≤ rem) :
    p.classGrants k rem = (p.members k).map (fun r => (r.id, r.ramped p.ramp)) := by
  simp [Snapshot.classGrants, h]

/-- A class is granted power by its members, in their order (02 R45, R46). -/
theorem Snapshot.classGrants_ids (p : Snapshot) (k rem : Nat) :
    (p.classGrants k rem).map (·.1) = (p.members k).map (·.id) := by
  unfold Snapshot.classGrants
  dsimp only
  split <;> simp [Function.comp_def]

/-- A flow ceiling before the branch limits is within M for an ACTIVE record (02 R48). -/
theorem Snapshot.flow_le_max (p : Snapshot) (r : SnapRec) (h : r.state = .active) : p.flow r ≤ r.maxFlow := by
  unfold Snapshot.flow
  rw [h]
  exact Nat.min_le_left _ _

end Sys2Proof.Machine
end

