-- ==== Sys2Proof/WellFormed.lean ====
section
/-! DEFINITION. Which commands are well formed: what the sender can really send. -/

namespace Sys2Proof

/-- No more parameter bytes than the command takes: more would be stray bytes or byte periods of their own (09 R180). -/
def paramsFit (c : Cmd) (params : List Byte) : Bool := params.length ≤ c.paramsNeeded params

/-- What the sender can send. Ill-formed commands still have a meaning: `exec` is total. -/
def Instr.wellFormed : Instr → Bool
  | .createConnection p => paramsFit .createConnection p
  | .editConnection p => paramsFit .editConnection p
  | .suspend p => paramsFit .suspend p
  | .resume p => paramsFit .resume p
  | .retireConnection p => paramsFit .retireConnection p
  | .addDrop p => paramsFit .addDrop p
  | .removeDrop p => paramsFit .removeDrop p
  | .readConnection p => paramsFit .readConnection p
  | .readDrop p => paramsFit .readDrop p
  | .setStreamPointer p => paramsFit .setStreamPointer p
  | .setPassParameters p => paramsFit .setPassParameters p
  | .setDemoteThreshold p => paramsFit .setDemoteThreshold p
  | .clearShortfall p => paramsFit .clearShortfall p
  | .setPlantOffer p => paramsFit .setPlantOffer p
  | .setEmergencyOffer p => paramsFit .setEmergencyOffer p
  | .lineInit p => paramsFit .lineInit p
  | .startLine p => paramsFit .startLine p
  | .stopLine p => paramsFit .stopLine p
  | .lineReset p => paramsFit .lineReset p
  | .clearLineErrors p => paramsFit .clearLineErrors p
  | .readLine p => paramsFit .readLine p
  | .setCommsHold p => paramsFit .setCommsHold p
  | .setMeter p => paramsFit .setMeter p
  | .setBranchLimit p => paramsFit .setBranchLimit p
  | .setRegulation p => paramsFit .setRegulation p
  | .setCascade p => paramsFit .setCascade p
  | .readBranch p => paramsFit .readBranch p
  | .setValveDrive p => paramsFit .setValveDrive p
  | .homeValve p _ => paramsFit .homeValve p
  | .readValve p => paramsFit .readValve p
  | .ackAttention p => paramsFit .ackAttention p
  | .setGroupLevel p => paramsFit .setGroupLevel p
  | .setThreshold p => paramsFit .setThreshold p
  | .badCommand code => (Cmd.ofCode code).isNone
  | .frameReceived _ bytes => Machine.completeFrame bytes
  | .pollSent _ (some bytes) => Machine.completeFrame bytes
  | .pollSent _ none => true
  | .readResult | .streamReadTable | .runPass | .readPassStatus | .readCurtailmentList | .clearTrip | .readPlant
  | .readAttention | .readChangedSet | .parameterByte _ _ | .dataBytePeriod | .selAssert | .selRelease | .partReset _
  | .tripInputSample _ | .qualifiedAssertion | .qualifiedDeassertion | .intervalTick | .publication
  | .idleLineSelection _ | .pollSpacingExpiry _ | .replyStart _ | .responseTimeout _ | .brokenFrame _
  | .gapLimitExpiry _ | .contention _ | .commsHoldExpiry _ | .meterEdge _ | .gateArmedStart _ _ | .gateClose _
  | .stepTimerExpiry _ | .homingStepExpiry _ _ | .encoderSample _ _ _ | .sckFallingEdge _ => true

end Sys2Proof
end

