-- ==== Sys2Proof/Tests/Slice0.lean ====
section
/-! SUPPORT. Tests of the model's own text: ill-formed terms refused, words and worked examples of the spec, one step each; and
for every statement with hypotheses a concrete state and operands that meet them, clause by clause. -/

namespace Sys2Proof.Tests

open Sys2Proof Sys2Proof.Machine

-- One theorem at a time: a hundred kernel evaluations side by side exceed the memory limit.
set_option Elab.async false

/-! ## Small states -/

/-- After reset with the port selected: ready for a command byte. -/
def base : State := { State.reset with port := { State.reset.port with selLow := true } }

/-- A test on the next state of a command. -/
def after (i : Instr) (s : State) (p : State → Bool) : Bool :=
  match exec i s with | .next t => p t | _ => false

/-- An ACTIVE record on line 0. -/
def conn0 : Conn :=
  { Conn.vacant 1 with state := .active, cls := 1, sub := 1000, dt := 60, maxFlow := 300, fallback := some 100,
                       demand := 100, granted := 50, ceiling := 20 }

/-- Its two LIVE drops. -/
def drop1 : Drop := { Drop.fresh 0 1 0 .create with state := .live, demand := 60, share := 10 }

/-- The second, at the highest address. -/
def drop30 : Drop := { Drop.fresh 0 30 0 .create with state := .live, demand := 40, share := 10 }

/-- One record with its drops, on a line in a given state and phase, polling drop 1. -/
def site (c : Conn) (ds : List Drop) (st : LineState) (ph : LinePhase) : State :=
  { base with
    conns := base.conns.set 0 c, drops := ds
    lines := base.lines.set 0 { Line.reset with state := st, phase := ph, polled := 1, walk := 1, respLeft := 9 } }

/-- The ACTIVE record with both drops, its line idle in POLLING. -/
def served : State := site conn0 [drop1, drop30] .polling .none

/-- The record SUSPENDED by the given causes. -/
def held (comms line sup expired : Bool) : Conn :=
  { conn0 with state := .suspended, comms := comms, lineCause := line, supervisor := sup, expired := expired, holdLeft := 5 }

/-- A branch in place of branch 0. -/
def branched (b : Branch) : State := { base with branches := base.branches.set 0 b }

/-- A drive in place of drive 0. -/
def driven (d : Drive) : State := { base with drives := base.drives.set 0 d }

/-- A line in place of line 0. -/
def lined (x : Line) : State := { base with lines := base.lines.set 0 x }

/-! ## WellFormed refuses -/

theorem test_wf_whole_too_long : (Instr.suspend [1, 2]).wellFormed = false := by decide
theorem test_wf_create_too_long :
    (Instr.createConnection [1, 0, 0, 1, 0, 50, 1, 0, 0, 0, 1, 5, 6]).wellFormed = false := by decide
theorem test_wf_create_bad_count_ends :
    (Instr.createConnection [1, 0, 0, 1, 0, 50, 1, 0, 0, 0, 4, 5]).wellFormed = false := by decide
theorem test_wf_field_too_long : (Instr.setRegulation [1, 2, 3, 4, 5]).wellFormed = false := by decide
theorem test_wf_read_too_long : (Instr.readDrop [1, 2, 3]).wellFormed = false := by decide
theorem test_wf_named_code : (Instr.badCommand 0x20).wellFormed = false := by decide
theorem test_wf_short_frame : (Instr.frameReceived 0 [0xC5, 6, 0x31]).wellFormed = false := by decide
theorem test_wf_short_echo : (Instr.pollSent 0 (some [0xC5])).wellFormed = false := by decide
theorem test_wf_accepts : (Instr.createConnection [1, 0, 0, 1, 0, 50, 1, 0, 0, 0, 1, 5]).wellFormed = true := by decide

/-! ## Codes, CRC and frames (05 R100, 11 R204, R208) -/

/-- The check value of the CRC: "123456789" gives 29B1 hex (05 R100). -/
theorem test_crc_check : crc [0x31, 0x32, 0x33, 0x34, 0x35, 0x36, 0x37, 0x38, 0x39] = 0x29B1#16 := by decide +kernel

/-- The poll to drop 6 of connection 11 (11 section 11.1, example). -/
theorem test_poll_frame : (pollFrame 2 6 .openService 926).take 8 = [0xC5, 6, 0x31, 2, 6, 1, 3, 0x9E] := by decide +kernel

theorem test_code_create : Cmd.ofCode 0x10 = some .createConnection := by decide
theorem test_code_last : Cmd.ofCode 0x74 = some .readChangedSet := by decide
theorem test_code_absent : Cmd.ofCode 0x75 = none := by decide
theorem test_every_code_names_its_command : ∀ c ∈ Cmd.all, Cmd.ofCode c.code = some c := by decide
theorem test_no_word : decodeTableWord 8 0x10 = none := by decide

/-! ## Worked examples of the spec, one step each -/

/-- Creating connection 42 (11, example): PENDING, no flags, absent fields FFFF, two drops in address order. -/
theorem test_create_42 : after (.createConnection [0x2A, 4, 1, 0x17, 0x70, 0x41, 9, 0x60, 0xFF, 0xFF, 2, 9, 3]) base
    (fun t => t.connImage 42 == [42, 1, 1, 4, 1, 1, 0, 0, 0x17, 0x70, 0x41, 9, 0x60, 0xFF, 0xFF, 0xFF, 0xFF, 0, 0, 0, 0, 0,
      0, 0, 2, 3, 9, 0, 0, 0] && t.freeSlots == 158 && t.port.result == .ok) = true := by decide +kernel

/-- A VACANT record's image (11 R205). -/
theorem test_vacant_image : base.connImage 5 = [5, 0, 0, 0, 0, 0, 0, 0, 0, 0, 0, 0, 0, 0xFF, 0xFF, 0xFF, 0xFF, 0, 0, 0, 0, 0,
    0, 0, 0, 0, 0, 0, 0, 0] := by decide +kernel

/-- The pass of 02 section 2.8. -/
def worked : Snapshot :=
  let r (id : Fin 96) (st : ConnState) (eff s d c m g : Nat) (line : Fin 8) : SnapRec :=
    { id := id, gen := 0, state := st, eff := eff, sub := s, dt := c, maxFlow := m, fallback := none, hold := none,
      demand := d, gPrev := g, ceiling := 300, expired := false, line := line, shares := [] }
  { recs := [r 4 .active 0 3000 2800 60 2000 2800 2, r 9 .suspended 1 2500 0 50 1200 800 2,
      r 11 .active 1 5000 5200 55 3000 4000 2, r 17 .active 1 4000 3500 70 2500 3000 5,
      r 23 .active 2 2000 1500 60 1000 500 5]
    offer := 10000, ramp := 20, limits := #v[65535, 65535, 3000, 65535, 65535, 4000, 65535, 65535], listed := [17] }

theorem test_worked_grants : worked.recs.map worked.power = [2800, 800, 3764, 2636, 0] ∧ worked.headroom = 0 := by
  decide +kernel
theorem test_worked_ceilings : worked.recs.map worked.ceilingOf = [1095, 300, 1605, 898, 0] ∧ worked.strandedIn 2 = 46 ∧
    worked.limitedIn 5 = false := by decide +kernel
theorem test_worked_flags : worked.recs.map worked.curtailedIn = [false, false, true, true, true] ∧
    worked.recs.map worked.rampIn = [false, false, false, false, true] := by decide +kernel

/-- The drop split of connection 11 (02 section 2.8, stage 6). -/
theorem test_worked_split :
    [{ Drop.fresh 2 6 11 .create with state := .live, demand := 3000 },
     { Drop.fresh 2 14 11 .create with state := .live, demand := 2200 }].map (fun d => activeShare 1605
       [{ Drop.fresh 2 6 11 .create with state := .live, demand := 3000 },
        { Drop.fresh 2 14 11 .create with state := .live, demand := 2200 }] d) = [926, 679] := by decide +kernel

/-- The fallback power of 06, example: 400 at 60 is 1005 kW. -/
theorem test_fallback_power : fallbackPower 2500 60 (some 400) = 1005 := by decide

/-- A report of delta-T 5.0 K against 6.0 K committed is a shortfall, one of 5.5 K a recovery (03, example). -/
theorem test_shortfall :
    shortfall conn0 { demand := 0, supply := 68, ret := 118, flow := 640, valve := 0, localOverride := false,
                      sensorFault := false } = true ∧
    shortfall conn0 { demand := 0, supply := 70, ret := 125, flow := 598, valve := 0, localOverride := false,
                      sensorFault := false } = false := by decide

/-- Warm supply, low flow and a stale report are skipped (03, example). -/
theorem test_skipped :
    skipsScore { conn0 with maxFlow := 1800 } 70 { demand := 0, supply := 93, ret := 140, flow := 660, valve := 0,
                                                   localOverride := false, sensorFault := false } = true ∧
    skipsScore { conn0 with maxFlow := 1800 } 70 { demand := 0, supply := 71, ret := 124, flow := 80, valve := 0,
                                                   localOverride := false, sensorFault := false } = true ∧
    skipsScore { conn0 with maxFlow := 1800 } 70 { demand := 0, supply := 650, ret := 700, flow := 615, valve := 0,
                                                   localOverride := false, sensorFault := false } = true := by decide

/-- The measured flow of a 4 s gate of 600 counts at K 250 and prescale 2 (07, example). -/
theorem test_gate_flow : after (.gateClose 0)
    (branched { Branch.reset with mode := .s4, gate := .counting, k := 250, prescale := 2, live := 600 })
    (fun t => t.branches[(0 : Fin 8)].flow == 750 && t.branches[(0 : Fin 8)].live == 0) = true := by decide +kernel

/-- The high level at the tick that arms a gate with prescale 2 is an edge, not yet a count (07, example). -/
theorem test_gate_level : after (.gateArmedStart 0 true)
    (branched { Branch.reset with mode := .s4, gate := .armed, prescale := 2 })
    (fun t => t.branches[(0 : Fin 8)].divider && t.branches[(0 : Fin 8)].live == 0) = true := by decide +kernel

/-- The third gate above the band trims the valve (07, example). -/
theorem test_third_gate_trims : after (.gateClose 0)
    { branched { Branch.reset with mode := .s1, gate := .counting, k := 100, live := 2910, limit := 2700, overRun := 2,
                                   base := 1600, trim := 40 } with
      drives := base.drives.set 0 { Drive.reset with state := .idle, known := true, coils := true, position := 1600,
                                                     target := 1600, encoder := 6400 } }
    (fun t => t.drives[(0 : Fin 8)].target == 1560 && t.drives[(0 : Fin 8)].position == 1599 &&
      t.branches[(0 : Fin 8)].overdrawn && t.att.isPending .overdrawn) = true := by decide +kernel

/-- A regulation target of 1600 is stored as 1599 in TWO_PHASE; the highest targets of a travel of 2001 (08 R160). -/
theorem test_rounding : roundTarget .twoPhase 2000 1600 = 1599 ∧ roundTarget .wave 2001 8000 = 2000 ∧
    roundTarget .twoPhase 2001 8000 = 2001 ∧ roundTarget .half 2001 8000 = 2001 := by decide

/-- The jammed stem of 08: a deviation at the tolerance passes, one above it is a stall. -/
theorem test_stall_at_tolerance :
    ({ Drive.reset with position := 1581, encoder := 6340, stepPending := true } : Drive).stalled = false ∧
    ({ Drive.reset with position := 1580, encoder := 6340, stepPending := true } : Drive).stalled = true := by decide

/-- The first closing step of a homing from phase 0 in HALF goes to phase 7 (08, example). -/
theorem test_homing_step : after (.homingStepExpiry 0 false) (driven { Drive.reset with state := .homing, coils := true })
    (fun t => t.drives[(0 : Fin 8)].phase == 7 && t.drives[(0 : Fin 8)].homingSteps == 1) = true := by decide +kernel

/-- A drive that has just passed a check and steps on, its timer at the rate of 200. -/
def moving : State := driven { Drive.reset with state := .moving, known := true, coils := true, target := 9 }

/-- The timer that an expiry restarted runs at the new rate of a SET VALVE DRIVE of the same moment, and at its old length
once a tick has passed (08 R158, R173). -/
theorem test_rate_after_expiry :
    after (.stepTimerExpiry 0) moving (fun t => after (.setValveDrive [0, 0x07, 0xD0, 2, 1, 0x90, 4, 16]) t
      (fun u => u.drives[(0 : Fin 8)].timer == 2500)) = true ∧
    after (.stepTimerExpiry 0) moving (fun t => after (.setValveDrive [0, 0x07, 0xD0, 2, 1, 0x90, 4, 16])
      { t with now := Moment.start } (fun u => u.drives[(0 : Fin 8)].timer == 5000)) = true := by decide +kernel

/-- An interval tick after a publication of the same moment that took pending into its rerun pass sets rerun; after RUN PASS
it does not (12 R209, rows 1 and 4). -/
theorem test_interval_tick_after_publication :
    after .publication { served.snapshot with engine := { served.snapshot.engine with pend := true, rerun := true } }
      (fun t => !t.engine.pend && after .intervalTick t (fun u => u.engine.rerun && u.computing)) = true ∧
    after .runPass { served with engine := { served.engine with pend := true } }
      (fun t => after .intervalTick t (fun u => !u.engine.rerun && u.computing)) = true := by decide +kernel

/-- The fiftieth asserted sample qualifies the trip and starts a pass on the emergency offer (04, example). -/
theorem test_trip_qualifies : after (.tripInputSample true)
    { base with plant := { base.plant with run := 49, offer := 10000, emergency := 600 } }
    (fun t => t.plant.latch && t.effectiveOffer == 600 && t.computing && t.att.isPending .trip && t.plant.run == 0) =
    true := by decide +kernel

/-- CLEAR TRIP while the qualified level is asserted is refused (04, example). -/
theorem test_clear_trip_refused : after .clearTrip
    { base with plant := { base.plant with level := true, raw := false, latch := true } }
    (fun t => t.port.result == .badState && t.plant.latch) = true := by decide +kernel

/-- The third miss of a LIVE drop suspends its connection with COMMS and 60 s of hold (06, example). -/
theorem test_third_miss : after (.responseTimeout 0)
    (site conn0 [{ drop1 with missed := 2 }, drop30] .polling .awaiting)
    (fun t => t.conns[(0 : Fin 96)].state == .suspended && t.conns[(0 : Fin 96)].comms &&
      t.conns[(0 : Fin 96)].holdLeft == 60 && t.conns[(0 : Fin 96)].demand == 40 && t.computing) = true := by decide +kernel

/-- The eighth bad exchange faults the line (05, example). -/
theorem test_line_faults : after (.brokenFrame 0)
    { served with lines := served.lines.set 0 { Line.reset with state := .polling, phase := .receiving, polled := 1, bad := 7 } }
    (fun t => t.lines[(0 : Fin 8)].state == .faulted && t.att.isPending .lineFaulted &&
      t.conns[(0 : Fin 96)].lineCause && t.conns[(0 : Fin 96)].granted == 50) = true := by decide +kernel

/-- The second unanswered CLOSE poll of the last drop returns the record to VACANT (06, example). -/
theorem test_close_out : after (.responseTimeout 0)
    (site { conn0 with state := .retiring } [{ drop1 with mode := some .close, closePolls := 1 }] .polling .awaiting)
    (fun t => t.conns[(0 : Fin 96)].state == .vacant && t.drops.isEmpty && t.att.isPending .retireDone) = true := by
  decide +kernel

/-- A stop pending is taken by the report that ends the exchange: the record holds LINE, the line is READY (05 R91, R93). -/
theorem test_stop_taken_by_report : after (.frameReceived 0 (frameOf [13, 0x32, 0, 1, 1, 44, 0, 70, 0, 124, 0, 100, 88, 0]))
    { site conn0 [drop1, drop30] .polling .receiving with
      lines := base.lines.set 0 { Line.reset with state := .polling, phase := .receiving, polled := 1, stop := true } }
    (fun t => t.lines[(0 : Fin 8)].state == .ready && t.conns[(0 : Fin 96)].state == .suspended &&
      t.conns[(0 : Fin 96)].lineCause && t.drops.head?.map (·.demand) == some 300) = true := by decide +kernel

/-- A stream wraps its pointer from 95 to 0 as the last byte of an image goes out (09, example). -/
theorem test_stream_wraps : after .dataBytePeriod
    { base with port := { base.port with phase := .data, cmd := some .streamReadTable, readOk := true, outPos := 30
                                         captured := some [], pointer := 95 } }
    (fun t => t.port.pointer == 0 && t.port.captured == none) = true := by decide +kernel

/-- READ CHANGED SET gives ids 0, 9 and 95 as the bits of bytes 0, 1 and 11 (11 R206). -/
theorem test_changed_image : changedImage (1#96 ||| (1#96 <<< 9) ||| (1#96 <<< 95)) =
    [0x80, 0x40, 0, 0, 0, 0, 0, 0, 0, 0, 0, 0x01] := by decide +kernel

/-- The attention read selects the group of the highest level (10 R198). -/
theorem test_attention_selects :
    (({ base.att with levels := #v[1, 2, 5, 5, 0, 0] }.raise .stateChanged).raiseUnit .lineFaulted 3).image =
      [2, 5, 1, 0, 0, 0, 0x0C, 0, 0] := by decide +kernel

/-! ## Witnesses: hypotheses that are met -/

theorem wit_StepRunsFrontCommand : ({ base with pending := [.runPass] } : State).pending = .runPass :: [] := by decide

theorem wit_IdleStepIsTick : base.pending = [] ∧ base.Settled ∧ base.plant.raw = base.plant.level ∧ base.computing = false ∧
    base.ms + 1 < 1000 ∧ (∀ l : Fin 8, base.lines[l].phase = .none) ∧ 1000 ≤ ({ base with ms := 999 } : State).ms + 1 ∧
    (∀ n : Fin 8, base.branches[n].gate = .shut) ∧ base.engine.counter + 1 < base.engine.interval := by decide +kernel

/-- Line 0 in every timed phase, branch 0 counting, and one more second for a SUSPENDED record on a READY line. -/
theorem wit_IdleStepIsTick_timers :
    (lined { Line.reset with phase := .awaiting, respLeft := 2 }).lines[(0 : Fin 8)].respLeft ≠ 1 ∧
    (lined { Line.reset with phase := .spacing, spaceLeft := 2 }).lines[(0 : Fin 8)].spaceLeft ≠ 1 ∧
    ({ Branch.reset with gate := .counting, mode := .s4, elapsed := 2 } : Branch).elapsed + 1 < GateMode.s4.seconds ∧
    (site (held false true false false) [drop1] .ready .none).pending = [] ∧
    (∀ l : Fin 8, (site (held false true false false) [drop1] .ready .none).lines[l].phase = .none ∧
      (site (held false true false false) [drop1] .ready .none).lines[l].state ≠ .polling) ∧
    (site (held false true false false) [drop1] .ready .none).conns[(0 : Fin 96)].state = .suspended ∧
    (held false true false false).supervisor = false ∧ (held false true false false).expired = false := by decide +kernel

theorem wit_PortDeafWhileDeselected : Instr.runPass.clocked = true ∧ State.reset.port.listening = false ∧
    State.reset.Settled := by decide +kernel

/-- A port in the data phase of a read. -/
def reading (c : Cmd) (pos : Nat) (cap : Option (List Byte)) : State :=
  { base with port := { base.port with phase := .data, cmd := some c, readOk := true, outPos := pos, captured := cap } }

theorem wit_BytesMakeCommands : (Instr.suspend [1]).host = some (.suspend, [1], false) ∧ base.Ready ∧
    Cmd.suspend.kind ≠ .field ∧ ([] : List Byte).length < Cmd.suspend.paramsNeeded [] ∧
    (Instr.addDrop [5]).host = some (.addDrop, [5], false) ∧ [(5 : Byte)].length < Cmd.addDrop.paramsNeeded [5] ∧
    Cmd.addDrop.kind ≠ .field ∧ Cmd.setMeter.kind ≠ .field ∧ [(5 : Byte)].length + 1 < Cmd.setMeter.paramsNeeded [5, 1] ∧
    (reading .readPlant 0 none).port.phase = .data := by
  decide +kernel

theorem wit_CommandByteEndsOpenCommand : base.port.listening = true ∧ base.Settled ∧
    ({ base with port := { base.port with phase := .collecting, cmd := some .suspend } } : State).port.phase = .collecting ∧
    ({ base with port := { base.port with phase := .data, cmd := some .readPlant } } : State).port.phase = .data ∧
    Instr.badCommand 0xFF = .badCommand 0xFF := by
  decide +kernel

theorem wit_BytesOfNoCommand : base.Ready ∧ Cmd.ofCode 0x01 = none ∧ Cmd.ofCode 0xFF = none := by decide +kernel

theorem wit_ReadsEnterData : base.Ready ∧ 95 < (96 : Byte).toNat ∧ ¬ 95 < (95 : Byte).toNat ∧ 7 < (8 : Byte).toNat ∧
    ¬ 7 < (7 : Byte).toNat ∧ 30 < (31 : Byte).toNat ∧ (0 : Byte).toNat < 1 := by decide +kernel

theorem wit_ReadReturnsDummyThenData : base.Ready ∧ base.port.selLow = true ∧ Cmd.readPlant ≠ .streamReadTable ∧
    Cmd.readPlant ≠ .readChangedSet := by decide +kernel

theorem wit_ReadReturnsDummyThenData_captured : (reading .readPlant 1 (some [7])).port.listening = true ∧
    (reading .readPlant 1 (some [7])).Settled ∧ (reading .readPlant 1 (some [7])).port.phase = .data ∧
    (reading .readPlant 1 (some [7])).port.cmd = some .readPlant ∧ (reading .readPlant 1 (some [7])).port.readOk = true ∧
    (reading .readPlant 1 (some [7])).port.captured = some [7] ∧ (reading .readPlant 1 (some [7])).port.outPos = 1 := by
  decide +kernel

theorem wit_RecordAndDropImages : base.port.pointer = 0 ∧ base.findDrop 7 30 = none ∧
    served.findDrop 0 30 = some drop30 := by decide +kernel

theorem wit_StatusImages : (base.drives[(0 : Fin 8)].known = false) ∧
    (driven { Drive.reset with state := .idle, known := true }).drives[(0 : Fin 8)].known = true ∧
    (branched { Branch.reset with cascade := true, live := 65535 }).branches[(0 : Fin 8)].cascade = true ∧
    (∀ g, base.att.groupPending g = false) ∧ (base.att.raise .trip).groupPending 0 = true ∧
    (∀ h : Fin 6, (base.att.raise .trip).groupPending h = true → (0 : Fin 6) ≤ h ∧
      (base.att.raise .trip).levels[h] = (base.att.raise .trip).levels[(0 : Fin 6)]) ∧
    (groupCauses 0)[2]? = some .headroomZero := by decide +kernel

theorem wit_StreamsAndChangedSet :
    (reading .streamReadTable 1 none).port.listening = true ∧ (reading .streamReadTable 1 none).Settled ∧
    (reading .streamReadTable 1 none).port.msb = false ∧ (reading .streamReadTable 30 (some [1])).port.captured = some [1] ∧
    (reading .readChangedSet 1 none).port.outPos = 1 ∧ (reading .readChangedSet 12 (some [])).port.captured = some [] ∧
    (reading .readChangedSet 12 (some [])).port.outPos = 12 := by decide +kernel

theorem wit_StreamsAndChangedSet_capture : (reading .readChangedSet 1 none).Settled ∧
    (reading .readChangedSet 1 none).port.captured = none ∧ (reading .readChangedSet 1 none).port.msb = false ∧
    (reading .readChangedSet 1 none).port.listening = true ∧ (reading .readChangedSet 1 none).port.bitCount < 7 ∧
    ({ reading .readChangedSet 1 none with port := { (reading .readChangedSet 1 none).port with selLow := false } } :
      State).port.selLow = false := by decide +kernel

theorem wit_SelAndSckEdges : State.reset.port.selLow = false ∧ State.reset.Settled ∧
    State.reset.port.captureDue = false ∧ base.port.listening = true ∧ base.Settled ∧ base.port.captureDue = false ∧
    base.port.bitCount < 7 ∧ (reading .readPlant 1 none).port.captureDue = true ∧
    (reading .readPlant 1 none).port.msb = false ∧ (reading .readPlant 1 none).port.cmd = some .readPlant ∧
    ({ reading .readPlant 1 none with port := { (reading .readPlant 1 none).port with selLow := false } } :
      State).port.captureDue = true := by decide +kernel

/-- A whole CREATE CONNECTION of two drops. -/
def create : List Byte := [5, 7, 2, 0x17, 0x70, 0x41, 9, 0x60, 0xFF, 0xFF, 2, 30, 1]

theorem wit_CreateConnectionActs : base.Ready ∧ arg create 0 = (5 : Fin 96).val ∧ arg create 1 = (7 : Fin 8).val ∧
    arg create 10 = 2 ∧ create.length = 11 + arg create 10 ∧ base.conns[(5 : Fin 96)].state = .vacant ∧ arg create 2 ≤ 2 ∧
    (∀ x ∈ create.drop 11, 1 ≤ x.toNat ∧ x.toNat ≤ 30) ∧ (create.drop 11).Nodup ∧
    base.drops.length + arg create 10 ≤ 160 := by decide +kernel

theorem wit_CreateConnectionActs_refused :
    ([5, 7, 2, 1, 1, 1, 1, 1, 1, 1, 4] : List Byte).length = 11 ∧ 3 < arg [5, 7, 2, 1, 1, 1, 1, 1, 1, 1, 4] 10 ∧
    95 < arg (create.set 0 96) 0 ∧ served.Ready ∧ served.conns[(0 : Fin 96)].state ≠ .vacant ∧
    7 < arg (create.set 1 8) 1 ∧ (∃ x ∈ (create.set 12 31).drop 11, x.toNat < 1 ∨ 30 < x.toNat) ∧
    ¬ ((create.set 12 30).drop 11).Nodup ∧
    (∃ x ∈ (create.set 1 0).drop 11, ∃ d ∈ served.drops, d.line.val = arg (create.set 1 0) 1 ∧ d.addr = x.toNat) ∧
    160 < ({ base with drops := List.replicate 159 (Drop.fresh 0 9 1 .create) } : State).drops.length + arg create 10 := by
  decide +kernel

theorem wit_EditConnectionActs : served.Ready ∧ ([0, 2, 1, 1, 1, 1, 1, 1, 1, 1, 1] : List Byte).length = 11 ∧
    served.conns[(0 : Fin 96)].state = .active ∧ 95 < (96 : Byte).toNat ∧ base.conns[(95 : Fin 96)].state = .vacant ∧
    2 < (3 : Byte).toNat ∧ (2 : Byte).toNat ≤ 2 := by decide +kernel

theorem wit_SuspendAndResumeAct : served.Ready ∧ 95 < (96 : Byte).toNat ∧ (95 : Byte).toNat = (95 : Fin 96).val ∧
    served.conns[(95 : Fin 96)].state = .vacant ∧ served.conns[(0 : Fin 96)].state = .active ∧
    (held true false true true).state = .suspended ∧ (held true false true true).supervisor = true ∧
    (held true false false true).supervisor = false ∧ (held true false false true).expired = true ∧
    (held true false false false).expired = false ∧ (held false false true true).comms = false ∧
    (held false false true true).lineCause = false ∧ (held false true true true).lineCause = true ∧
    (site (held false false true true) [drop1] .polling .none).Ready := by decide +kernel

theorem wit_RetireConnectionActs : served.Ready ∧ served.conns[(95 : Fin 96)].state = .vacant ∧
    served.conns[(0 : Fin 96)].state = .active ∧ served.lines[conn0.line].state = .polling ∧
    (site conn0 [drop1] .ready .none).lines[conn0.line].state ≠ .polling := by decide +kernel

theorem wit_DropsAddedAndRemoved : served.Ready ∧ served.DemandRight ∧ served.PoolRight ∧
    served.conns[(95 : Fin 96)].state = .vacant ∧ served.conns[(0 : Fin 96)].state = .active ∧ (31 : Byte).toNat = 31 ∧
    (served.dropsOf 0).length = 2 ∧ (∃ d ∈ served.drops, d.line = conn0.line ∧ d.addr = (30 : Byte).toNat) ∧
    (∀ d ∈ served.drops, d.line = conn0.line → d.addr ≠ (2 : Byte).toNat) ∧ served.drops.length < 160 ∧
    drop30 ∈ served.dropsOf 0 ∧ drop30.state ≠ .silent ∧ served.lines[drop30.line].phase = .none := by decide +kernel

theorem wit_DropsAddedAndRemoved_more :
    (site conn0 [drop1] .polling .none).Ready ∧ ((site conn0 [drop1] .polling .none).dropsOf 0).length ≤ 1 ∧
    160 ≤ ({ served with drops := drop1 :: List.replicate 159 (Drop.fresh 1 9 1 .create) } : State).drops.length ∧
    (site conn0 [drop1, drop30] .polling .awaiting).PoolRight ∧
    (site conn0 [drop1, drop30] .polling .awaiting).lines[drop1.line].polled = drop1.addr ∧
    (site conn0 [drop1, drop30] .polling .awaiting).lines[drop1.line].stop = false ∧
    (site conn0 [drop1, drop30] .polling .sending).lines[drop1.line].phase = .sending := by decide +kernel

/-- A PENDING record that keeps a JOINING drop of each origin, and one whose drops left are LIVE. -/
theorem wit_DropsAddedAndRemoved_pending :
    (site { conn0 with state := .pending } [drop1, drop30] .polling .none).Ready ∧
    (site { conn0 with state := .pending } [drop1, drop30] .polling .none).PoolRight ∧
    drop1 ∈ (site { conn0 with state := .pending } [drop1, drop30] .polling .none).dropsOf 0 ∧
    ([drop1, drop30].filter (fun d => d.addr ≠ drop1.addr)) = [drop30] ∧ drop30.state = .live ∧
    (site { conn0 with state := .pending } [drop1, drop30] .ready .none).lines[(0 : Fin 8)].state ≠ .polling ∧
    (site { conn0 with state := .pending } [drop1, Drop.fresh 0 2 0 .create] .polling .none).PoolRight ∧
    (Drop.fresh 0 2 0 .create).state = .joining ∧ (Drop.fresh 0 2 0 .create).origin = .create := by decide +kernel

/-- A SUSPENDED record whose SILENT drop is the one removed, with and without another cause. -/
theorem wit_DropsAddedAndRemoved_suspended :
    (site (held true false false true) [{ drop1 with state := .silent }, drop30] .polling .none).Ready ∧
    (site (held true false false true) [{ drop1 with state := .silent }, drop30] .polling .none).PoolRight ∧
    ({ drop1 with state := .silent } : Drop) ∈
      (site (held true false false true) [{ drop1 with state := .silent }, drop30] .polling .none).dropsOf 0 ∧
    (∀ d ∈ [drop30], d.state ≠ .silent) ∧ drop30.state ≠ .silent ∧ (held true false false true).state = .suspended ∧
    (held true false false true).lineCause = false ∧ (held true false false true).supervisor = false ∧
    (held true true false true).lineCause = true := by decide +kernel

/-- The polled drop removed while it is SILENT, from a SUSPENDED record and from a PENDING one. -/
theorem wit_DropsAddedAndRemoved_cut :
    (site (held true false false true) [{ drop1 with state := .silent }, drop30] .polling .awaiting).Ready ∧
    (site (held true false false true) [{ drop1 with state := .silent }, drop30] .polling .awaiting).PoolRight ∧
    (site { conn0 with state := .pending } [drop1, drop30] .polling .sending).Ready ∧
    (site { conn0 with state := .pending } [drop1, drop30] .polling .sending).PoolRight ∧
    drop1.addr = (site { conn0 with state := .pending } [drop1, drop30] .polling .sending).lines[(0 : Fin 8)].polled ∧
    (site { conn0 with state := .pending } [drop1, drop30] .polling .sending).lines[(0 : Fin 8)].stop = false := by
  decide +kernel

/-- A LOOPBACK line that is sending to the address of the drop removed. -/
theorem wit_DropsAddedAndRemoved_loopback :
    (site conn0 [drop1, drop30] .loopback .sending).Ready ∧ (site conn0 [drop1, drop30] .loopback .sending).PoolRight ∧
    (site conn0 [drop1, drop30] .loopback .sending).lines[drop1.line].state ≠ .polling ∧
    (site conn0 [drop1, drop30] .loopback .sending).lines[drop1.line].polled = drop1.addr ∧
    drop1 ∈ (site conn0 [drop1, drop30] .loopback .sending).dropsOf 0 ∧ conn0.state = .active := by decide +kernel

theorem wit_DropsAddedAndRemoved_full :
    ({ served with drops := drop1 :: List.replicate 159 (Drop.fresh 1 9 1 .create)
                   conns := served.conns.set 0 { conn0 with demand := 60 } } : State).DemandRight := by decide +kernel

theorem wit_ShortfallAndSettings : served.Ready ∧ served.conns[(95 : Fin 96)].state = .vacant ∧
    served.conns[(0 : Fin 96)].lowDt = false ∧
    (site { conn0 with lowDt := true, score := 255 } [drop1] .polling .none).conns[(0 : Fin 96)].lowDt = true ∧
    95 < (96 : Byte).toNat := by decide +kernel

theorem wit_CommsHoldExpires : (site (held true false false false) [drop1] .polling .none).Settled ∧
    (held true false false false).supervisor = false ∧ (held true false false false).expired = false ∧
    (held true false false true).expired = true ∧ conn0.state ≠ .suspended := by decide +kernel

theorem wit_RunPassTakesSnapshot : base.Ready ∧ base.computing = false ∧ base.snapshot.computing = true ∧
    base.snapshot.Ready := by decide +kernel

theorem wit_PassParametersAndIntervalTick : base.Ready ∧ base.Settled ∧
    ({ base with engine := { base.engine with pend := true } } : State).engine.pend = true := by decide +kernel

theorem wit_PassParametersAndIntervalTick_publication :
    ({ served.snapshot with engine := { served.snapshot.engine with pend := true } } : State).Settled ∧
    served.snapshot.engine.snap.isSome = true ∧
    ({ base with now := { base.now with pendTaken := true } } : State).now.pendTaken = true := by decide +kernel

/-- One record of the worked pass, SUSPENDED and expired. -/
def expiredRec : SnapRec := { worked.recs.getD 1 (base.snapRec 0) with expired := true, fallback := some 400 }

theorem wit_ReservationsAndGrantBounds : (worked.recs.map (·.id)).Nodup ∧ worked.listed.Nodup ∧ worked.over = false ∧
    ({ worked with offer := 799 } : Snapshot).over = true ∧ expiredRec.state = .suspended ∧ expiredRec.expired = true ∧
    ({ expiredRec with state := .active, hold := some 0 } : SnapRec).hold = some 0 := by decide +kernel

theorem wit_ClassFillSharesOut : (worked.recs.map (·.id)).Pairwise (· < ·) ∧ worked.listed.Nodup ∧
    worked.classSum 0 ≤ 2800 ∧ 6400 < worked.classSum 1 ∧
    (11, 3764) ∈ worked.classGrants 1 6400 ∧ (17, 2636) ∈ worked.classGrants 1 6400 ∧
    3764 = (5000 : Nat) * 6400 / worked.classSum 1 ∧ 2636 = (3500 : Nat) * 6400 / worked.classSum 1 + 1 := by
  decide +kernel

theorem wit_ClassFillSharesOut_classes : (worked.recs.map (·.id)).Nodup ∧ worked.headroom = 0 ∧
    ({ worked with offer := 40000 } : Snapshot).headroom ≠ 0 ∧ (∃ r ∈ worked.members 0, worked.curtailedIn r = false) ∧
    (∃ r ∈ worked.members 1, worked.curtailedIn r = true) := by decide +kernel

theorem wit_CeilingsWithinBranchLimit : (worked.recs.map (·.id)).Nodup ∧ worked.limitedIn 2 = true ∧
    worked.limitedIn 5 = false ∧ expiredRec.state = .suspended ∧
    (worked.recs.map (·.id)).Pairwise (· < ·) ∧ (worked.actives 2).length = 2 := by decide +kernel

theorem wit_DropSplitsAreWhole : ([drop1, drop30].map (·.addr)).Nodup ∧ (∃ d ∈ [drop1, drop30], d.state = .live) ∧
    0 < demandSum (liveDrops [drop1, drop30]) ∧ (Drop.fresh 0 2 0 .add).state ≠ .live := by decide +kernel

/-- A tie of demands, and no demand at all: address 1 takes the remainder. -/
theorem wit_DropSplitsAreWhole_remainder :
    ([drop1, { drop30 with demand := 60 }].map (·.addr)).Pairwise (· < ·) ∧
    (∀ e ∈ [drop1, { drop30 with demand := 60 }], e.demand < drop1.demand ∨ (e.demand = drop1.demand ∧ drop1.addr ≤ e.addr)) ∧
    demandSum (liveDrops [{ drop1 with demand := 0 }, { drop30 with demand := 0 }]) = 0 ∧
    activeShare 7 [drop1, { drop30 with demand := 60 }] drop1 = 4 ∧
    activeShare 7 [{ drop1 with demand := 0 }, { drop30 with demand := 0 }] { drop1 with demand := 0 } = 4 := by
  decide +kernel

theorem wit_PublicationWritesResults : served.snapshot.Settled ∧ served.snapshot.engine.snap.isSome = true ∧
    (∀ p ∈ served.snapshot.engine.snap, (p.recs.map (·.id)).Nodup ∧
      ∀ r ∈ p.recs, served.snapshot.conns[r.id].gen = r.gen ∧ served.snapshot.conns[r.id].state = r.state ∧
        served.snapshot.conns[r.id].moved = false) ∧ base.engine.snap = none := by decide +kernel

/-- A publication whose rerun pass finds pending set: both clauses speak of the mark in now. -/
theorem wit_PublicationWritesResults_rerun :
    ({ served.snapshot with engine := { served.snapshot.engine with rerun := true, pend := true } } : State).Settled ∧
    served.snapshot.engine.snap.isSome = true ∧ served.snapshot.now.pendTaken = false := by decide +kernel

theorem wit_OffersAndClearTrip : base.Ready ∧ base.plant.level = false ∧
    ({ base with plant := { base.plant with level := true } } : State).plant.level = true := by decide +kernel

theorem wit_TripQualifierAndEdges : base.Settled ∧ base.plant.level = false ∧ true ≠ base.plant.level ∧
    base.plant.run + 1 < 50 ∧ 50 ≤ ({ base.plant with run := 49 } : Plant).run + 1 ∧
    ({ base with plant := { base.plant with level := true } } : State).plant.level = true := by decide +kernel

theorem wit_LevelsAndAcknowledgement : base.Ready ∧ 5 < (6 : Byte).toNat ∧ (5 : Byte).toNat = (5 : Fin 6).val := by
  decide +kernel

theorem wit_SetMeterActs : base.Ready ∧ 7 < (8 : Byte).toNat ∧ (0 : Byte).toNat ≠ 1 ∧ 4 < (5 : Byte).toNat ∧
    (7 : Byte).toNat = (7 : Fin 8).val ∧ (2 : Byte).toNat = 2 ∧ (4 : Byte).toNat = GateMode.openGate.code ∧
    base.branches[(7 : Fin 8)].cascade = false ∧
    (branched { Branch.reset with cascade := true }).branches[(0 : Fin 8)].cascade = true ∧
    ({ base with branches := base.branches.set 7 { Branch.reset with cascade := true } } :
      State).branches[(7 : Fin 8)].cascade = true := by decide +kernel

theorem wit_LimitAndRegulationSettings : base.Ready ∧ 7 < (8 : Byte).toNat ∧ (7 : Byte).toNat = (7 : Fin 8).val := by
  decide +kernel

theorem wit_SetCascadeActs : base.Ready ∧ (1 : Byte).toNat % 2 = 1 ∧ 1 < (2 : Byte).toNat ∧
    base.branches[(6 : Fin 8)].mode ≠ .openGate ∧ (6 : Byte).toNat = (6 : Fin 8).val ∧ (7 : Fin 8).val = (6 : Fin 8).val + 1 ∧
    (branched { Branch.reset with mode := .openGate }).branches[(0 : Fin 8)].mode = .openGate ∧
    (branched { Branch.reset with mode := .openGate }).branches[(0 : Fin 8)].cascade = false ∧
    (branched { Branch.reset with mode := .openGate, cascade := true }).branches[(0 : Fin 8)].cascade = true := by
  decide +kernel

/-- Branch 0 a cascade's lower counter, full. -/
def lowFull : Branch := { Branch.reset with cascade := true, gate := .totalizing, live := 65535 }

/-- The same beside an upper counter, full too. -/
def bothFull : State :=
  { base with branches := (base.branches.set 0 lowFull).set 1 { Branch.reset with cascade := true, live := 65535 } }

theorem wit_MeterEdgesCount :
    (branched { Branch.reset with mode := .openGate, gate := .totalizing }).Settled ∧ Branch.reset.gate = .shut ∧
    Branch.reset.cascade = false ∧ Branch.reset.prescale = 1 ∧ ({ Branch.reset with prescale := 2 } : Branch).prescale ≠ 1 ∧
    ({ Branch.reset with live := 65534 } : Branch).live < 65535 ∧ 65535 ≤ lowFull.live ∧
    ({ lowFull with liveOver := true } : Branch).liveOver = true ∧ Branch.reset.liveOver = false ∧
    (1 : Fin 8).val = (0 : Fin 8).val + 1 ∧ (branched lowFull).branches[(1 : Fin 8)].live < 65535 ∧
    65535 ≤ bothFull.branches[(1 : Fin 8)].live ∧ ({ lowFull with prescale := 2 } : Branch).divider = false ∧
    ({ lowFull with prescale := 2, divider := true } : Branch).prescale ≠ 1 := by
  decide +kernel

theorem wit_GatesOpenAndClose : base.Settled ∧ Branch.reset.gate ≠ .armed ∧ Branch.reset.gate ≠ .counting ∧
    ({ Branch.reset with gate := .armed } : Branch).cascade = false ∧
    ({ Branch.reset with limit := 100, k := 100, mode := .s1, live := 106 } : Branch).measure = 106 ∧
    100 + 100 / 20 < 106 ∧ min 255 (({ Branch.reset with overRun := 1 } : Branch).overRun + 1) < 3 ∧
    3 ≤ min 255 (({ Branch.reset with overRun := 2 } : Branch).overRun + 1) ∧
    ({ Branch.reset with limit := 100, k := 100, mode := .s1, live := 105 } : Branch).measure ≤ 100 + 100 / 20 ∧
    ({ Branch.reset with limit := 100, k := 100, mode := .s1, live := 100, overdrawn := true } : Branch).measure ≤ 100 := by
  decide +kernel

/-- A drive at rest on a position of HALF. -/
def idleAt (p t : Nat) : Drive :=
  { Drive.reset with state := .idle, known := true, coils := true, position := p, target := t, phase := p % 8,
                     encoder := (p * 4 : Nat) }

theorem wit_DriveMovesToTarget : (idleAt 5 5).state = .idle ∧ (idleAt 5 5).position < 6 ∧ 4 < (idleAt 5 5).position ∧
    Drive.reset.state ≠ .idle ∧ (driven { idleAt 5 6 with state := .moving, stepPending := true }).Settled ∧
    (4 : Int) < |({ idleAt 5 6 with encoder := 37, tolerance := 16 } : Drive).encoder - 5 * 4| ∧
    |({ idleAt 5 6 with encoder := 36, tolerance := 16 } : Drive).encoder - 5 * 4| ≤ 16 ∧
    ({ idleAt 5 6 with state := .moving } : Drive).stepPending = false := by decide +kernel

theorem wit_SetValveDriveActs : base.Ready ∧ 7 < (8 : Byte).toNat ∧ 2 < (3 : Byte).toNat ∧
    (7 : Byte).toNat = (7 : Fin 8).val ∧ (2 : Byte).toNat = 2 := by decide +kernel

theorem wit_SetValveDriveActs_moment : moving.Ready ∧ moving.drives[(0 : Fin 8)].state = .moving ∧
    moving.drives[(0 : Fin 8)].position ≠ moving.drives[(0 : Fin 8)].target ∧
    moving.drives[(0 : Fin 8)].stepPending = false ∧ moving.drives[(0 : Fin 8)].rate = 200 ∧
    (0x07 : Byte).toNat * 256 + (0xD0 : Byte).toNat = moving.drives[(0 : Fin 8)].travel ∧
    (moving.noteRestart 0 true).now.restarted[(0 : Fin 8)] = true := by decide +kernel

theorem wit_HomingActs : base.Ready ∧ base.drives[(7 : Fin 8)].target = 0 ∧
    0 < (driven { Drive.reset with target := 1 }).drives[(0 : Fin 8)].target ∧ Drive.reset.state ≠ .homing ∧
    (driven { Drive.reset with state := .homing, homingSteps := 2250 }).Settled ∧
    ({ Drive.reset with homingSteps := 2250 } : Drive).travel + 2000 / 8 ≤ 2250 ∧
    (2249 : Nat) < Drive.reset.travel + Drive.reset.travel / 8 ∧ Drive.reset.phase ≤ 7 ∧
    (driven { Drive.reset with state := .homing, target := 2000 }).Settled ∧ 0 < (2000 : Nat) := by decide +kernel

theorem wit_EncoderSampleActs : base.Settled ∧ Drive.reset.encSeen = false ∧
    ({ Drive.reset with encSeen := true } : Drive).encSeen = true ∧ Drive.reset.state ≠ .fault ∧
    ({ Drive.reset with state := .fault } : Drive).state = .fault ∧
    (false, false, true, false) ∈ [(false, false, true, false), (true, false, true, true), (true, true, false, true),
      (false, true, false, false)] := by decide +kernel

theorem wit_LineInitClearStop : base.Ready ∧ 7 < (8 : Byte).toNat ∧ 4 < (5 : Byte).toNat ∧ 1 < (2 : Byte).toNat ∧
    (7 : Byte).toNat = (7 : Fin 8).val ∧ base.lines[(7 : Fin 8)].state = .down ∧ (4 : Byte).toNat ≤ 4 ∧
    (1 : Byte).toNat ≤ 1 ∧ served.Ready ∧ served.lines[(0 : Fin 8)].state ≠ .down ∧
    (site conn0 [drop1] .polling .receiving).lines[(0 : Fin 8)].phase = .receiving ∧
    (lined { Line.reset with state := .loopback, phase := .sending, stop := true, polled := 30 }).lines[(0 : Fin 8)].polled ≤
      30 ∧ base.lines[(0 : Fin 8)].phase ≠ .sending := by decide +kernel

theorem wit_StartLineActs : base.Ready ∧ base.lines[(7 : Fin 8)].state ≠ .ready ∧
    (site (held false true false true) [drop1] .faulted .none).Ready ∧
    (site (held false true false true) [drop1] .faulted .none).lines[(0 : Fin 8)].mode = .normal ∧
    (lined { Line.reset with state := .ready, mode := .loopback }).lines[(0 : Fin 8)].mode = .loopback ∧
    drop1.closed = false ∧ (∀ e ∈ [drop1], drop1.addr ≤ e.addr) ∧
    [drop1, drop30].Pairwise (fun e f => e.key < f.key) ∧
    (∀ d ∈ base.drops, d.line = 0 → d.closed = true) := by decide +kernel

theorem wit_LeavingPollingSuspends : served.Ready ∧ served.lines[(0 : Fin 8)].state = .polling ∧
    served.lines[(0 : Fin 8)].phase = .none ∧ (site conn0 [drop1] .polling .sending).Settled ∧
    (site conn0 [drop1] .polling .sending).lines[(0 : Fin 8)].phase = .sending ∧
    (site conn0 [drop1] .faulted .none).lines[(0 : Fin 8)].state = .faulted ∧
    (0 : Byte).toNat = (0 : Fin 8).val := by decide +kernel

theorem wit_SelectionPollsNextDrop : served.Settled ∧ served.PoolRight ∧ served.lines[(0 : Fin 8)].phase = .none ∧
    (∃ d ∈ served.drops, d.line = 0 ∧ d.closed = false) ∧ served.lines[(0 : Fin 8)].spaceLeft = 0 ∧
    served.lines[(0 : Fin 8)].assembling = false ∧ served.lines[(0 : Fin 8)].walk < drop30.addr ∧
    (∀ e ∈ served.drops, e.addr ≤ 1 ∨ drop30.addr ≤ e.addr) ∧
    (∀ e ∈ (site conn0 [drop1] .polling .spacing).drops, e.addr ≤ 1 ∧ drop1.addr ≤ e.addr) ∧
    (site conn0 [drop1] .polling .spacing).lines[(0 : Fin 8)].phase = .spacing ∧
    (site conn0 [drop1] .polling .spacing).PoolRight ∧ base.PoolRight ∧
    (lined { Line.reset with state := .loopback, phase := .spacing, walk := 30 }).lines[(0 : Fin 8)].walk = 30 ∧
    (lined { Line.reset with state := .polling, phase := .spacing, assembling := true }).lines[(0 : Fin 8)].assembling =
      true := by decide +kernel

theorem wit_PollSentActs : (site conn0 [drop1] .polling .sending).Settled ∧
    (site conn0 [drop1] .polling .sending).lines[(0 : Fin 8)].cut = false ∧
    (lined { Line.reset with state := .polling, phase := .sending, cut := true }).lines[(0 : Fin 8)].cut = true ∧
    (lined { Line.reset with state := .loopback, phase := .sending, polled := 30 }).lines[(0 : Fin 8)].polled ≤ 30 ∧
    crcGood [0xC5, 6, 0x31, 0, 30, 0, 0, 0, 0, 0] = false ∧ base.lines[(0 : Fin 8)].phase ≠ .sending := by decide +kernel

theorem wit_PollSentActs_stop :
    (lined { Line.reset with state := .loopback, phase := .sending, polled := 30, stop := true }).lines[(0 : Fin 8)].stop =
      true ∧ completeFrame [0xC5, 6, 0x31] = false := by decide +kernel

/-- A REPORT of drop 1 on line 0: demand 300, 7.0 and 12.4 degrees, flow 100. -/
def report1 : List Byte := frameOf [13, 0x32, 0, 1, 1, 44, 0, 70, 0, 124, 0, 100, 88, 0]

/-- The site with its line awaiting the reply of drop 1. -/
def awaiting (c : Conn) (ds : List Drop) : State := site c ds .polling .awaiting

theorem wit_ReportStoredAndScored : (awaiting conn0 [drop1, drop30]).Settled ∧ (awaiting conn0 [drop1, drop30]).PoolRight ∧
    (awaiting conn0 [drop1, drop30]).lines[(0 : Fin 8)].stop = false ∧ drop1 ∈ (awaiting conn0 [drop1, drop30]).drops ∧
    drop1.addr = (awaiting conn0 [drop1, drop30]).lines[(0 : Fin 8)].polled ∧ drop1.state = .live ∧
    conn0.state = .active ∧ (awaiting (held true false false false) [drop1, drop30]).PoolRight ∧
    (awaiting { conn0 with state := .retiring } [drop1, drop30]).PoolRight ∧ drop1.mode ≠ some .close := by decide +kernel

theorem wit_ReportMakesDropLive :
    (awaiting { conn0 with state := .pending } [Drop.fresh 0 1 0 .create, Drop.fresh 0 2 0 .add]).PoolRight ∧
    (awaiting { conn0 with state := .pending } [Drop.fresh 0 1 0 .create]).Settled ∧
    completeFrame report1 = true ∧ crcGood report1 = true ∧ arg report1 1 = 13 ∧ arg report1 2 = 0x32 ∧
    arg report1 3 = (0 : Fin 8).val ∧ arg report1 4 = 1 ∧ (Drop.fresh 0 2 0 .create).origin = .create ∧
    (awaiting (held true false false true) [{ drop1 with state := .silent }]).PoolRight ∧
    (held true false false true).lineCause = false ∧ (held true true false true).lineCause = true := by decide +kernel

/-- A JOINING drop of an ACTIVE record reports. -/
theorem wit_ReportMakesDropLive_active : (awaiting conn0 [Drop.fresh 0 1 0 .add, drop30]).Settled ∧
    (awaiting conn0 [Drop.fresh 0 1 0 .add, drop30]).PoolRight ∧
    Drop.fresh 0 1 0 .add ∈ (awaiting conn0 [Drop.fresh 0 1 0 .add, drop30]).drops ∧
    (Drop.fresh 0 1 0 .add).state ≠ .live ∧ conn0.state = .active ∧
    (awaiting conn0 [Drop.fresh 0 1 0 .add, drop30]).lines[(0 : Fin 8)].stop = false := by decide +kernel

theorem wit_MissesSilenceAndFault : (awaiting conn0 [{ drop1 with missed := 2 }, drop30]).PoolRight ∧
    (awaiting conn0 [drop1, drop30]).Settled ∧ conn0.state ≠ .retiring ∧ drop1.missed ≠ 2 ∧
    (site conn0 [drop1] .polling .receiving).lines[(0 : Fin 8)].phase = .receiving ∧
    completeFrame (report1.set 6 0) = true ∧ crcGood (report1.set 6 0) = false ∧
    ({ Line.reset with bad := 7 } : Line).bad + 1 = 8 ∧ Line.reset.bad + 1 < 8 ∧
    (awaiting (held true false false false) [{ drop1 with missed := 2 }]).PoolRight ∧
    (lined { Line.reset with state := .polling, phase := .receiving }).lines[(0 : Fin 8)].respLeft = 0 ∧
    completeFrame (pollFrame 0 1 .hold 5) = true ∧ crcGood (pollFrame 0 1 .hold 5) = true ∧
    arg (pollFrame 0 1 .hold 5) 2 ≠ 0x32 := by decide +kernel

theorem wit_ClosePollsVacateRecord :
    (awaiting { conn0 with state := .retiring } [{ drop1 with mode := some .close, closePolls := 1 }]).PoolRight ∧
    (awaiting { conn0 with state := .retiring } [{ drop1 with mode := some .close }, drop30]).PoolRight ∧
    (awaiting { conn0 with state := .retiring } [drop1]).Settled ∧ drop30.closed = false ∧ crcGood report1 = true ∧
    (awaiting { conn0 with state := .retiring } [drop1]).lines[(0 : Fin 8)].bad < 7 := by
  decide +kernel

/-- A RETIRING record whose one drop had a CLOSE poll, being polled again: a frame comes in and the response timer has
run out. -/
def overdue : State :=
  { site { conn0 with state := .retiring } [{ drop1 with mode := some .close, closePolls := 1 }] .polling .receiving with
    lines := base.lines.set 0 { Line.reset with state := .polling, phase := .receiving, polled := 1, assembling := true } }

/-- A CLOSE poll missed by a stray frame, the response timer having run out. -/
theorem wit_ClosePollsVacateRecord_stray : overdue.Settled ∧ overdue.PoolRight ∧
    overdue.lines[(0 : Fin 8)].respLeft = 0 ∧ overdue.lines[(0 : Fin 8)].stop = false ∧
    ({ drop1 with mode := some .close, closePolls := 1 } : Drop) ∈ overdue.drops ∧
    completeFrame (pollFrame 0 1 .hold 5) = true ∧ crcGood (pollFrame 0 1 .hold 5) = true ∧
    arg (pollFrame 0 1 .hold 5) 2 ≠ 0x32 := by decide +kernel

theorem wit_FramesOutsideExchangeCount : served.Settled ∧ base.lines[(0 : Fin 8)].state ≠ .polling ∧
    served.lines[(0 : Fin 8)].phase ≠ .awaiting ∧ served.lines[(0 : Fin 8)].due = false ∧
    (awaiting conn0 [drop1]).lines[(0 : Fin 8)].respLeft = 9 ∧ completeFrame (pollFrame 0 1 .hold 5) = true ∧
    crcGood (pollFrame 0 1 .hold 5) = true ∧ arg (pollFrame 0 1 .hold 5) 2 ≠ 0x32 ∧ arg report1 2 = 0x32 ∧
    crcGood (report1.set 6 0) = false ∧ served.lines[(0 : Fin 8)].assembling = false ∧
    (lined { Line.reset with state := .polling, assembling := true }).lines[(0 : Fin 8)].assembling = true := by
  decide +kernel

theorem wit_FramesOutsideExchangeCount_waiting :
    (lined { Line.reset with state := .polling, phase := .spacing, due := true, assembling := true }).Settled ∧
    (lined { Line.reset with state := .polling, phase := .none, due := true, assembling := true }).lines[(0 : Fin 8)].due =
      true := by decide +kernel

/-- The site with a stop pending. -/
def stopping (c : Conn) (ds : List Drop) (x : Line) : State :=
  { site c ds .polling .awaiting with lines := base.lines.set 0 { x with state := .polling, stop := true, polled := 1 } }

theorem wit_StopPendingEndsExchange : (stopping conn0 [drop1, drop30] { Line.reset with phase := .awaiting }).Settled ∧
    (stopping conn0 [drop1, drop30] { Line.reset with phase := .awaiting }).PoolRight ∧
    drop1 ∈ (stopping conn0 [drop1, drop30] { Line.reset with phase := .awaiting }).drops ∧
    (stopping conn0 [drop1, drop30] { Line.reset with phase := .receiving, assembling := true }).lines[(0 : Fin 8)].bad < 7 ∧
    completeFrame report1 = true ∧ crcGood report1 = true ∧ crcGood (report1.set 6 0) = false ∧
    (stopping conn0 [drop1, drop30] { Line.reset with phase := .receiving }).lines[(0 : Fin 8)].respLeft = 0 ∧
    arg (pollFrame 0 1 .hold 5) 2 ≠ 0x32 := by decide +kernel

theorem wit_StopPendingEndsExchange_cut :
    (stopping conn0 [drop1, drop30] { Line.reset with phase := .sending, cut := true }).Settled ∧
    (stopping conn0 [drop1, drop30] { Line.reset with phase := .receiving }).Ready ∧
    (stopping conn0 [drop1, drop30] { Line.reset with phase := .receiving }).PoolRight ∧
    ((stopping conn0 [drop1, drop30] { Line.reset with phase := .receiving }).dropsOf 0).length = 2 ∧
    (∃ d ∈ (stopping conn0 [drop1, drop30] { Line.reset with phase := .receiving }).dropsOf 0, d.addr = 1) := by
  decide +kernel

theorem wit_EveryStepSettlesAtn : served.Settled := by decide +kernel

theorem wit_EveryStepKeepsUnitSets : (served.att.raiseUnit .lineFaulted 7).UnitsRight ∧ served.att.UnitsRight := by
  decide +kernel

theorem wit_EveryStepKeepsSuspension :
    ∀ id : Fin 96, served.conns[id].SuspensionRight ∧ served.conns[id].StandingRight := by decide +kernel

/-- A pass in flight over the one record. -/
theorem wit_EveryStepKeepsGrants : served.snapshot.GrantsRight := by
  constructor
  · decide +kernel
  · intro p hp
    have hs : served.snapshot.engine.snap = some
        { recs := [served.snapRec 0], offer := 0, ramp := 20, limits := Vector.replicate 8 65535, listed := [] } := by
      decide +kernel
    rw [hs] at hp
    cases hp
    decide +kernel

/-- The record on the list, no pass in flight. -/
def listed : State := { served with engine := { served.engine with curtail := [{ id := 0, cls := 1, pass := 1 }] } }

theorem wit_EveryStepKeepsCurtailmentList : listed.GrantsRight ∧ listed.ListRight := by
  refine ⟨⟨by decide +kernel, ?_⟩, by decide +kernel, by decide +kernel, ?_⟩ <;> (intro p hp; cases hp)

theorem wit_EveryStepKeepsPoolAndDemand : served.PoolRight ∧ served.DemandRight := by decide +kernel

theorem wit_EveryStepKeepsDrives : (driven (idleAt 2000 2000)).DrivesRight := by decide +kernel

theorem wit_EveryStepKeepsMeters :
    ({ bothFull with branches := bothFull.branches.set 0 { lowFull with mode := .openGate } } : State).MetersRight := by
  decide +kernel

theorem wit_EveryStepKeepsLines : ∀ l : Fin 8, (awaiting conn0 [drop1]).lines[l].Right := by decide +kernel

end Sys2Proof.Tests
end

section
/-! PROOFS. What an event can do to the records, the drop pool and the snapshot, said once: the moves of a single record, and
the laws of the few operations on the pool and the snapshot. A claim about these that keeps each of them holds after every
step. -/

namespace Sys2Proof.Machine

/-! ## Reading a record back after a write -/

/-- A vector of records read after one of them was written. -/
theorem getElem_set_fin {α : Type} {n : Nat} (v : Vector α n) (i j : Fin n) (x : α) :
    (v.set i x)[j] = if i = j then x else v[j] := by
  by_cases h : i = j
  · subst h; simp
  · have hv : (i : Nat) ≠ (j : Nat) := fun e => h (Fin.ext e)
    simp [h, hv]

/-- Two changes of one record are one. -/
theorem State.modConn_modConn (s : State) (id : Fin 96) (f g : Conn → Conn) :
    (s.modConn id f).modConn id g = s.modConn id (fun c => g (f c)) := by
  simp [State.modConn]

/-- The drops of a connection are the slots that name it. -/
@[simp] theorem State.mem_dropsOf {s : State} {id : Fin 96} {d : Drop} : d ∈ s.dropsOf id ↔ d ∈ s.drops ∧ d.conn = id := by
  simp [State.dropsOf]

/-- Records, drop pool and snapshot are the same. -/
def State.SameRecords (s t : State) : Prop := t.conns = s.conns ∧ t.drops = s.drops ∧ t.engine.snap = s.engine.snap

theorem State.SameRecords.refl (s : State) : s.SameRecords s := ⟨rfl, rfl, rfl⟩

theorem State.SameRecords.trans {s t u : State} (h : s.SameRecords t) (k : t.SameRecords u) : s.SameRecords u :=
  ⟨k.1.trans h.1, k.2.1.trans h.2.1, k.2.2.trans h.2.2⟩

/-! ## The moves of one record -/

/-- A record suspended by its first cause (01 R15). -/
def Conn.suspendedBy (c : Conn) (cause : SuspendCause) (hold : Nat) : Conn :=
  { c.addCause cause with
    state := .suspended, curtailed := false, ramp := false, expired := false, holdLeft := hold, moved := true }

/-- A record returned to ACTIVE (01 R18). -/
def Conn.returned (c : Conn) : Conn :=
  { c with
    state := .active
    granted := if c.expired then fallbackPower c.sub c.dt c.fallback else c.granted
    ceiling := if c.expired then c.fallback.getD 0 else c.ceiling
    expired := false, holdLeft := 0, moved := true }

/-- A record in RETIRING (01 R20). -/
def Conn.retired (c : Conn) : Conn :=
  { c with
    state := .retiring, comms := false, lineCause := false, supervisor := false, expired := false, holdLeft := 0,
    granted := 0, ceiling := 0, curtailed := false, ramp := false, demand := 0, moved := true }

/-- What an event can do to one record, besides its demand, its creation, its return to VACANT and the results of a pass. -/
inductive Conn.Move (c : Conn) : Conn → Prop
  | standing (score : Nat) (low : Bool) (h : c.StandingRight → score ≤ 255 ∧ (low = true → 0 < score)) :
      Conn.Move c { c with score := score, lowDt := low }
  | gain (cause : SuspendCause) (h : c.state = .suspended) : Conn.Move c (c.addCause cause)
  | suspend (cause : SuspendCause) (hold : Nat) (h : c.state = .active) : Conn.Move c (c.suspendedBy cause hold)
  | expire (h : c.state = .suspended) : Conn.Move c { c with expired := true, holdLeft := 0, moved := true }
  | holdRun (n : Nat) (h : c.state = .suspended) : Conn.Move c { c with holdLeft := n }
  | lose (cause : SuspendCause) (h : c.state = .suspended) (hc : (c.dropCause cause).noCause = false) :
      Conn.Move c (c.dropCause cause)
  | resume (cause : SuspendCause) (h : c.state = .suspended) (hc : (c.dropCause cause).noCause = true) :
      Conn.Move c (c.dropCause cause).returned
  | serve (h : c.state = .pending) : Conn.Move c { c with state := .active, granted := 0, ceiling := 0, moved := true }
  | retire (h : c.refuses = false) : Conn.Move c c.retired
  | touch : Conn.Move c { c with moved := true }
  | uncurtail : Conn.Move c { c with curtailed := false, ramp := false }
  | editClass (v : Nat) : Conn.Move c { c with cls := v, moved := true }
  | editSub (w : Nat) : Conn.Move c { c with sub := w, granted := min c.granted w, moved := true }
  | editDt (w : Nat) : Conn.Move c { c with dt := w, moved := true }
  | editMax (w : Nat) : Conn.Move c
      { c with maxFlow := w, fallback := c.fallback.map (fun f => min f w), ceiling := min c.ceiling w, moved := true }
  | editFallback (f : Option Nat) (h : f.getD 0 ≤ c.maxFlow) : Conn.Move c { c with fallback := f, moved := true }
  | editHold (o : Option Nat) : Conn.Move c { c with hold := o, moved := true }

/-! ## The laws -/

/-- A claim about the records, the drop pool and the snapshot that every operation on them keeps. `P none` is the claim;
`P (some id)` is the claim without what it says of the demand of record `id`, which a drop's change leaves behind until the
demand is recomputed (06 R120). -/
structure RecordLaw (P : Option (Fin 96) → State → Prop) : Prop where
  frame : ∀ {x s t}, P x s → s.SameRecords t → P x t
  weaken : ∀ {x s}, P none s → P x s
  move : ∀ {x s} {id : Fin 96} {c : Conn}, Conn.Move s.conns[id] c → P x s → P x { s with conns := s.conns.set id c }
  /-- Slots changed in neither place, connection, state nor demand. -/
  mapDrops : ∀ {x s} {f : Drop → Drop},
    (∀ d, (f d).line = d.line ∧ (f d).addr = d.addr ∧ (f d).conn = d.conn ∧ (f d).state = d.state ∧
      (f d).demand = d.demand) → P x s → P x { s with drops := s.drops.map f }
  /-- One slot of a connection changed in any way that leaves it in its place. -/
  modDrop : ∀ {x s} {d : Drop} {f : Drop → Drop}, d ∈ s.drops → x = some d.conn ∨ s.conns[d.conn].state = .retiring →
    (∀ e, (f e).line = e.line ∧ (f e).addr = e.addr ∧ (f e).conn = e.conn) → P x s → P x (s.modDrop d.line d.addr f)
  recompute : ∀ {s} {id : Fin 96} {noted}, s.conns[id].state ≠ .retiring →
    (s.conns[id].state = .vacant → ∃ d ∈ s.drops, d.conn = id) → P (some id) s → P none (s.recompute id noted)
  takeSlot : ∀ {s} {id : Fin 96} {addr}, s.conns[id].refuses = false → badAddr addr = false → (s.dropsOf id).length < 3 →
    s.findDrop s.conns[id].line addr = none → s.freeSlots ≠ 0 → P none s →
    P (some id) (s.takeSlot (Drop.fresh s.conns[id].line addr id .add))
  freeSlot : ∀ {s} {id : Fin 96} {d}, d ∈ s.dropsOf id → 2 ≤ (s.dropsOf id).length → P none s →
    P (some id) (s.freeSlot d.line d.addr)
  create : ∀ {s a} {id : Fin 96} {l : Fin 8}, createRefused s a id = none → arg a 1 = l.val →
    1 ≤ (createAddrs a).length → (createAddrs a).length ≤ 3 → P none s → P none (s.create a id l)
  vacate : ∀ {x s} {id : Fin 96}, s.conns[id].state = .retiring → P x s →
    P x ((s.freeSlotsOf id).modConn id (fun c => Conn.vacant c.gen))
  snapshot : ∀ {s}, P none s → P none s.snapshot
  dropSnap : ∀ {s}, P none s → P none { s with engine := { s.engine with snap := none } }
  results : ∀ {s p}, s.engine.snap = some p → P none s →
    P none { ((s.written p).foldl (State.writeRec p) s) with engine := { s.engine with snap := none } }
  reset : ∀ trip selLow, P none (State.afterReset trip selLow)

/-! ## Operations that leave records, pool and snapshot alone -/

section SameRecords

theorem State.capture_same (s : State) : s.SameRecords s.capture := by
  unfold State.capture
  split <;> exact ⟨rfl, rfl, rfl⟩

theorem State.placeMsb_same (s : State) : s.SameRecords s.placeMsb := by
  unfold State.placeMsb
  split
  · exact .refl s
  · split
    · exact s.capture_same.trans ⟨rfl, rfl, rfl⟩
    · exact ⟨rfl, rfl, rfl⟩

theorem State.byteDone_same (s : State) : s.SameRecords s.byteDone := s.placeMsb_same.trans ⟨rfl, rfl, rfl⟩

theorem State.endOpen_same (s : State) : s.SameRecords s.endOpen := by
  unfold State.endOpen
  split <;> exact ⟨rfl, rfl, rfl⟩

theorem State.selectPort_same (s : State) : s.SameRecords s.selectPort := by
  unfold State.selectPort
  split
  · exact .refl s
  · exact State.SameRecords.trans (t := s.modPort _) ⟨rfl, rfl, rfl⟩ ((State.placeMsb_same _).trans ⟨rfl, rfl, rfl⟩)

theorem State.fallingEdge_same (s : State) (rose : Option Bool) : s.SameRecords (s.fallingEdge rose) := by
  unfold State.fallingEdge
  split
  · split
    · exact s.placeMsb_same.trans ⟨rfl, rfl, rfl⟩
    · split
      · exact s.placeMsb_same.trans ⟨rfl, rfl, rfl⟩
      · exact .refl s
  · exact .refl s

theorem State.releasePort_same (s : State) : s.SameRecords s.releasePort := ⟨rfl, rfl, rfl⟩

theorem State.deassertTrip_same (s : State) : s.SameRecords s.deassertTrip := ⟨rfl, rfl, rfl⟩

theorem State.compareDemand_same (s : State) (id : Fin 96) (old : Nat) : s.SameRecords (s.compareDemand id old) := by
  unfold State.compareDemand
  split <;> exact ⟨rfl, rfl, rfl⟩

theorem State.setLatch_same (s : State) (l : Fin 8) : s.SameRecords (s.setLatch l) := by
  unfold State.setLatch
  dsimp only
  split <;> exact ⟨rfl, rfl, rfl⟩

theorem State.stepExpires_same (s : State) (n : Fin 8) : s.SameRecords (s.stepExpires n) := by
  unfold State.stepExpires
  split
  · split <;> exact ⟨rfl, rfl, rfl⟩
  · exact .refl s

theorem State.encoderSample_same (s : State) (n : Fin 8) (a b : Bool) : s.SameRecords (s.encoderSample n a b) := by
  unfold State.encoderSample
  dsimp only
  split
  · exact ⟨rfl, rfl, rfl⟩
  · split
    · split <;> exact ⟨rfl, rfl, rfl⟩
    · split <;> exact ⟨rfl, rfl, rfl⟩

theorem State.homingExpires_same (s : State) (n : Fin 8) (home : Bool) : s.SameRecords (s.homingExpires n home) := by
  unfold State.homingExpires
  split
  · dsimp only
    split
    · exact ⟨rfl, rfl, rfl⟩
    · split <;> exact ⟨rfl, rfl, rfl⟩
  · exact .refl s

theorem State.homeValve_same (s : State) (n : Fin 8) (home : Bool) : s.SameRecords (s.homeValve n home) := by
  unfold State.homeValve
  dsimp only
  split <;> exact ⟨rfl, rfl, rfl⟩

theorem State.overrange_same (s : State) (n : Fin 8) : s.SameRecords (s.overrange n) := by
  unfold State.overrange
  split <;> exact ⟨rfl, rfl, rfl⟩

theorem State.countEdge_same (s : State) (n : Fin 8) : s.SameRecords (s.countEdge n) := by
  unfold State.countEdge
  split
  · unfold State.countCascade
    split
    · exact ⟨rfl, rfl, rfl⟩
    · split
      · exact ⟨rfl, rfl, rfl⟩
      · exact s.overrange_same n
  · unfold State.countPlain
    split
    · exact ⟨rfl, rfl, rfl⟩
    · exact s.overrange_same n

theorem State.edge_same (s : State) (n : Fin 8) : s.SameRecords (s.edge n) := by
  unfold State.edge
  dsimp only
  split
  · exact State.SameRecords.trans (t := s.modBranch n Branch.divide) ⟨rfl, rfl, rfl⟩ (State.countEdge_same _ n)
  · exact ⟨rfl, rfl, rfl⟩

theorem State.meterEdge_same (s : State) (n : Fin 8) : s.SameRecords (s.meterEdge n) := by
  unfold State.meterEdge
  split
  · exact .refl s
  · split
    · exact s.edge_same n
    · exact s.edge_same n
    · exact .refl s

theorem State.gateStart_same (s : State) (n : Fin 8) (high : Bool) : s.SameRecords (s.gateStart n high) := by
  unfold State.gateStart
  split
  · dsimp only
    split
    · exact State.SameRecords.trans (t := s.modBranch n _) ⟨rfl, rfl, rfl⟩ (State.edge_same _ n)
    · exact ⟨rfl, rfl, rfl⟩
  · exact .refl s

theorem State.trimClosed_same (s : State) (n : Fin 8) : s.SameRecords (s.trimClosed n) := by
  unfold State.trimClosed
  dsimp only
  split <;> exact ⟨rfl, rfl, rfl⟩

theorem State.regulate_same (s : State) (n : Fin 8) : s.SameRecords (s.regulate n) := by
  have ht : ∀ f, s.SameRecords (s.modBranch n f) := fun _ => ⟨rfl, rfl, rfl⟩
  unfold State.regulate
  dsimp only
  split
  · split
    · exact (ht _).trans (State.trimClosed_same _ n)
    · exact ht _
  · split
    · exact ht _
    · split
      · exact ⟨rfl, rfl, rfl⟩
      · exact ht _

theorem State.gateClose_same (s : State) (n : Fin 8) : s.SameRecords (s.gateClose n) := by
  unfold State.gateClose
  split
  · exact State.SameRecords.trans (t := s.modBranch n Branch.closeGate) ⟨rfl, rfl, rfl⟩ (State.regulate_same _ n)
  · exact .refl s

theorem State.setMeter_same (s : State) (n : Fin 8) (k prescale : Nat) (mode : GateMode) :
    s.SameRecords (s.setMeter n k prescale mode) := by
  unfold State.setMeter
  dsimp only
  split
  · split <;> exact ⟨rfl, rfl, rfl⟩
  · exact ⟨rfl, rfl, rfl⟩

theorem State.setLimit_same (s : State) (n : Fin 8) (limit : Nat) : s.SameRecords (s.setLimit n limit) := by
  unfold State.setLimit
  dsimp only
  split <;> exact ⟨rfl, rfl, rfl⟩

theorem State.offerTrigger_same (s : State) (old new : Nat) : s.SameRecords (s.offerTrigger old new) := by
  unfold State.offerTrigger
  split
  · exact ⟨rfl, rfl, rfl⟩
  · split <;> exact ⟨rfl, rfl, rfl⟩

theorem State.setOffer_same (s : State) (v : Nat) : s.SameRecords (s.setOffer v) :=
  State.SameRecords.trans (t := { s with plant := _ }) ⟨rfl, rfl, rfl⟩ (State.offerTrigger_same _ _ _)

theorem State.setEmergency_same (s : State) (v : Nat) : s.SameRecords (s.setEmergency v) :=
  State.SameRecords.trans (t := { s with plant := _ }) ⟨rfl, rfl, rfl⟩ (State.offerTrigger_same _ _ _)

theorem State.writeBranch_same (p : Snapshot) (s : State) (b : Fin 8) : s.SameRecords (State.writeBranch p s b) := by
  unfold State.writeBranch
  dsimp only
  split <;> exact ⟨rfl, rfl, rfl⟩

theorem State.writeBranches_same (p : Snapshot) (bs : List (Fin 8)) (s : State) :
    s.SameRecords (bs.foldl (State.writeBranch p) s) := by
  induction bs generalizing s with
  | nil => exact .refl s
  | cons b bs ih => exact (State.writeBranch_same p s b).trans (ih _)

theorem State.publishCauses_same (s : State) (p : Snapshot) : s.SameRecords (s.publishCauses p) := by
  unfold State.publishCauses
  dsimp only
  split <;> split <;> exact ⟨rfl, rfl, rfl⟩

end SameRecords

end Sys2Proof.Machine
end

section
/-! PROOFS. Every step keeps a claim that the laws of the records keep: the operations in the order of the model's files, up
to `step`. -/

namespace Sys2Proof.Machine

namespace RecordLaw

variable {P : Option (Fin 96) → State → Prop}

/-! ## The life of a connection -/

theorem modConn (h : RecordLaw P) {x s} {id : Fin 96} {f : Conn → Conn} (hm : Conn.Move s.conns[id] (f s.conns[id]))
    (hs : P x s) : P x (s.modConn id f) := h.move hm hs

theorem modDrops (h : RecordLaw P) {x s} {p : Drop → Bool} {f : Drop → Drop}
    (hf : ∀ d, (f d).line = d.line ∧ (f d).addr = d.addr ∧ (f d).conn = d.conn ∧ (f d).state = d.state ∧
      (f d).demand = d.demand) (hs : P x s) : P x (s.modDrops p f) := by
  refine h.mapDrops (fun d => ?_) hs
  by_cases hp : p d = true
  · simpa only [hp, if_true] using hf d
  · simp only [hp, Bool.false_eq_true, if_false, and_self]

theorem setLowDt (h : RecordLaw P) {x s} {id : Fin 96} {b : Bool}
    (hb : s.conns[id].StandingRight → b = true → 0 < s.conns[id].score) (hs : P x s) : P x (s.setLowDt id b) :=
  h.frame (h.modConn (f := fun c => { c with lowDt := b }) (.standing _ b fun k => ⟨k.1, hb k⟩) hs) ⟨rfl, rfl, rfl⟩

theorem clearStanding (h : RecordLaw P) {x s} {id : Fin 96} (hs : P x s) : P x (s.clearStanding id) := by
  unfold State.clearStanding
  dsimp only
  split
  · refine h.modConn (.standing 0 _ fun _ => ⟨by omega, ?_⟩) (h.setLowDt (by simp) hs)
    simp [State.setLowDt]
  · next hl =>
    exact h.modConn (.standing 0 _ fun _ => ⟨by omega, fun k => absurd k hl⟩) hs

theorem expireHold (h : RecordLaw P) {x s} {id : Fin 96} (hst : s.conns[id].state = .suspended) (hs : P x s) :
    P x (s.expireHold id) :=
  h.frame (s := (s.modConn id _).fallbackSplit id)
    (h.modDrops (fun _ => ⟨rfl, rfl, rfl, rfl, rfl⟩) (h.modConn (.expire hst) hs)) ⟨rfl, rfl, rfl⟩

theorem enterSuspended (h : RecordLaw P) {x s} {id : Fin 96} {cause} (hst : s.conns[id].state = .active) (hs : P x s) :
    P x (s.enterSuspended id cause) := by
  have ht := h.modConn (f := fun c => c.suspendedBy cause s.holdSetting) (.suspend cause s.holdSetting hst) hs
  unfold State.enterSuspended
  dsimp only
  split
  · refine h.expireHold ?_ (h.frame ht ⟨rfl, rfl, rfl⟩)
    simp [State.reportChange]
  · exact h.frame ht ⟨rfl, rfl, rfl⟩

theorem gainCause (h : RecordLaw P) {x s} {id : Fin 96} {cause} (hs : P x s) : P x (s.gainCause id cause) := by
  unfold State.gainCause
  split
  · next hst => exact h.enterSuspended hst hs
  · next hst => exact h.modConn (.gain cause hst) hs
  · exact hs

theorem loseCause (h : RecordLaw P) {x s} {id : Fin 96} {cause} (hs : P x s) : P x (s.loseCause id cause) := by
  unfold State.loseCause
  split
  · next hst =>
    dsimp only
    split
    · next hc =>
      rw [State.modConn_get_self] at hc
      refine h.frame (h.modConn (f := fun c => (c.dropCause cause).returned) (.resume cause hst hc) hs) ?_
      rw [← State.modConn_modConn]
      exact ⟨rfl, rfl, rfl⟩
    · next hc =>
      rw [State.modConn_get_self, Bool.not_eq_true] at hc
      exact h.modConn (.lose cause hst hc) hs
  · exact hs

theorem enterActive (h : RecordLaw P) {x s} {id : Fin 96} (hst : s.conns[id].state = .pending) (hs : P x s) :
    P x (s.enterActive id) := by
  have hc := h.modConn (f := fun c => { c with state := .active, granted := 0, ceiling := 0, moved := true })
    (.serve hst) hs
  have ht := h.modDrops (p := fun d => d.conn == id) (f := fun d => { d with share := 0 })
    (fun _ => ⟨rfl, rfl, rfl, rfl, rfl⟩) hc
  unfold State.enterActive
  dsimp only
  split
  · exact h.frame ht ⟨rfl, rfl, rfl⟩
  · exact h.gainCause (h.frame ht ⟨rfl, rfl, rfl⟩)

theorem testService (h : RecordLaw P) {x s} {id : Fin 96} (hs : P x s) : P x (s.testService id) := by
  unfold State.testService
  split
  · next hc => exact h.enterActive hc.1 hs
  · exact hs

theorem testComms (h : RecordLaw P) {x s} {id : Fin 96} (hs : P x s) : P x (s.testComms id) := by
  unfold State.testComms
  split
  · exact hs
  · exact h.loseCause hs

theorem vacantIfClosed (h : RecordLaw P) {x s} {id : Fin 96} (hst : s.conns[id].state = .retiring) (hs : P x s) :
    P x (s.vacantIfClosed id) := by
  unfold State.vacantIfClosed
  split
  · exact h.frame (h.vacate hst hs) ⟨rfl, rfl, rfl⟩
  · exact hs

theorem closeDrop (h : RecordLaw P) {x s l addr} {id : Fin 96} (hst : s.conns[id].state = .retiring) (hs : P x s) :
    P x (s.closeDrop l addr id) :=
  h.vacantIfClosed hst (h.modDrops (fun _ => ⟨rfl, rfl, rfl, rfl, rfl⟩) hs)

theorem closeAll (h : RecordLaw P) {x s} {id : Fin 96} (hst : s.conns[id].state = .retiring) (hs : P x s) :
    P x (s.closeAll id) :=
  h.vacantIfClosed hst (h.modDrops (fun _ => ⟨rfl, rfl, rfl, rfl, rfl⟩) hs)

theorem clearStanding_refuses (s : State) (id : Fin 96) : (s.clearStanding id).conns[id].refuses = s.conns[id].refuses := by
  unfold State.clearStanding
  dsimp only
  split <;> simp [State.setLowDt, Conn.refuses]

theorem retire (h : RecordLaw P) {x s} {id : Fin 96} (hst : s.conns[id].refuses = false) (hs : P x s) :
    P x (s.retire id) := by
  have h1 : P x ((s.clearStanding id).leaveList id) := h.frame (h.clearStanding hs) ⟨rfl, rfl, rfl⟩
  have h2 := h.modConn (s := (s.clearStanding id).leaveList id) (f := Conn.retired)
    (.retire ((clearStanding_refuses s id).trans hst)) h1
  have h3 := h.modDrops (p := fun d => d.conn == id) (f := fun d => { d with share := 0 })
    (fun _ => ⟨rfl, rfl, rfl, rfl, rfl⟩) h2
  unfold State.retire
  dsimp only
  split
  · exact h.frame h3 ⟨rfl, rfl, rfl⟩
  · refine h.closeAll ?_ (h.frame h3 ⟨rfl, rfl, rfl⟩)
    simp [State.reportChange, State.modDropsOf]

theorem lineLost (h : RecordLaw P) {x s l} {id : Fin 96} (hs : P x s) : P x (State.lineLost l s id) := by
  unfold State.lineLost
  split
  · split
    · exact h.gainCause hs
    · exact h.gainCause hs
    · next hst => exact h.closeAll hst hs
    · exact hs
  · exact hs

theorem lineBack (h : RecordLaw P) {x s l} {id : Fin 96} (hs : P x s) : P x (State.lineBack l s id) := by
  unfold State.lineBack
  split
  · exact h.loseCause hs
  · exact hs

theorem leavePolling (h : RecordLaw P) {x s l} (hs : P x s) : P x (s.leavePolling l) :=
  State.leavePolling_keeps (fun _ _ => h.lineLost) s hs

theorem enterPolling (h : RecordLaw P) {x s l} (hs : P x s) : P x (s.enterPolling l) :=
  State.enterPolling_keeps (fun _ _ => h.lineBack) s hs

/-! ## Reports and misses -/

theorem scoreReport (h : RecordLaw P) {x s} {id : Fin 96} {r} (hs : P x s) : P x (s.scoreReport id r) := by
  unfold State.scoreReport
  dsimp only
  split
  · exact hs
  · split
    · have ht := h.modConn (id := id) (f := fun c => { c with score := satSucc 255 c.score })
        (.standing _ _ fun _ => by simp only [satSucc]; omega) hs
      split
      · refine h.setLowDt (fun _ _ => ?_) ht
        rw [State.modConn_get_self]
        simp only [satSucc]
        omega
      · exact ht
    · split
      · rw [State.setLowDt, State.modConn_modConn]
        have ht := h.modConn (id := id) (f := fun c => { c with score := c.score - 1, lowDt := false })
          (.standing _ false fun k => ⟨(Nat.sub_le _ _).trans k.1, by simp⟩) hs
        exact h.frame ht ⟨rfl, rfl, rfl⟩
      · next hn =>
        refine h.modConn (.standing _ _ fun k => ⟨(Nat.sub_le _ _).trans k.1, fun hl => ?_⟩) hs
        have := k.2 hl
        have : s.conns[id].score ≠ 1 := fun e => hn ⟨e, hl⟩
        omega

/-- A slot in use at an address, with the connection it belongs to. -/
def HasSlot (s : State) (l : Fin 8) (addr : Nat) (id : Fin 96) : Prop :=
  ∃ d ∈ s.drops, d.line = l ∧ d.addr = addr ∧ d.conn = id

theorem dropBecomes (h : RecordLaw P) {s l addr} {id : Fin 96} {st} (hd : HasSlot s l addr id) (hs : P (some id) s) :
    P (some id) (s.dropBecomes l addr id st) := by
  obtain ⟨d, hm, rfl, rfl, rfl⟩ := hd
  exact h.frame (h.modDrop (f := fun d => { d with state := st }) hm (.inl rfl) (fun _ => ⟨rfl, rfl, rfl⟩) hs) ⟨rfl, rfl, rfl⟩

/-- A change of slots that leaves each in its place. -/
theorem HasSlot.modDrops {s l addr} {id : Fin 96} (hd : HasSlot s l addr id) {p : Drop → Bool} {f : Drop → Drop}
    (hf : ∀ e, (f e).line = e.line ∧ (f e).addr = e.addr ∧ (f e).conn = e.conn) :
    HasSlot (s.modDrops p f) l addr id := by
  obtain ⟨d, hm, hl, ha, hc⟩ := hd
  refine ⟨if p d then f d else d, List.mem_map_of_mem hm, ?_⟩
  split
  · simp only [hf, hl, ha, hc, and_self]
  · exact ⟨hl, ha, hc⟩

theorem HasSlot.exists_mem {s l addr} {id : Fin 96} (hd : HasSlot s l addr id) : ∃ d ∈ s.drops, d.conn = id := by
  obtain ⟨d, hm, _, _, hc⟩ := hd
  exact ⟨d, hm, hc⟩

theorem applyReport (h : RecordLaw P) {s d noted r} (hd : HasSlot s d.line d.addr d.conn)
    (hn : s.conns[d.conn].state ≠ .retiring) (hs : P (some d.conn) s) : P none (s.applyReport d noted r) := by
  have hlive : P none ((if d.state != .live then s.dropBecomes d.line d.addr d.conn .live else s).recompute d.conn noted) := by
    split
    · exact h.recompute (s := s.dropBecomes d.line d.addr d.conn .live) hn
        (fun _ => HasSlot.exists_mem (hd.modDrops (p := fun e => e.line == d.line && e.addr == d.addr)
          (f := fun e => { e with state := .live }) fun _ => ⟨rfl, rfl, rfl⟩)) (h.dropBecomes hd hs)
    · exact h.recompute hn (fun _ => hd.exists_mem) hs
  unfold State.applyReport
  dsimp only
  generalize (if d.state != .live then s.dropBecomes d.line d.addr d.conn .live else s).recompute d.conn noted = t at hlive
  have hscore : P none (if noted = .active then t.scoreReport d.conn r else t) := by
    split
    · exact h.scoreReport hlive
    · exact hlive
  split
  · split
    · exact h.testService hscore
    · split
      · exact h.testComms hscore
      · exact hscore
  · exact hscore

theorem hasSlot_of_findDrop {s : State} {l addr d} (hd : s.findDrop l addr = some d) : HasSlot s l addr d.conn := by
  have hp := List.find?_some hd
  simp only [Bool.and_eq_true, beq_iff_eq] at hp
  exact ⟨d, List.mem_of_find?_eq_some hd, hp.1, hp.2, rfl⟩

/-- The slot found at an address stands there. -/
theorem findDrop_place {s : State} {l addr d} (hd : s.findDrop l addr = some d) : d ∈ s.drops ∧ d.line = l ∧ d.addr = addr := by
  have hp := List.find?_some hd
  simp only [Bool.and_eq_true, beq_iff_eq] at hp
  exact ⟨List.mem_of_find?_eq_some hd, hp⟩

theorem takeReport (h : RecordLaw P) {s l addr r} (hs : P none s) : P none (s.takeReport l addr r) := by
  unfold State.takeReport
  split
  · exact hs
  · next d hd =>
    obtain ⟨hm, rfl, rfl⟩ := findDrop_place hd
    dsimp only
    split
    · next hn =>
      have ht := h.modDrop (f := fun d => d.store r) hm (.inr hn) (fun _ => ⟨rfl, rfl, rfl⟩) hs
      split
      · exact h.closeDrop hn ht
      · exact ht
    · next hn =>
      refine h.applyReport ?_ hn (h.modDrop hm (.inl rfl) (fun _ => ⟨rfl, rfl, rfl⟩) (h.weaken hs))
      exact (hasSlot_of_findDrop hd).modDrops fun _ => ⟨rfl, rfl, rfl⟩

theorem takeMiss (h : RecordLaw P) {s l addr} (hs : P none s) : P none (s.takeMiss l addr) := by
  unfold State.takeMiss
  split
  · exact hs
  · next d hd =>
    obtain ⟨hm, rfl, rfl⟩ := findDrop_place hd
    split
    · next hn =>
      unfold State.closeMiss
      split
      · have ht := h.modDrops (p := fun e => e.line == d.line && e.addr == d.addr)
          (f := fun e => { e with closePolls := min 2 (e.closePolls + 1) }) (fun _ => ⟨rfl, rfl, rfl, rfl, rfl⟩) hs
        dsimp only
        split
        · exact h.closeDrop hn ht
        · exact ht
      · exact hs
    · next hn =>
      have hf : ∀ e : Drop, ({ e with missed := satSucc 255 e.missed } : Drop).line = e.line ∧ _ ∧ _ :=
        fun e => ⟨rfl, Eq.refl e.addr, Eq.refl e.conn⟩
      have ht := h.modDrops (p := fun e => e.line == d.line && e.addr == d.addr)
        (f := fun e => { e with missed := satSucc 255 e.missed }) (fun _ => ⟨rfl, rfl, rfl, rfl, rfl⟩) hs
      have hslot := (hasSlot_of_findDrop hd).modDrops (p := fun e => e.line == d.line && e.addr == d.addr) hf
      unfold State.countMiss
      dsimp only
      split
      · have hr : P none (((s.modDrop d.line d.addr (fun e => { e with missed := satSucc 255 e.missed })).dropBecomes
            d.line d.addr d.conn .silent).recompute d.conn s.conns[d.conn].state) :=
          h.recompute (s := (s.modDrop d.line d.addr _).dropBecomes d.line d.addr d.conn .silent) hn
            (fun _ => HasSlot.exists_mem (hslot.modDrops (p := fun e => e.line == d.line && e.addr == d.addr)
              (f := fun e => { e with state := .silent }) fun _ => ⟨rfl, rfl, rfl⟩))
            (h.dropBecomes hslot (h.weaken ht))
        split
        · exact h.gainCause hr
        · exact hr
      · exact ht

end RecordLaw
end Sys2Proof.Machine
end

section
/-! PROOFS. Every step keeps a claim that the laws of the records keep: lines, passes and the commands of the host. -/

namespace Sys2Proof.Machine
namespace RecordLaw

variable {P : Option (Fin 96) → State → Prop}

/-! ## Lines -/

theorem modLine (h : RecordLaw P) {x s} {l : Fin 8} {f} (hs : P x s) : P x (s.modLine l f) :=
  h.frame hs ⟨rfl, rfl, rfl⟩

theorem lineGoes (h : RecordLaw P) {x s l st} (hs : P x s) : P x (s.lineGoes l st) := by
  unfold State.lineGoes
  dsimp only
  split
  · exact h.leavePolling (h.modLine hs)
  · exact h.modLine hs

theorem lineFaults (h : RecordLaw P) {x s l} (hs : P x s) : P x (s.lineFaults l) :=
  h.frame (h.lineGoes (l := l) (st := .faulted) hs) ⟨rfl, rfl, rfl⟩

theorem takeStop (h : RecordLaw P) {x s l} (hs : P x s) : P x (s.takeStop l) := by
  unfold State.takeStop
  split
  · exact h.lineGoes hs
  · exact hs

theorem pollDrop (h : RecordLaw P) {x s l d wrap} (hs : P x s) : P x (s.pollDrop l d wrap) := by
  unfold State.pollDrop State.modDrop
  exact h.modLine (h.modDrops (fun _ => ⟨rfl, rfl, rfl, rfl, rfl⟩) hs)

theorem select (h : RecordLaw P) {x s l} (hs : P x s) : P x (s.select l) := by
  unfold State.select
  split
  · unfold State.selectPolling
    split
    · exact h.pollDrop hs
    · split
      · exact h.pollDrop hs
      · exact h.modLine hs
  · exact h.modLine hs
  · exact hs

theorem selectOrWait (h : RecordLaw P) {x s l} (hs : P x s) : P x (s.selectOrWait l) := by
  unfold State.selectOrWait
  split
  · exact h.modLine hs
  · exact h.select hs

theorem selectIfDue (h : RecordLaw P) {x s l} (hs : P x s) : P x (s.selectIfDue l) := by
  unfold State.selectIfDue
  split
  · exact h.select hs
  · exact hs

theorem endReport (h : RecordLaw P) {s l r} (hs : P none s) : P none (s.endReport l r) :=
  h.takeStop (h.takeReport (h.modLine hs))

theorem endMiss (h : RecordLaw P) {s l spoiled} (hs : P none s) : P none (s.endMiss l spoiled) := by
  unfold State.endMiss
  dsimp only
  generalize (if spoiled then min 8 (s.lines[l].bad + 1) else 0) = bad
  split
  · exact h.lineFaults (h.takeMiss (h.modLine hs))
  · exact h.takeStop (h.takeMiss (h.modLine hs))

theorem cutExchange (h : RecordLaw P) {x s l addr} (hs : P x s) : P x (s.cutExchange l addr) := by
  unfold State.cutExchange
  dsimp only
  split
  · split
    · exact h.modLine hs
    · split
      · exact h.takeStop (h.modLine hs)
      · exact hs
  · exact hs

theorem crcFailure (h : RecordLaw P) {s l} (hs : P none s) : P none (s.crcFailure l) := by
  have ht : P none ((s.modLine l (fun x => { x with crcCount := satSucc 65535 x.crcCount })).setLatch l) :=
    h.frame (h.modLine hs) (State.setLatch_same _ l)
  unfold State.crcFailure
  dsimp only
  split
  · exact h.endMiss ht
  · exact h.selectIfDue ht

theorem strayInExchange (h : RecordLaw P) {s l} (hs : P none s) : P none (s.strayInExchange l) := by
  unfold State.strayInExchange
  dsimp only
  split
  · exact h.modLine (h.modLine hs)
  · exact h.endMiss (h.modLine hs)

theorem frameIn (h : RecordLaw P) {s l bytes} (hs : P none s) : P none (s.frameIn l bytes) := by
  unfold State.frameIn
  split
  · dsimp only
    split
    · exact h.crcFailure (h.modLine hs)
    · split
      · split
        · exact h.endReport (h.modLine hs)
        · exact h.strayInExchange (h.modLine hs)
      · exact h.selectIfDue (h.modLine (h.modLine hs))
  · exact hs

theorem frameBreaks (h : RecordLaw P) {s l} (hs : P none s) : P none (s.frameBreaks l) := by
  unfold State.frameBreaks
  dsimp only
  split
  · exact h.endMiss (h.modLine hs)
  · exact h.selectIfDue (h.modLine hs)

theorem checkEcho (h : RecordLaw P) {x s l echo} (hs : P x s) : P x (s.checkEcho l echo) := by
  unfold State.checkEcho
  dsimp only
  split
  · exact h.takeStop (h.modLine (h.modLine hs))
  · refine h.takeStop (h.modLine ?_)
    exact h.frame (h.frame (h.modLine hs) (State.setLatch_same _ l)) ⟨rfl, rfl, rfl⟩

theorem pollOut (h : RecordLaw P) {x s l} (hs : P x s) : P x (s.pollOut l) := by
  unfold State.pollOut
  split
  · exact h.takeStop (h.modLine hs)
  · exact h.modLine hs

theorem startLine (h : RecordLaw P) {x s l} (hs : P x s) : P x (s.startLine l) := by
  have ht := h.modDrops (p := fun d => d.line == l) (f := fun d => { d with missed := 0 })
    (fun _ => ⟨rfl, rfl, rfl, rfl, rfl⟩) (h.modLine (l := l) (f := fun x => { x.quiet with bad := 0, walk := 0 }) hs)
  unfold State.startLine
  dsimp only
  split
  · exact h.select (h.enterPolling (h.modLine ht))
  · exact h.select (h.modLine ht)

theorem stopLine (h : RecordLaw P) {x s l} (hs : P x s) : P x (s.stopLine l) := by
  unfold State.stopLine
  dsimp only
  split
  · exact h.modLine hs
  · exact h.lineGoes hs

theorem resetLine (h : RecordLaw P) {x s l} (hs : P x s) : P x (s.resetLine l) := by
  unfold State.resetLine
  dsimp only
  split
  · exact h.leavePolling (h.modLine hs)
  · exact h.modLine hs

theorem responseExpires (h : RecordLaw P) {s l} (hs : P none s) : P none (s.responseExpires l) := by
  unfold State.responseExpires
  split
  · exact h.endMiss (h.modLine hs)
  · exact h.modLine hs
  · exact hs

theorem spacingEnds (h : RecordLaw P) {x s l} (hs : P x s) : P x (s.spacingEnds l) := by
  unfold State.spacingEnds
  split
  · exact h.selectOrWait (h.modLine hs)
  · exact hs

theorem idleSelects (h : RecordLaw P) {x s l} (hs : P x s) : P x (s.idleSelects l) := by
  unfold State.idleSelects
  split
  · exact h.selectOrWait hs
  · exact hs

/-! ## The engine and the plant -/

theorem startOrRerun (h : RecordLaw P) {s} (hs : P none s) : P none s.startOrRerun := by
  unfold State.startOrRerun
  split
  · exact h.frame hs ⟨rfl, rfl, rfl⟩
  · exact h.snapshot hs

theorem finish (h : RecordLaw P) {s} (hs : P none s) : P none s.finish := by
  unfold State.finish
  dsimp only
  split
  · exact h.frame (h.startOrRerun (s := { s with urgent := false }) (h.frame hs ⟨rfl, rfl, rfl⟩)) ⟨rfl, rfl, rfl⟩
  · exact h.frame hs ⟨rfl, rfl, rfl⟩

theorem tripAssertion (h : RecordLaw P) {s} (hs : P none s) : P none s.tripAssertion := by
  unfold State.tripAssertion
  refine h.snapshot ?_
  split
  · exact h.frame (h.dropSnap hs) ⟨rfl, rfl, rfl⟩
  · exact hs

theorem assertTrip (h : RecordLaw P) {s} (hs : P none s) : P none s.assertTrip :=
  h.tripAssertion (h.frame hs ⟨rfl, rfl, rfl⟩)

theorem sampleTrip (h : RecordLaw P) {s asserted} (hs : P none s) : P none (s.sampleTrip asserted) := by
  unfold State.sampleTrip
  split
  · exact h.frame hs ⟨rfl, rfl, rfl⟩
  · split
    · exact h.frame hs ⟨rfl, rfl, rfl⟩
    · split
      · exact h.assertTrip hs
      · exact h.frame hs ⟨rfl, rfl, rfl⟩

theorem intervalTick (h : RecordLaw P) {s} (hs : P none s) : P none s.intervalTick := by
  have ht : P none ({ s with engine := { s.engine with counter := 0 } }.notePendTaken false) :=
    h.frame hs ⟨rfl, rfl, rfl⟩
  unfold State.intervalTick
  dsimp only
  split
  · exact h.startOrRerun ht
  · exact ht

theorem publish (h : RecordLaw P) {s} (hs : P none s) : P none s.publish := by
  unfold State.publish
  split
  · next p hp =>
    have hr := h.results hp hs
    unfold State.publishPass State.afterPublish
    dsimp only
    generalize ht : ((List.finRange 8).foldl (State.writeBranch p) _).publishCauses p = t
    have hsame := (State.writeBranches_same p (List.finRange 8)
      { (s.written p).foldl (State.writeRec p) s with
        engine := ((s.written p).foldl (State.writeRec p) s).engine.results p (s.written p) }).trans
        (State.publishCauses_same _ p)
    rw [ht] at hsame
    have hq : P none { t with engine := { t.engine with snap := none, passMs := 0 } } :=
      h.frame hr ⟨hsame.1, hsame.2.1, rfl⟩
    split
    · exact h.frame (h.snapshot hq) ⟨rfl, rfl, rfl⟩
    · exact h.frame hq ⟨rfl, rfl, rfl⟩
  · exact hs

/-! ## Whole commands -/

theorem withId (s : State) (n : Nat) {k : Fin 96 → State × Result} (hs : P none s) (hk : ∀ id, P none (k id).1) :
    P none (withId s n k).1 := by
  unfold Machine.withId
  split
  · exact hk _
  · exact hs

theorem withUnit (s : State) (n : Nat) {k : Fin 8 → State × Result} (hs : P none s)
    (hk : ∀ u : Fin 8, n = u.val → P none (k u).1) : P none (withUnit s n k).1 := by
  unfold Machine.withUnit
  split
  · exact hk _ rfl
  · exact hs

theorem withGroup (s : State) (n : Nat) {k : Fin 6 → State × Result} (hs : P none s) (hk : ∀ g, P none (k g).1) :
    P none (withGroup s n k).1 := by
  unfold Machine.withGroup
  split
  · exact hk _
  · exact hs

theorem doCreateConnection (h : RecordLaw P) {s a} (h1 : 1 ≤ (createAddrs a).length) (h3 : (createAddrs a).length ≤ 3)
    (hs : P none s) : P none (doCreateConnection a s).1 := by
  refine RecordLaw.withId s _ hs fun id => ?_
  split
  · exact hs
  · next hc => exact RecordLaw.withUnit s _ hs fun l hl => h.create hc hl h1 h3 hs

theorem suspendConn (h : RecordLaw P) {x s} {id : Fin 96} (hs : P x s) : P x (s.suspendConn id) := by
  unfold State.suspendConn
  split
  · exact h.gainCause hs
  · next hst =>
    split
    · exact hs
    · have ht : P x (s.modConn id (fun c => { c.addCause .supervisor with moved := true })) := by
        have hg := h.modConn (f := fun c => c.addCause .supervisor) (.gain .supervisor hst) hs
        have ht := h.modConn (id := id) (f := fun c => { c with moved := true }) .touch hg
        rwa [State.modConn_modConn] at ht
      dsimp only
      split
      · exact ht
      · exact h.expireHold (by simpa [Conn.addCause] using hst) ht
  · exact hs

theorem doSuspend (h : RecordLaw P) {s a} (hs : P none s) : P none (doSuspend a s).1 := by
  refine RecordLaw.withId s _ hs fun id => ?_
  split
  · exact h.suspendConn hs
  · exact hs

theorem doResume (h : RecordLaw P) {s a} (hs : P none s) : P none (doResume a s).1 := by
  refine RecordLaw.withId s _ hs fun id => ?_
  split
  · dsimp only
    split
    · exact h.loseCause hs
    · exact hs
  · exact hs

theorem doRetireConnection (h : RecordLaw P) {s a} (hs : P none s) : P none (doRetireConnection a s).1 := by
  refine RecordLaw.withId s _ hs fun id => ?_
  split
  · exact hs
  · next hr => exact h.retire (Bool.not_eq_true _ ▸ hr) hs

/-- A connection that is not refused is not RETIRING. -/
theorem not_retiring_of_refuses {c : Conn} (h : c.refuses = false) : c.state ≠ .retiring := by
  intro hr
  simp [Conn.refuses, hr] at h

/-- A connection that is not refused is not VACANT. -/
theorem not_vacant_of_refuses {c : Conn} (h : c.refuses = false) : c.state ≠ .vacant := by
  intro hv
  simp [Conn.refuses, hv] at h

theorem addDropTo (h : RecordLaw P) {s} {id : Fin 96} {addr} (hr : s.conns[id].refuses = false) (ha : badAddr addr = false)
    (hn : (s.dropsOf id).length < 3) (hf : s.findDrop s.conns[id].line addr = none) (hfree : s.freeSlots ≠ 0)
    (hs : P none s) : P none (s.addDropTo id addr) := by
  have ht := h.takeSlot hr ha hn hf hfree hs
  refine h.frame (h.recompute (noted := s.conns[id].state) ?_ ?_ ht) ⟨rfl, rfl, rfl⟩
  · exact not_retiring_of_refuses hr
  · exact fun hv => absurd hv (not_vacant_of_refuses hr)

theorem doAddDrop (h : RecordLaw P) {s a} (hs : P none s) : P none (doAddDrop a s).1 := by
  refine RecordLaw.withId s _ hs fun id => ?_
  split
  · exact hs
  · next hr =>
    split
    · exact hs
    · next hb =>
      split
      · exact hs
      · next hf =>
        split
        · exact hs
        · next hfree =>
          simp only [Bool.or_eq_true, decide_eq_true_eq, not_or, Bool.not_eq_true, not_le] at hb
          simp only [Bool.not_eq_true, Option.isSome_eq_false_iff, Option.isNone_iff_eq_none] at hf
          exact h.addDropTo (Bool.not_eq_true _ ▸ hr) hb.1 hb.2 hf hfree hs

/-- A cause gained leaves a connection in service or out of it. -/
theorem gainCause_refuses (s : State) (i j : Fin 96) (cause : SuspendCause) :
    (s.gainCause i cause).conns[j].refuses = s.conns[j].refuses := by
  by_cases hij : i = j
  · subst hij
    unfold State.gainCause
    split
    · next hst =>
      have hr : s.conns[i].refuses = false := by rw [Conn.refuses, hst]; rfl
      rw [hr]
      unfold State.enterSuspended
      dsimp only
      split <;> simp [Conn.refuses, State.expireHold, State.fallbackSplit, State.modDropsOf, State.reportChange]
    · cases cause <;> simp [Conn.refuses, Conn.addCause]
    · rfl
  · rw [State.gainCause_conn_other _ hij]

/-- A line that leaves POLLING refuses no connection that was not refused before. -/
theorem lineLost_refuses {l : Fin 8} {s : State} {i j : Fin 96} (hj : s.conns[j].refuses = false) :
    (State.lineLost l s i).conns[j].refuses = false := by
  unfold State.lineLost
  split
  · split
    · rw [gainCause_refuses, hj]
    · rw [gainCause_refuses, hj]
    · next hst =>
      have hij : i ≠ j := by
        rintro rfl
        exact not_retiring_of_refuses hj hst
      rw [State.closeAll_conn_other hij, hj]
    · exact hj
  · exact hj

/-- An exchange that is cut refuses no connection that was not refused before. -/
theorem cutExchange_refuses {s : State} {l : Fin 8} {addr : Nat} {id : Fin 96} (hr : s.conns[id].refuses = false) :
    (s.cutExchange l addr).conns[id].refuses = false := by
  unfold State.cutExchange State.takeStop State.lineGoes
  dsimp only
  split
  · split
    · exact hr
    · split
      · split
        · split
          · exact State.leavePolling_keeps (P := fun t => t.conns[id].refuses = false) (fun _ _ => lineLost_refuses) _ hr
          · exact hr
        · exact hr
      · exact hr
  · exact hr

theorem removeDropFrom (h : RecordLaw P) {s} {id : Fin 96} {d} (hr : s.conns[id].refuses = false) (hd : d ∈ s.dropsOf id)
    (hn : 2 ≤ (s.dropsOf id).length) (hs : P none s) : P none (s.removeDropFrom id d) := by
  have hcut : P (some id) ((s.freeSlot d.line d.addr).cutExchange d.line d.addr) := h.cutExchange (h.freeSlot hd hn hs)
  have hcr : ((s.freeSlot d.line d.addr).cutExchange d.line d.addr).conns[id].refuses = false := cutExchange_refuses hr
  unfold State.removeDropFrom
  dsimp only
  generalize (s.freeSlot d.line d.addr).cutExchange d.line d.addr = t at hcut hcr
  have hrec : P none (t.recompute id t.conns[id].state) :=
    h.recompute (not_retiring_of_refuses hcr) (fun hv => absurd hv (not_vacant_of_refuses hcr)) hcut
  generalize t.recompute id t.conns[id].state = u at hrec
  have hcomms : P none (if d.state = .silent then u.testComms id else u) := by
    split
    · exact h.testComms hrec
    · exact hrec
  generalize (if d.state = .silent then u.testComms id else u) = v at hcomms
  split
  · exact h.frame (h.modConn (f := fun c => { c with moved := true }) .touch (h.testService (id := id) hcomms)) ⟨rfl, rfl, rfl⟩
  · exact h.frame (h.testService (id := id) hcomms) ⟨rfl, rfl, rfl⟩

theorem doRemoveDrop (h : RecordLaw P) {s a} (hs : P none s) : P none (doRemoveDrop a s).1 := by
  refine RecordLaw.withId s _ hs fun id => ?_
  split
  · exact hs
  · next hr =>
    split
    · exact hs
    · next d hd =>
      split
      · exact hs
      · next hn => exact h.removeDropFrom (Bool.not_eq_true _ ▸ hr) (List.mem_of_find?_eq_some hd) (by omega) hs

theorem doClearShortfall (h : RecordLaw P) {s a} (hs : P none s) : P none (doClearShortfall a s).1 := by
  refine RecordLaw.withId s _ hs fun id => ?_
  split
  · exact hs
  · exact h.clearStanding hs

theorem doClearTrip (h : RecordLaw P) {s} (hs : P none s) : P none (doClearTrip s).1 := by
  unfold Machine.doClearTrip
  split
  · exact hs
  · exact h.frame hs ⟨rfl, rfl, rfl⟩

theorem doLineInit (h : RecordLaw P) {s a} (hs : P none s) : P none (doLineInit a s).1 := by
  refine RecordLaw.withUnit s _ hs fun l _ => ?_
  split
  · exact hs
  · split
    · exact h.frame hs ⟨rfl, rfl, rfl⟩
    · exact hs

theorem doStartLine (h : RecordLaw P) {s a} (hs : P none s) : P none (doStartLine a s).1 := by
  refine RecordLaw.withUnit s _ hs fun l _ => ?_
  split
  · exact h.startLine hs
  · exact hs

theorem doStopLine (h : RecordLaw P) {s a} (hs : P none s) : P none (doStopLine a s).1 := by
  refine RecordLaw.withUnit s _ hs fun l _ => ?_
  split
  · exact hs
  · exact h.stopLine hs

theorem doSetMeter (h : RecordLaw P) {s a} (hs : P none s) : P none (doSetMeter a s).1 := by
  refine RecordLaw.withUnit s _ hs fun n _ => ?_
  split
  · exact hs
  · split
    · exact hs
    · split
      · exact hs
      · exact h.frame hs (State.setMeter_same _ _ _ _ _)

theorem doSetCascade (h : RecordLaw P) {s a} (hs : P none s) : P none (doSetCascade a s).1 := by
  refine RecordLaw.withUnit s _ hs fun n _ => ?_
  split
  · exact hs
  · split
    · exact hs
    · split
      · split
        · exact h.frame hs ⟨rfl, rfl, rfl⟩
        · exact hs
      · split
        · exact h.frame hs ⟨rfl, rfl, rfl⟩
        · exact hs

theorem doSetValveDrive (h : RecordLaw P) {s a} (hs : P none s) : P none (doSetValveDrive a s).1 := by
  refine RecordLaw.withUnit s _ hs fun n _ => ?_
  split
  · exact hs
  · exact h.frame hs ⟨rfl, rfl, rfl⟩

/-- The parameter bytes of a whole command that has them all: CREATE CONNECTION names one to three drops. -/
theorem createAddrs_length_of_complete {a : List Byte} (hb : badDropCount .createConnection a = false)
    (hn : a.length = Cmd.paramsNeeded .createConnection a) : 1 ≤ (createAddrs a).length ∧ (createAddrs a).length ≤ 3 := by
  have hlen : (createAddrs a).length = a.length - 11 := by simp [createAddrs]
  simp only [Cmd.paramsNeeded] at hn
  split at hn
  · omega
  · split at hn
    · next hv =>
      simp only [validDropCount, Bool.and_eq_true, decide_eq_true_eq] at hv
      omega
    · next hv =>
      have hv' : validDropCount (a.getD 10 0).toNat = false := Bool.not_eq_true _ ▸ hv
      simp only [badDropCount, hn, hv', beq_self_eq_true, Bool.not_false, Bool.and_self] at hb
      cases hb

theorem wholeAct (h : RecordLaw P) {s c a home}
    (hc : c = .createConnection → 1 ≤ (createAddrs a).length ∧ (createAddrs a).length ≤ 3) (hs : P none s) :
    P none (wholeAct c a home s).1 := by
  cases c
  case createConnection => exact h.doCreateConnection (hc rfl).1 (hc rfl).2 hs
  case suspend => exact h.doSuspend hs
  case resume => exact h.doResume hs
  case retireConnection => exact h.doRetireConnection hs
  case addDrop => exact h.doAddDrop hs
  case removeDrop => exact h.doRemoveDrop hs
  case setStreamPointer => exact RecordLaw.withId s _ hs fun id => h.frame hs ⟨rfl, rfl, rfl⟩
  case clearShortfall => exact h.doClearShortfall hs
  case setEmergencyOffer => exact h.frame hs (State.setEmergency_same _ _)
  case clearTrip => exact h.doClearTrip hs
  case lineInit => exact h.doLineInit hs
  case startLine => exact h.doStartLine hs
  case stopLine => exact h.doStopLine hs
  case lineReset => exact RecordLaw.withUnit s _ hs fun l _ => h.resetLine hs
  case clearLineErrors => exact RecordLaw.withUnit s _ hs fun l _ => h.modLine hs
  case setMeter => exact h.doSetMeter hs
  case setBranchLimit => exact RecordLaw.withUnit s _ hs fun n _ => h.frame hs (State.setLimit_same _ _ _)
  case setCascade => exact h.doSetCascade hs
  case setValveDrive => exact h.doSetValveDrive hs
  case homeValve => exact RecordLaw.withUnit s _ hs fun n _ => h.frame hs (State.homeValve_same _ _ _)
  case ackAttention => exact RecordLaw.withGroup s _ hs fun g => h.frame hs ⟨rfl, rfl, rfl⟩
  case setGroupLevel => exact RecordLaw.withGroup s _ hs fun g => h.frame hs ⟨rfl, rfl, rfl⟩
  all_goals exact h.frame hs ⟨rfl, rfl, rfl⟩

/-! ## Field commands -/

theorem edited (h : RecordLaw P) {s} {id : Fin 96} {f : Conn → Conn}
    (hm : Conn.Move s.conns[id] { f s.conns[id] with moved := true }) (hs : P none s) : P none (s.edited id f) :=
  h.frame (h.modConn (f := fun c => { f c with moved := true }) hm hs) ⟨rfl, rfl, rfl⟩

/-- A fallback field lies within the maximum flow (01 R24). -/
theorem fallbackField_le (v m : Nat) : (fallbackField v m).getD 0 ≤ m := by
  unfold fallbackField
  cases optField v with
  | none => simp
  | some f => exact Nat.min_le_right f m

theorem editField (h : RecordLaw P) {s pos f t e} (hf : editField pos f s = some (t, e)) (hs : P none s) : P none t := by
  have key : ∀ r : State × FieldEnd, P none r.1 → some r = some (t, e) → P none t := by
    rintro r hr he
    cases he
    exact hr
  unfold Machine.editField at hf
  split at hf
  · refine key _ ?_ hf
    unfold editId
    split
    · split
      · exact hs
      · exact h.frame hs ⟨rfl, rfl, rfl⟩
    · exact hs
  · refine key _ ?_ hf
    unfold editClass
    split
    · exact hs
    · exact h.edited (.editClass _) hs
  · exact key _ (h.edited (.editSub _) hs) hf
  · exact key _ (h.edited (.editDt _) hs) hf
  · refine key _ ?_ hf
    unfold editMax State.scaleShares
    dsimp only
    split
    · exact h.modDrops (fun _ => ⟨rfl, rfl, rfl, rfl, rfl⟩) (h.edited (.editMax _) hs)
    · exact h.edited (.editMax _) hs
  · exact key _ (h.edited (.editFallback _ (fallbackField_le _ _)) hs) hf
  · refine key _ ?_ hf
    have ht := h.edited (id := s.editTarget) (f := fun c => { c with hold := optField (arg2 f 0) }) (.editHold _) hs
    unfold editHold
    dsimp only
    split
    · exact h.frame (h.modConn (id := s.editTarget) (f := fun c => { c with curtailed := false, ramp := false })
        .uncurtail ht) ⟨rfl, rfl, rfl⟩
    · exact ht
  · cases hf

theorem fieldOf (h : RecordLaw P) {c s pos f t e} (hf : fieldOf c pos f s = some (t, e)) (hs : P none s) : P none t := by
  unfold Machine.fieldOf at hf
  split at hf
  · exact h.editField hf hs
  · unfold passField at hf
    split at hf <;> cases hf <;> exact h.frame hs ⟨rfl, rfl, rfl⟩
  · unfold offerField at hf
    split at hf <;> cases hf
    · exact h.frame hs (State.setOffer_same _ _)
    · exact h.frame hs ⟨rfl, rfl, rfl⟩
  · unfold regField regBranch at hf
    split at hf
    · split at hf <;> cases hf <;> exact h.frame hs ⟨rfl, rfl, rfl⟩
    · cases hf
      exact h.frame hs ⟨rfl, rfl, rfl⟩
    · cases hf
      exact h.frame hs ⟨rfl, rfl, rfl⟩
    · cases hf
  · cases hf

end RecordLaw
end Sys2Proof.Machine
end

section
/-! PROOFS. Every step keeps a claim that the laws of the records keep: the port, the events and the step itself. -/

namespace Sys2Proof.Machine
namespace RecordLaw

variable {P : Option (Fin 96) → State → Prop}

/-! ## The port -/

theorem closeWith (h : RecordLaw P) {x s r} (hs : P x s) : P x (s.closeWith r) := h.frame hs ⟨rfl, rfl, rfl⟩

theorem finishWhole (h : RecordLaw P) {s c a home}
    (hc : c = .createConnection → 1 ≤ (createAddrs a).length ∧ (createAddrs a).length ≤ 3) (hs : P none s) :
    P none (s.finishWhole c a home) :=
  h.closeWith (h.wholeAct hc hs)

theorem collectWhole (h : RecordLaw P) {s c a home} (hs : P none s) : P none (s.collectWhole c a home) := by
  unfold State.collectWhole
  split
  · exact h.closeWith hs
  · next hb =>
    split
    · next hn =>
      refine h.finishWhole ?_ hs
      rintro rfl
      exact createAddrs_length_of_complete (Bool.not_eq_true _ ▸ hb) hn
    · exact h.frame hs ⟨rfl, rfl, rfl⟩

theorem collectField (h : RecordLaw P) {s c f} (hs : P none s) : P none (s.collectField c f) := by
  unfold State.collectField
  split
  · exact h.frame hs ⟨rfl, rfl, rfl⟩
  · next t clamped hf =>
    have ht := h.fieldOf hf hs
    unfold State.nextField
    split
    · exact h.closeWith ht
    · exact h.frame ht ⟨rfl, rfl, rfl⟩
  · next hf => exact h.closeWith (h.fieldOf hf hs)

theorem collect (h : RecordLaw P) {s b home} (hs : P none s) : P none (s.collect b home) := by
  unfold State.collect
  split
  · exact hs
  · split
    · exact h.collectWhole hs
    · unfold State.collectRead
      split <;> exact h.frame hs ⟨rfl, rfl, rfl⟩
    · exact h.collectField hs

theorem paramByte (h : RecordLaw P) {s b home} (hs : P none s) : P none (s.paramByte b home) := by
  have ht := h.frame hs s.byteDone_same
  unfold State.paramByte
  split
  · refine h.finish ?_
    split
    · exact ht
    · exact h.collect ht
    · exact h.frame ht ⟨rfl, rfl, rfl⟩
  · exact hs

theorem openCmd (h : RecordLaw P) {s c} (hs : P none s) : P none (s.openCmd c) := by
  unfold State.openCmd
  split
  · next hc =>
    split
    · exact h.frame hs ⟨rfl, rfl, rfl⟩
    · refine h.finishWhole ?_ hs
      rintro rfl
      cases hc
  · exact h.frame hs ⟨rfl, rfl, rfl⟩

theorem commandByte (h : RecordLaw P) {s code} (hs : P none s) : P none (s.commandByte code) := by
  have ht := h.frame hs (s.byteDone_same.trans s.byteDone.endOpen_same)
  unfold State.commandByte
  split
  · refine h.finish ?_
    split
    · exact h.openCmd ht
    · exact h.closeWith ht
  · exact hs

theorem send (h : RecordLaw P) {s c params home} (hs : P none s) : P none (s.send c params home) := by
  unfold State.send
  have ht := h.commandByte (code := c.code) hs
  generalize s.commandByte c.code = t at ht
  induction params generalizing t with
  | nil => exact ht
  | cons b bs ih => exact ih _ (h.paramByte ht)

/-! ## The Timebase -/

theorem holdExpires (h : RecordLaw P) {x s} {id : Fin 96} (hs : P x s) : P x (s.holdExpires id) := by
  unfold State.holdExpires
  split
  · next hr =>
    simp only [Conn.holdRuns, Bool.and_eq_true, beq_iff_eq] at hr
    exact h.expireHold hr.1.1 hs
  · exact hs

theorem tickHold (h : RecordLaw P) {s} {id : Fin 96} (hs : P none s) : P none (s.tickHold id) := by
  unfold State.tickHold
  split
  · next hr =>
    split
    · exact h.finish (h.holdExpires hs)
    · simp only [Conn.holdRuns, Bool.and_eq_true, beq_iff_eq] at hr
      exact h.modConn (f := fun c => { c with holdLeft := c.holdLeft - 1 }) (.holdRun _ hr.1.1) hs
  · exact hs

theorem tickGate (h : RecordLaw P) {s n} (hs : P none s) : P none (s.tickGate n) := by
  unfold State.tickGate
  dsimp only
  split
  · exact h.finish (h.frame (h.frame (t := { s with free := s.free + 1 }) hs ⟨rfl, rfl, rfl⟩) (State.gateStart_same _ _ _))
  · split
    · exact h.finish (h.frame hs (State.gateClose_same _ _))
    · exact h.frame hs ⟨rfl, rfl, rfl⟩
  · exact hs

theorem tickInterval (h : RecordLaw P) {s} (hs : P none s) : P none s.tickInterval := by
  unfold State.tickInterval
  split
  · exact h.finish (h.intervalTick hs)
  · exact h.frame hs ⟨rfl, rfl, rfl⟩

theorem tickLine (h : RecordLaw P) {s l} (hs : P none s) : P none (s.tickLine l) := by
  unfold State.tickLine
  dsimp only
  split
  · split
    · exact h.finish (h.responseExpires hs)
    · exact h.modLine hs
  · split
    · split
      · exact h.finish (h.spacingEnds hs)
      · exact h.modLine hs
    · exact h.finish (h.idleSelects hs)

theorem tickPass (h : RecordLaw P) {s} (hs : P none s) : P none s.tickPass := by
  unfold State.tickPass
  split
  · split
    · exact h.finish (h.publish hs)
    · exact h.frame hs ⟨rfl, rfl, rfl⟩
  · exact hs

/-- A pass over lines, branches or records keeps what each of its steps keeps. -/
theorem foldl {ι : Type} {f : State → ι → State} (hf : ∀ s i, P none s → P none (f s i)) (is : List ι) {s}
    (hs : P none s) : P none (is.foldl f s) := by
  induction is generalizing s with
  | nil => exact hs
  | cons i is ih => exact ih (hf s i hs)

theorem tickSecond (h : RecordLaw P) {s} (hs : P none s) : P none s.tickSecond :=
  h.tickInterval (RecordLaw.foldl (fun _ _ => h.tickGate) _ (RecordLaw.foldl (fun _ _ => h.tickHold) _ hs))

theorem tick (h : RecordLaw P) {s} (hs : P none s) : P none s.tick := by
  have htrip : P none ({ s with now := Moment.start } : State).tickTrip :=
    h.finish (h.sampleTrip (h.frame hs ⟨rfl, rfl, rfl⟩))
  have ht := h.tickPass (RecordLaw.foldl (f := State.tickLine) (fun _ _ => h.tickLine) (List.finRange 8) htrip)
  unfold State.tick
  dsimp only
  generalize ((List.finRange 8).foldl State.tickLine ({ s with now := Moment.start } : State).tickTrip).tickPass = t at ht
  split
  · exact h.tickSecond (h.frame ht ⟨rfl, rfl, rfl⟩)
  · exact h.frame ht ⟨rfl, rfl, rfl⟩

/-! ## Commands and steps -/

/-- An event that may find its condition not met. -/
theorem ite {c : Prop} [Decidable c] {s t} (hs : P none s) (ht : P none t) : P none (if c then t else s) := by
  split
  · exact ht
  · exact hs

theorem exec (h : RecordLaw P) {i s t} (he : exec i s = .next t) (hs : P none s) : P none t := by
  have key : ∀ {u : State}, P none u → (Host.Outcome.next u : Answer) = .next t → P none t := by
    rintro u hu he
    cases he
    exact hu
  cases i
  case badCommand code => exact key (h.commandByte hs) he
  case parameterByte b home => exact key (h.paramByte hs) he
  case dataBytePeriod => exact key (RecordLaw.ite hs (h.paramByte hs)) he
  case selAssert => exact key (h.finish (h.frame hs s.selectPort_same)) he
  case selRelease => exact key (h.finish (h.frame hs s.releasePort_same)) he
  case partReset trip =>
    refine key (u := { State.afterReset trip s.port.selLow with free := s.free, pending := s.pending }) ?_ he
    exact h.frame (h.reset trip s.port.selLow) ⟨rfl, rfl, rfl⟩
  case tripInputSample asserted => exact key (h.finish (h.sampleTrip hs)) he
  case qualifiedAssertion => exact key (RecordLaw.ite (h.finish (h.assertTrip hs)) hs) he
  case qualifiedDeassertion => exact key (RecordLaw.ite hs (h.finish (h.frame hs s.deassertTrip_same))) he
  case intervalTick => exact key (h.finish (h.intervalTick hs)) he
  case publication => exact key (h.finish (h.publish hs)) he
  case idleLineSelection l => exact key (h.finish (h.idleSelects hs)) he
  case pollSpacingExpiry l => exact key (h.finish (h.spacingEnds hs)) he
  case pollSent l echo =>
    exact key (RecordLaw.ite hs (h.finish (RecordLaw.ite (h.pollOut hs) (h.checkEcho hs)))) he
  case replyStart l => exact key (RecordLaw.ite hs (h.finish (h.modLine hs))) he
  case responseTimeout l => exact key (h.finish (h.responseExpires hs)) he
  case frameReceived l bytes => exact key (h.finish (h.frameIn hs)) he
  case brokenFrame l => exact key (RecordLaw.ite hs (h.finish (h.frameBreaks hs))) he
  case gapLimitExpiry l => exact key (RecordLaw.ite hs (h.finish (h.frameBreaks hs))) he
  case contention l => exact key (RecordLaw.ite hs (h.finish (h.lineFaults hs))) he
  case commsHoldExpiry id => exact key (h.finish (h.holdExpires hs)) he
  case meterEdge n => exact key (h.finish (h.frame hs (s.meterEdge_same n))) he
  case gateArmedStart n high => exact key (h.finish (h.frame hs (s.gateStart_same n high))) he
  case gateClose n => exact key (h.finish (h.frame hs (s.gateClose_same n))) he
  case stepTimerExpiry n => exact key (h.finish (h.frame hs (s.stepExpires_same n))) he
  case homingStepExpiry n home => exact key (h.finish (h.frame hs (s.homingExpires_same n home))) he
  case encoderSample n a b => exact key (h.finish (h.frame hs (s.encoderSample_same n a b))) he
  case sckFallingEdge rose => exact key (h.finish (h.frame hs (s.fallingEdge_same rose))) he
  all_goals exact key (h.send hs) he

/-- Every step keeps a claim that the laws of the records keep. -/
theorem step (h : RecordLaw P) {s t} (he : step s = .next t) (hs : P none s) : P none t := by
  unfold Machine.step at he
  split at he
  · exact Host.Outcome.next.inj he ▸ h.tick hs
  · exact h.exec he (h.frame hs ⟨rfl, rfl, rfl⟩)

end RecordLaw
end Sys2Proof.Machine
end

section
/-! PROOFS. Suspend causes and standing (O53): a claim about each record alone. -/

namespace Sys2Proof.Machine

/-- A claim about every record holds after one of them was written with a record that meets it. -/
theorem forall_conns_set {Q : Conn → Prop} {s : State} {id : Fin 96} {c : Conn} (hc : Q c)
    (h : ∀ j : Fin 96, Q s.conns[j]) (j : Fin 96) : Q (s.conns.set id c)[j] := by
  rw [getElem_set_fin]
  split
  · exact hc
  · exact h j

/-- The record a snapshot leaves (02 R38). -/
theorem State.snapshot_conn (s : State) (id : Fin 96) : s.snapshot.conns[id] =
    if s.conns[id].taken then { s.conns[id] with moved := false, demandSnap := s.conns[id].demand } else s.conns[id] := by
  simp [State.snapshot]

/-- PENDING, ACTIVE and SUSPENDED records take the lifecycle commands. -/
theorem Conn.refuses_eq_false_iff {c : Conn} :
    c.refuses = false ↔ c.state = .pending ∨ c.state = .active ∨ c.state = .suspended := by
  cases h : c.state <;> simp [Conn.refuses, h]

/-- The demand is all that a recomputation changes among the records. -/
theorem State.recompute_conns (s : State) (id : Fin 96) (noted : ConnState) : (s.recompute id noted).conns =
    if s.conns[id].refuses then s.conns else s.conns.set id { s.conns[id] with demand := s.liveDemand id } := by
  unfold State.recompute
  cases hr : s.conns[id].refuses with
  | false =>
    rw [if_pos (Conn.refuses_eq_false_iff.1 hr)]
    dsimp only
    split
    · exact (State.compareDemand_same _ _ _).1
    · rfl
  | true =>
    rw [if_neg (mt Conn.refuses_eq_false_iff.2 (by rw [hr]; decide))]
    rfl

/-- A recomputation leaves the drop pool and the snapshot. -/
theorem State.recompute_rest (s : State) (id : Fin 96) (noted : ConnState) :
    (s.recompute id noted).drops = s.drops ∧ (s.recompute id noted).engine.snap = s.engine.snap := by
  unfold State.recompute
  split
  · dsimp only
    split
    · exact (State.compareDemand_same _ _ _).2
    · exact ⟨rfl, rfl⟩
  · exact ⟨rfl, rfl⟩

/-- The records after the results of a pass were written into one of them (02 R53). -/
theorem State.writeRec_conns (p : Snapshot) (s : State) (r : SnapRec) : (State.writeRec p s r).conns =
    s.conns.set r.id { s.conns[r.id] with
      granted := p.power r, ceiling := p.ceilingOf r, curtailed := p.curtailedIn r, ramp := p.rampIn r } := by
  unfold State.writeRec
  dsimp only
  split
  · split <;> rfl
  · rfl

/-- The results of a pass: what every written record keeps. -/
theorem writeRecs_keep {P : State → Prop} {p : Snapshot} (h : ∀ s r, P s → P (State.writeRec p s r)) (rs : List SnapRec)
    {s : State} (hs : P s) : P (rs.foldl (State.writeRec p) s) := by
  induction rs generalizing s with
  | nil => exact hs
  | cons r rs ih => exact ih (h s r hs)

/-- Slots taken one after another. -/
theorem State.takeSlots_eq (l : Fin 8) (id : Fin 96) (o : Origin) (xs : List Nat) (t : State) :
    xs.foldl (fun t x => t.takeSlot (Drop.fresh l x id o)) t =
      { t with drops := xs.foldl (fun ds x => insertDrop (Drop.fresh l x id o) ds) t.drops } := by
  induction xs generalizing t with
  | nil => rfl
  | cons x xs ih => exact ih _

/-- What an accepted CREATE CONNECTION changes (01 R12). -/
theorem State.create_eq (s : State) (a : List Byte) (id : Fin 96) (l : Fin 8) : s.create a id l =
    { s with
      conns := s.conns.set id (createRecord a l s.conns[id].gen)
      drops := (createAddrs a).foldl (fun ds x => insertDrop (Drop.fresh l x id .create) ds) s.drops
      att := (s.att.raise .stateChanged).enter id } := by
  unfold State.create
  dsimp only
  rw [State.takeSlots_eq]
  rfl

/-! ## Suspend causes and standing -/

/-- Causes, hold, score and LOW_DT of a record agree (01 R6, 03 R64). -/
def Conn.StandsRight (c : Conn) : Prop := c.SuspensionRight ∧ c.StandingRight

/-- A record with no cause, no hold under way and no standing, in a state other than SUSPENDED. -/
theorem Conn.standsRight_of_clear {c : Conn} (hst : c.state ≠ .suspended) (hc : c.noCause = true) (he : c.expired = false)
    (hh : c.holdLeft = 0) (hs : c.score = 0) (hl : c.lowDt = false) : c.StandsRight := by
  simp [Conn.StandsRight, Conn.SuspensionRight, Conn.StandingRight, hst, hc, he, hh, hs, hl]

/-- Outside SUSPENDED a right record holds no cause and no hold runs. -/
theorem Conn.StandsRight.clear {c : Conn} (h : c.StandsRight) (hst : c.state ≠ .suspended) :
    c.noCause = true ∧ c.expired = false ∧ c.holdLeft = 0 := by
  obtain ⟨⟨hc, he⟩, _⟩ := h
  exact ⟨by_contra fun hn => hst (hc.1 (Bool.not_eq_true _ ▸ hn)), he hst⟩

/-- A cause added changes the cause set alone. -/
theorem Conn.addCause_eq (c : Conn) (cause : SuspendCause) : c.addCause cause = { c with
    comms := (c.addCause cause).comms, lineCause := (c.addCause cause).lineCause,
    supervisor := (c.addCause cause).supervisor } := by
  cases cause <;> rfl

/-- A cause dropped changes the cause set alone. -/
theorem Conn.dropCause_eq (c : Conn) (cause : SuspendCause) : c.dropCause cause = { c with
    comms := (c.dropCause cause).comms, lineCause := (c.dropCause cause).lineCause,
    supervisor := (c.dropCause cause).supervisor } := by
  cases cause <;> rfl

/-- A record with a cause is not without one after another was added. -/
theorem Conn.addCause_noCause (c : Conn) (cause : SuspendCause) : (c.addCause cause).noCause = false := by
  cases cause <;> simp [Conn.addCause, Conn.noCause]

/-- A SUSPENDED record with a cause meets the claim when its standing does. -/
theorem Conn.standsRight_of_suspended {c : Conn} (hst : c.state = .suspended) (hc : c.noCause = false)
    (h : c.StandingRight) : c.StandsRight :=
  ⟨⟨by simp [hst, hc], fun hn => absurd hst hn⟩, h⟩

/-- A record outside SUSPENDED meets the claim when its standing does. -/
theorem Conn.standsRight_of_other {c : Conn} (hst : c.state ≠ .suspended) (hc : c.noCause = true) (he : c.expired = false)
    (hh : c.holdLeft = 0) (h : c.StandingRight) : c.StandsRight :=
  ⟨⟨by simp [hst, hc], fun _ => ⟨he, hh⟩⟩, h⟩

/-- Every move of a record keeps causes, hold, score and LOW_DT in agreement. -/
theorem Conn.Move.standsRight {c c' : Conn} (hm : Conn.Move c c') (h : c.StandsRight) : c'.StandsRight := by
  have hstand : c.StandingRight := h.2
  cases hm with
  | standing score low hs => exact ⟨h.1, hs h.2⟩
  | gain cause hst =>
    refine Conn.standsRight_of_suspended ?_ (Conn.addCause_noCause c cause) ?_ <;> rw [Conn.addCause_eq]
    · exact hst
    · exact hstand
  | suspend cause hold hst =>
    refine Conn.standsRight_of_suspended rfl (Conn.addCause_noCause c cause) ?_
    rw [Conn.suspendedBy, Conn.addCause_eq]
    exact hstand
  | expire hst => exact Conn.standsRight_of_suspended hst (h.1.1.2 hst) hstand
  | holdRun n hst => exact Conn.standsRight_of_suspended hst (h.1.1.2 hst) hstand
  | lose cause hst hc =>
    refine Conn.standsRight_of_suspended ?_ hc ?_ <;> rw [Conn.dropCause_eq]
    · exact hst
    · exact hstand
  | resume cause hst hc =>
    refine Conn.standsRight_of_other (by simp [Conn.returned]) hc rfl rfl ?_
    rw [Conn.returned, Conn.dropCause_eq]
    exact hstand
  | serve hst =>
    obtain ⟨hc, he, hh⟩ := h.clear (by rw [hst]; decide)
    exact Conn.standsRight_of_other (by simp) hc he hh hstand
  | retire hr => exact Conn.standsRight_of_other (by simp [Conn.retired]) rfl rfl rfl hstand
  | _ => exact h

/-- Causes, hold, score and LOW_DT of every record: a claim that the laws of the records keep. -/
theorem standsRight_law : RecordLaw (fun _ s => ∀ id : Fin 96, s.conns[id].StandsRight) where
  frame hs k := by rw [k.1]; exact hs
  weaken hs := hs
  move hm hs := forall_conns_set (hm.standsRight (hs _)) hs
  mapDrops _ hs := hs
  modDrop _ _ _ hs := hs
  recompute _ _ hs := by
    rw [State.recompute_conns]
    split
    · exact hs
    · exact forall_conns_set (Q := Conn.StandsRight) (hs _) hs
  takeSlot _ _ _ _ _ hs := hs
  freeSlot _ _ hs := hs
  create _ _ _ _ hs := by
    rw [State.create_eq]
    exact forall_conns_set (Conn.standsRight_of_clear (by simp [createRecord]) rfl rfl rfl rfl rfl) hs
  vacate _ hs := forall_conns_set (Conn.standsRight_of_clear (by simp [Conn.vacant]) rfl rfl rfl rfl rfl) hs
  snapshot {s} hs id := by
    rw [State.snapshot_conn]
    split
    · exact hs id
    · exact hs id
  dropSnap hs := hs
  results {s p} _ hs := by
    refine writeRecs_keep (P := fun t => ∀ id : Fin 96, t.conns[id].StandsRight) (fun t r ht => ?_) _ hs
    rw [State.writeRec_conns]
    exact forall_conns_set (Q := Conn.StandsRight) (ht r.id) ht
  reset trip selLow id := by
    have hv : (State.afterReset trip selLow).conns[id] = Conn.vacant 0 := by simp [State.afterReset]
    rw [hv]
    exact Conn.standsRight_of_clear (by simp [Conn.vacant]) rfl rfl rfl rfl rfl

/-- Settles O53: every record's causes, hold, score and LOW_DT are kept by the laws of the records, so by every step. -/
theorem everyStepKeepsSuspension : Obligations.EveryStepKeepsSuspension :=
  fun _ _ hs he => standsRight_law.step he hs

end Sys2Proof.Machine
end

section
/-! PROOFS. Grants within the contract (O54): the power and the ceiling a pass computes for a record lie within the contract
of its snapshot, and a record the pass will write still has that contract. -/

namespace Sys2Proof.Machine

/-! ## The power of a pass -/

/-- Two copies of one id in a snapshot of distinct ids are one. -/
theorem eq_of_id_eq {rs : List SnapRec} (h : (rs.map (·.id)).Nodup) {r q : SnapRec} (hr : r ∈ rs) (hq : q ∈ rs)
    (e : r.id = q.id) : r = q := List.inj_on_of_nodup_map h hr hq e

/-- A share of a smaller total rounds down below the whole. -/
theorem mul_div_lt {a b c : Nat} (ha : 0 < a) (hb : b < c) : a * b / c < a :=
  Nat.div_lt_of_lt_mul (by rw [Nat.mul_comm c a]; exact Nat.mul_lt_mul_of_pos_left hb ha)

/-- A scaled share with its tenth of the residue, which only a share above 0 receives, is no more than the whole. -/
theorem mul_div_add_le {a b c : Nat} {p : Prop} [Decidable p] (hp : p → 0 < a) (hb : b < c) :
    a * b / c + (if p then 1 else 0) ≤ a := by
  split
  · next h => exact mul_div_lt (hp h) hb
  · rcases Nat.eq_zero_or_pos a with rfl | ha
    · simp
    · exact (mul_div_lt ha hb).le

/-- The members of a class are copies of the snapshot. -/
theorem Snapshot.mem_of_mem_members {p : Snapshot} {k : Nat} {r : SnapRec} (h : r ∈ p.members k) : r ∈ p.recs :=
  (List.mem_filter.1 h).1

/-- Only members with a ramped request above 0 are dealt the residue of a scaled class (02 R46). -/
theorem Snapshot.mem_dealOrder {p : Snapshot} {k : Nat} {id : Fin 96} (h : id ∈ p.dealOrder k) :
    ∃ r ∈ p.members k, 0 < r.ramped p.ramp ∧ r.id = id := by
  have hable : id ∈ ((p.members k).filter (fun r => 0 < r.ramped p.ramp)).map (·.id) := by
    unfold Snapshot.dealOrder at h
    rcases List.mem_append.1 h with h | h
    · simpa using (List.mem_filter.1 h).2
    · exact (List.mem_filter.1 h).1
  obtain ⟨r, hr, rfl⟩ := List.mem_map.1 hable
  obtain ⟨hm, hpos⟩ := List.mem_filter.1 hr
  exact ⟨r, hm, of_decide_eq_true hpos, rfl⟩

/-- A class grants each member at most its ramped request (02 R45, R46). -/
theorem Snapshot.classGrants_le {p : Snapshot} (hid : (p.recs.map (·.id)).Nodup) {k rem : Nat} {g : Fin 96 × Nat}
    (hg : g ∈ p.classGrants k rem) : ∃ r ∈ p.recs, r.id = g.1 ∧ g.2 ≤ r.ramped p.ramp := by
  unfold Snapshot.classGrants at hg
  dsimp only at hg
  split at hg
  · obtain ⟨r, hr, rfl⟩ := List.mem_map.1 hg
    exact ⟨r, mem_of_mem_members hr, rfl, le_rfl⟩
  · next hover =>
    obtain ⟨b, hb, rfl⟩ := List.mem_map.1 hg
    obtain ⟨r, hr, rfl⟩ := List.mem_map.1 hb
    refine ⟨r, mem_of_mem_members hr, rfl, ?_⟩
    dsimp only
    generalize hl : List.take _ (p.dealOrder k) = lucky
    have hpos : lucky.contains r.id = true → 0 < r.ramped p.ramp := by
      intro hc
      rw [← hl] at hc
      obtain ⟨q, hq, hqpos, hqid⟩ := Snapshot.mem_dealOrder (List.mem_of_mem_take (List.contains_iff_mem.1 hc))
      rwa [eq_of_id_eq hid (mem_of_mem_members hq) (mem_of_mem_members hr) hqid] at hqpos
    have hle := mul_div_add_le hpos (not_le.1 hover)
    split
    · next hc => simpa only [if_pos hc] using hle
    · next hc => simpa only [if_neg hc, Nat.add_zero] using hle

/-- The power a pass grants a record is within its subscription (02 R43 to R46). -/
theorem Snapshot.power_le_sub {p : Snapshot} (hid : (p.recs.map (·.id)).Nodup) {r : SnapRec} (hr : r ∈ p.recs)
    (hprev : r.gPrev ≤ r.sub) : p.power r ≤ r.sub := by
  have hres : ∀ x, r.reserve = some x → x ≤ r.sub := by
    intro x hx
    unfold SnapRec.reserve at hx
    split at hx
    · cases hx
      split
      · exact fallbackPower_le _ _ _
      · exact hprev
    · obtain ⟨v, _, rfl⟩ := Option.map_eq_some_iff.1 hx
      exact Nat.min_le_right _ _
  unfold Snapshot.power
  split
  · next x hx => exact hres x hx
  · cases hf : p.fillGrants.find? (fun g => g.1 == r.id) with
    | none => simp
    | some g =>
      have hgm := List.mem_of_find?_eq_some hf
      have hgid : g.1 = r.id := by simpa using List.find?_some hf
      have hle : ∃ q ∈ p.recs, q.id = g.1 ∧ g.2 ≤ q.ramped p.ramp := by
        simp only [Snapshot.fillGrants, List.mem_append] at hgm
        rcases hgm with (h | h) | h <;> exact Snapshot.classGrants_le hid h
      obtain ⟨q, hq, hqid, hqle⟩ := hle
      rw [eq_of_id_eq hid hq hr (hqid.trans hgid)] at hqle
      exact hqle.trans (SnapRec.ramped_le_sub r _)

/-- The ceiling a pass writes is within the maximum flow (02 R48 to R50). -/
theorem Snapshot.ceilingOf_le_max {p : Snapshot} (hid : (p.recs.map (·.id)).Nodup) {r : SnapRec} (hr : r ∈ p.recs)
    (hst : r.state = .active ∨ r.state = .suspended) (hc : r.ceiling ≤ r.maxFlow) (hf : r.fallback.getD 0 ≤ r.maxFlow) :
    p.ceilingOf r ≤ r.maxFlow := by
  have hflow : p.flow r ≤ r.maxFlow := by
    rcases hst with h | h
    · exact Snapshot.flow_le_max p r h
    · unfold Snapshot.flow
      rw [h]
      dsimp only
      split
      · exact hf
      · exact hc
  unfold Snapshot.ceilingOf
  split
  · exact hflow
  · split
    · next hlim =>
      refine (mul_div_add_le (fun hc => ?_) (of_decide_eq_true hlim)).trans hflow
      obtain ⟨q, hq, hqid⟩ := List.mem_map.1 (List.mem_of_mem_take (List.contains_iff_mem.1 hc))
      obtain ⟨hqa, hqpos⟩ := List.mem_filter.1 hq
      rw [← eq_of_id_eq hid (List.mem_filter.1 hqa).1 hr hqid]
      exact of_decide_eq_true hqpos
    · exact hflow

/-! ## A record and its copy -/

/-- A record stands to an earlier one so that whatever copy it still matches the earlier one matched, with the same
contract (02 R53). -/
def Conn.Follows (c c' : Conn) : Prop :=
  ∀ r : SnapRec, (r.state = .active ∨ r.state = .suspended) → c'.matches r = true →
    c.matches r = true ∧ c'.sub = c.sub ∧ c'.maxFlow = c.maxFlow ∧ c'.hold = c.hold

/-- A moved record matches no copy. -/
theorem Conn.follows_of_moved {c c' : Conn} (h : c'.moved = true) : c.Follows c' := by
  intro r _ hm
  simp [Conn.matches, h] at hm

/-- A record that no snapshot takes matches no copy. -/
theorem Conn.follows_of_untaken {c c' : Conn} (h : c'.taken = false) : c.Follows c' := by
  intro r hr hm
  simp only [Conn.matches, Bool.and_eq_true, beq_iff_eq] at hm
  rcases hr with hr | hr <;> simp [Conn.taken, hm.1.2, hr] at h

/-- A record of the same identity and contract. -/
theorem Conn.follows_of_same {c c' : Conn} (hg : c'.gen = c.gen) (hs : c'.state = c.state) (hv : c'.moved = c.moved)
    (hc : c'.sub = c.sub ∧ c'.maxFlow = c.maxFlow ∧ c'.hold = c.hold) : c.Follows c' := by
  intro r _ hm
  refine ⟨?_, hc⟩
  simpa only [Conn.matches, hg, hs, hv] using hm

/-- Every move of a record leaves it following: it is moved, or keeps what a publication looks at. -/
theorem Conn.Move.follows {c c' : Conn} (hm : Conn.Move c c') : c.Follows c' := by
  cases hm with
  | gain cause hst => rw [Conn.addCause_eq]; exact Conn.follows_of_same rfl rfl rfl ⟨rfl, rfl, rfl⟩
  | lose cause hst hc => rw [Conn.dropCause_eq]; exact Conn.follows_of_same rfl rfl rfl ⟨rfl, rfl, rfl⟩
  | standing score low hs => exact Conn.follows_of_same rfl rfl rfl ⟨rfl, rfl, rfl⟩
  | holdRun n hst => exact Conn.follows_of_same rfl rfl rfl ⟨rfl, rfl, rfl⟩
  | uncurtail => exact Conn.follows_of_same rfl rfl rfl ⟨rfl, rfl, rfl⟩
  | _ => exact Conn.follows_of_moved rfl

/-- Every move of a record keeps its grants within its contract (01 R16, R23, R24). -/
theorem Conn.Move.grantsRight {c c' : Conn} (hm : Conn.Move c c') (h : c.GrantsRight) : c'.GrantsRight := by
  obtain ⟨hg, hc, hf⟩ := h
  cases hm with
  | gain cause hst => rw [Conn.addCause_eq]; exact ⟨hg, hc, hf⟩
  | lose cause hst _ => rw [Conn.dropCause_eq]; exact ⟨hg, hc, hf⟩
  | suspend cause hold hst => rw [Conn.suspendedBy, Conn.addCause_eq]; exact ⟨hg, hc, hf⟩
  | resume cause hst _ =>
    rw [Conn.returned, Conn.dropCause_eq]
    refine ⟨?_, ?_, hf⟩
    · dsimp only
      split
      · exact fallbackPower_le _ _ _
      · exact hg
    · dsimp only
      split
      · exact hf
      · exact hc
  | serve hst => exact ⟨Nat.zero_le _, Nat.zero_le _, hf⟩
  | retire hr => exact ⟨Nat.zero_le _, Nat.zero_le _, hf⟩
  | editSub w => exact ⟨Nat.min_le_right _ _, hc, hf⟩
  | editMax w =>
    refine ⟨hg, Nat.min_le_right _ _, ?_⟩
    cases c.fallback with
    | none => exact Nat.zero_le _
    | some f => exact Nat.min_le_right _ _
  | editFallback f hle => exact ⟨hg, hc, hle⟩
  | _ => exact ⟨hg, hc, hf⟩

/-- What the records and a snapshot have in common stands after records that follow. -/
theorem State.SnapRight.follows {s t : State} (h : s.SnapRight) (hsnap : t.engine.snap = s.engine.snap)
    (hc : ∀ id : Fin 96, s.conns[id].Follows t.conns[id]) : t.SnapRight := by
  intro p hp
  rw [hsnap] at hp
  obtain ⟨hid, hrecs⟩ := h p hp
  refine ⟨hid, fun r hr => ?_⟩
  obtain ⟨hst, hlim, hmatch⟩ := hrecs r hr
  refine ⟨hst, hlim, fun hm => ?_⟩
  obtain ⟨hm', hsub, hmax, hhold⟩ := hc r.id r hst hm
  rw [hsub, hmax, hhold]
  exact hmatch hm'

/-- A record written with one that follows it and is within its contract. -/
theorem State.GrantsRight.set {s : State} (h : s.GrantsRight) {id : Fin 96} {c : Conn} (hc : c.GrantsRight)
    (hf : s.conns[id].Follows c) {t : State} (ht : t.conns = s.conns.set id c) (hsnap : t.engine.snap = s.engine.snap) :
    t.GrantsRight := by
  constructor
  · rw [ht]
    exact forall_conns_set hc h.1
  · refine h.2.follows hsnap fun j => ?_
    rw [ht, getElem_set_fin]
    split
    · next e => exact e ▸ hf
    · exact Conn.follows_of_same rfl rfl rfl ⟨rfl, rfl, rfl⟩

/-- A snapshot just taken agrees with the records (02 R38). -/
theorem State.GrantsRight.snapshot {s : State} (h : s.GrantsRight) : s.snapshot.GrantsRight := by
  constructor
  · intro id
    rw [State.snapshot_conn]
    split
    · exact h.1 id
    · exact h.1 id
  · intro p hp
    have hrecs : p.recs = s.snapRecs := by
      cases hp
      rfl
    rw [hrecs]
    refine ⟨?_, fun r hr => ?_⟩
    · have hmap : s.snapRecs.map (·.id) = (List.finRange 96).filter (fun id => s.conns[id].taken) := by
        simp only [State.snapRecs, List.map_map]
        exact List.map_id _
      rw [hmap]
      exact (List.nodup_finRange 96).filter _
    · obtain ⟨id, hid, rfl⟩ := List.mem_map.1 hr
      have htaken : s.conns[id].taken = true := (List.mem_filter.1 hid).2
      refine ⟨by simpa [Conn.taken, State.snapRec] using htaken, h.1 id, fun _ => ?_⟩
      have hconn := State.snapshot_conn s id
      rw [if_pos htaken] at hconn
      show s.snapshot.conns[id].sub = _ ∧ s.snapshot.conns[id].maxFlow = _ ∧ s.snapshot.conns[id].hold = _
      rw [hconn]
      exact ⟨rfl, rfl, rfl⟩

/-- The results of a pass, written into records of the contract its copies have, lie within the contract. -/
theorem writeRecs_grantsRight {p : Snapshot} (rs : List SnapRec) {s : State} (h : ∀ id : Fin 96, s.conns[id].GrantsRight)
    (hrs : ∀ r ∈ rs, p.power r ≤ s.conns[r.id].sub ∧ p.ceilingOf r ≤ s.conns[r.id].maxFlow) (id : Fin 96) :
    (rs.foldl (State.writeRec p) s).conns[id].GrantsRight := by
  induction rs generalizing s with
  | nil => exact h id
  | cons r rs ih =>
    obtain ⟨hg, hc⟩ := hrs r (by simp)
    have hsame : ∀ j : Fin 96, (State.writeRec p s r).conns[j].sub = s.conns[j].sub ∧
        (State.writeRec p s r).conns[j].maxFlow = s.conns[j].maxFlow := by
      intro j
      rw [State.writeRec_conns, getElem_set_fin]
      split
      · next e => subst e; exact ⟨rfl, rfl⟩
      · exact ⟨rfl, rfl⟩
    refine ih ?_ fun q hq => ?_
    · rw [State.writeRec_conns]
      exact forall_conns_set (Q := Conn.GrantsRight) ⟨hg, hc, (h r.id).2.2⟩ h
    · rw [(hsame q.id).1, (hsame q.id).2]
      exact hrs q (by simp [hq])

/-- Grants within the contract: a claim that the laws of the records keep. -/
theorem grantsRight_law : RecordLaw (fun _ s => s.GrantsRight) where
  frame {_ s t} hs k := by
    obtain ⟨hc, hd, hsnap⟩ := k
    refine ⟨by rw [hc]; exact hs.1, hs.2.follows hsnap fun j => ?_⟩
    rw [hc]
    exact Conn.follows_of_same rfl rfl rfl ⟨rfl, rfl, rfl⟩
  weaken hs := hs
  move hm hs := hs.set (hm.grantsRight (hs.1 _)) hm.follows rfl rfl
  mapDrops _ hs := hs
  modDrop _ _ _ hs := hs
  recompute {s id noted} _ _ hs := by
    have hsnap := (State.recompute_rest s id noted).2
    have hconns := State.recompute_conns s id noted
    split at hconns
    · refine ⟨by rw [hconns]; exact hs.1, hs.2.follows hsnap fun j => ?_⟩
      rw [hconns]
      exact Conn.follows_of_same rfl rfl rfl ⟨rfl, rfl, rfl⟩
    · exact hs.set (c := { s.conns[id] with demand := s.liveDemand id }) (hs.1 id)
        (Conn.follows_of_same rfl rfl rfl ⟨rfl, rfl, rfl⟩) hconns hsnap
  takeSlot _ _ _ _ _ hs := hs
  freeSlot _ _ hs := hs
  create {s a id l} _ _ _ _ hs := by
    rw [State.create_eq]
    refine hs.set (c := createRecord a l s.conns[id].gen) ?_ (Conn.follows_of_untaken rfl) rfl rfl
    exact ⟨Nat.zero_le _, Nat.zero_le _, RecordLaw.fallbackField_le _ _⟩
  vacate {_ s id} _ hs :=
    hs.set (id := id) (c := Conn.vacant s.conns[id].gen) ⟨Nat.zero_le _, Nat.zero_le _, Nat.zero_le _⟩
      (Conn.follows_of_untaken rfl) rfl rfl
  snapshot hs := hs.snapshot
  dropSnap hs := ⟨hs.1, fun p hp => by cases hp⟩
  results {s p} hp hs := by
    refine ⟨fun id => ?_, fun q hq => by cases hq⟩
    refine writeRecs_grantsRight _ hs.1 (fun r hr => ?_) id
    obtain ⟨hr, hm⟩ := List.mem_filter.1 hr
    obtain ⟨hid, hrecs⟩ := hs.2 p hp
    obtain ⟨hst, ⟨hg, hc, hf⟩, hmatch⟩ := hrecs r hr
    obtain ⟨hsub, hmax, _⟩ := hmatch hm
    rw [hsub, hmax]
    exact ⟨Snapshot.power_le_sub hid hr hg, Snapshot.ceilingOf_le_max hid hr hst hc hf⟩
  reset trip selLow := by
    refine ⟨fun id => ?_, fun p hp => by cases hp⟩
    have hv : (State.afterReset trip selLow).conns[id] = Conn.vacant 0 := by simp [State.afterReset]
    rw [hv]
    exact ⟨Nat.zero_le _, Nat.zero_le _, Nat.zero_le _⟩

/-- Settles O54: grants within the contract, with what a snapshot and the records have in common, are kept by the laws of the
records, so by every step. -/
theorem everyStepKeepsGrants : Obligations.EveryStepKeepsGrants :=
  fun _ _ hs he => grantsRight_law.step he hs

end Sys2Proof.Machine
end

section
/-! PROOFS. The drop pool and the demand (O56). -/

namespace Sys2Proof.Machine

/-! ## Lists of slots -/

/-- A slot entered: the same slots with one more, in another order. -/
theorem insertDrop_perm (d : Drop) (ds : List Drop) : (insertDrop d ds).Perm (d :: ds) := by
  induction ds with
  | nil => exact .refl _
  | cons e es ih =>
    unfold insertDrop
    split
    · exact .refl _
    · exact (ih.cons e).trans (.swap d e es)

/-- The slots CREATE CONNECTION enters stand beside those that were in use. -/
theorem foldl_insertDrop_perm (mk : Nat → Drop) (xs : List Nat) (ds : List Drop) :
    (xs.foldl (fun ds x => insertDrop (mk x) ds) ds).Perm (xs.map mk ++ ds) := by
  induction xs generalizing ds with
  | nil => exact .refl _
  | cons x xs ih =>
    refine (ih _).trans (((insertDrop_perm (mk x) ds).append_left _).trans ?_)
    exact List.perm_middle

/-- Slots entered at free places, none of them twice, keep the pool's order. -/
theorem SortedDrops.foldl_insert {mk : Nat → Drop} {xs : List Nat} {ds : List Drop} (h : SortedDrops ds)
    (hx : xs.Pairwise (fun x y => (mk x).key ≠ (mk y).key)) (hfree : ∀ x ∈ xs, ∀ e ∈ ds, e.key ≠ (mk x).key) :
    SortedDrops (xs.foldl (fun ds x => insertDrop (mk x) ds) ds) := by
  induction xs generalizing ds with
  | nil => exact h
  | cons x xs ih =>
    obtain ⟨hxs, hrest⟩ := List.pairwise_cons.1 hx
    refine ih (h.insert (hfree x (by simp))) hrest fun y hy e he => ?_
    rcases mem_insertDrop.1 he with rfl | he
    · exact hxs y hy
    · exact hfree y (by simp [hy]) e he

/-- The drop list of a connection after slots were changed without their connection. -/
theorem dropsOf_of_map {s t : State} {f : Drop → Drop} (hf : ∀ d, (f d).conn = d.conn) (hd : t.drops = s.drops.map f)
    (id : Fin 96) : t.dropsOf id = (s.dropsOf id).map f := by
  simp only [State.dropsOf, hd, List.filter_map, Function.comp_def, hf]

/-! ## The pool -/

/-- What the pool's claim says of one slot: its address, and the record it belongs to. -/
def State.SlotRight (s : State) (d : Drop) : Prop :=
  1 ≤ d.addr ∧ d.addr ≤ 30 ∧ s.conns[d.conn].state ≠ .vacant ∧ s.conns[d.conn].line = d.line

/-- A record keeps its place for its slots: it is VACANT no more and no less than before, and on the same line. -/
def Conn.SamePlace (c c' : Conn) : Prop := (c'.state = .vacant ↔ c.state = .vacant) ∧ c'.line = c.line

theorem Conn.SamePlace.refl (c : Conn) : c.SamePlace c := ⟨Iff.rfl, rfl⟩

/-- The pool after slots were changed in their places and records kept theirs. -/
theorem State.PoolRight.map {s t : State} (h : s.PoolRight) {f : Drop → Drop}
    (hf : ∀ d, (f d).line = d.line ∧ (f d).addr = d.addr ∧ (f d).conn = d.conn) (hd : t.drops = s.drops.map f)
    (hc : ∀ id : Fin 96, s.conns[id].SamePlace t.conns[id]) : t.PoolRight := by
  obtain ⟨hsort, hlen, hslot, hcount⟩ := h
  have hof := dropsOf_of_map (fun d => (hf d).2.2) hd
  refine ⟨?_, ?_, fun d hm => ?_, fun id hv => ?_⟩
  · rw [hd]
    exact SortedDrops.map hsort f fun d => by simp only [Drop.key, hf]
  · rw [hd, List.length_map]
    exact hlen
  · rw [hd] at hm
    obtain ⟨e, he, rfl⟩ := List.mem_map.1 hm
    obtain ⟨hlo, hhi, hv, hline⟩ := hslot e he
    obtain ⟨hfl, hfa, hfc⟩ := hf e
    simp only [hfl, hfa, hfc]
    exact ⟨hlo, hhi, fun k => hv ((hc _).1.1 k), (hc _).2.trans hline⟩
  · rw [hof, List.length_map]
    exact hcount id fun k => hv ((hc id).1.2 k)

/-- The pool after records kept their places and no slot was touched. -/
theorem State.PoolRight.conns {s t : State} (h : s.PoolRight) (hd : t.drops = s.drops)
    (hc : ∀ id : Fin 96, s.conns[id].SamePlace t.conns[id]) : t.PoolRight :=
  h.map (f := fun d => d) (fun _ => ⟨rfl, rfl, rfl⟩) (by rw [hd, List.map_id']) hc

/-- A record written with one that keeps its place. -/
theorem samePlace_set {s : State} {id : Fin 96} {c : Conn} (hc : s.conns[id].SamePlace c) (j : Fin 96) :
    s.conns[j].SamePlace (s.conns.set id c)[j] := by
  rw [getElem_set_fin]
  split
  · next e => exact e ▸ hc
  · exact .refl _

/-- In a right pool a slot of a place is the slot of that place. -/
theorem State.PoolRight.eq_of_place {s : State} (h : s.PoolRight) {d e : Drop} (hd : d ∈ s.drops) (he : e ∈ s.drops)
    (hl : e.line = d.line) (ha : e.addr = d.addr) : e = d :=
  SortedDrops.eq_of_key h.1 he hd (by simp only [Drop.key, hl, ha])

/-! ## The demand -/

/-- The demand that 01 R3 gives a record. -/
def State.demandDue (s : State) (id : Fin 96) : Nat := if s.conns[id].refuses then 0 else s.liveDemand id

/-- The demand claim, record by record. -/
theorem State.demandRight_iff (s : State) : s.DemandRight ↔ ∀ id : Fin 96, s.conns[id].demand = s.demandDue id := by
  refine forall_congr' fun id => ?_
  unfold State.demandDue
  cases hst : s.conns[id].state <;> simp only [Conn.refuses, hst] <;> rfl

/-- The sum of live demands depends on states and demands of the drops alone. -/
theorem liveSum_map {ds : List Drop} {f : Drop → Drop} (hf : ∀ d ∈ ds, (f d).state = d.state ∧ (f d).demand = d.demand) :
    demandSum (liveDrops (ds.map f)) = demandSum (liveDrops ds) := by
  induction ds with
  | nil => rfl
  | cons d ds ih =>
    obtain ⟨hs, hd⟩ := hf d (by simp)
    have ih := ih fun e he => hf e (by simp [he])
    simp only [liveDrops, demandSum, List.map_cons, List.filter_cons, hs] at ih ⊢
    split
    · simp only [List.map_cons, List.sum_cons, hd, ih]
    · exact ih

/-- The claim of O56 with the demand of one record excepted: the pool is right, and so is every other demand. -/
def State.PoolAndDemand (x : Option (Fin 96)) (s : State) : Prop :=
  s.PoolRight ∧ ∀ id : Fin 96, x ≠ some id → s.conns[id].demand = s.demandDue id

/-- Every move of a record keeps its place. -/
theorem Conn.Move.samePlace {c c' : Conn} (hm : Conn.Move c c') : c.SamePlace c' := by
  cases hm with
  | gain cause hst => rw [Conn.addCause_eq]; exact .refl c
  | lose cause hst _ => rw [Conn.dropCause_eq]; exact .refl c
  | suspend cause hold hst => rw [Conn.suspendedBy, Conn.addCause_eq]; exact ⟨by simp [hst], rfl⟩
  | resume cause hst _ => rw [Conn.returned, Conn.dropCause_eq]; exact ⟨by simp [hst], rfl⟩
  | serve hst => exact ⟨by simp [hst], rfl⟩
  | retire hr => exact ⟨by simp [Conn.retired, RecordLaw.not_vacant_of_refuses hr], rfl⟩
  | _ => exact .refl c

/-- Every move of a record keeps its demand and its service, or retires it with demand 0. -/
theorem Conn.Move.demand {c c' : Conn} (hm : Conn.Move c c') :
    (c'.demand = c.demand ∧ c'.refuses = c.refuses) ∨ (c'.demand = 0 ∧ c'.refuses = true) := by
  cases hm with
  | gain cause hst => rw [Conn.addCause_eq]; exact .inl ⟨rfl, rfl⟩
  | lose cause hst _ => rw [Conn.dropCause_eq]; exact .inl ⟨rfl, rfl⟩
  | suspend cause hold hst =>
    rw [Conn.suspendedBy, Conn.addCause_eq]
    exact .inl ⟨rfl, by simp only [Conn.refuses, hst]; rfl⟩
  | resume cause hst _ =>
    rw [Conn.returned, Conn.dropCause_eq]
    exact .inl ⟨rfl, by simp only [Conn.refuses, hst]; rfl⟩
  | serve hst => exact .inl ⟨rfl, by simp only [Conn.refuses, hst]; rfl⟩
  | retire hr => exact .inr ⟨rfl, rfl⟩
  | _ => exact .inl ⟨rfl, rfl⟩

/-- The demand claim of a record after a change that keeps its demand, its service and the sum of its live drops. -/
theorem State.demand_of_same {s t : State} {id : Fin 96} (h : s.conns[id].demand = s.demandDue id)
    (hd : t.conns[id].demand = s.conns[id].demand) (hr : t.conns[id].refuses = s.conns[id].refuses)
    (hl : t.liveDemand id = s.liveDemand id) : t.conns[id].demand = t.demandDue id := by
  rw [hd, h, State.demandDue, State.demandDue, hr, hl]

/-- A slot that is freed leaves every other connection's drop list, and every other slot of its own connection. -/
theorem State.PoolRight.dropsOf_freeSlot {s : State} (h : s.PoolRight) {d : Drop} (hd : d ∈ s.drops) {id : Fin 96}
    (hne : d.conn ≠ id) : (s.freeSlot d.line d.addr).dropsOf id = s.dropsOf id := by
  simp only [State.dropsOf, State.freeSlot_drops, List.filter_filter]
  refine List.filter_congr fun e he => ?_
  by_cases hplace : e.line = d.line ∧ e.addr = d.addr
  · have := h.eq_of_place hd he hplace.1 hplace.2
    subst this
    simp [hne]
  · simp only [not_and_or] at hplace
    rcases hplace with hp | hp <;> simp [hp]

theorem State.PoolRight.freeSlot {s : State} (h : s.PoolRight) {d : Drop} {id : Fin 96} (hd : d ∈ s.dropsOf id)
    (hn : 2 ≤ (s.dropsOf id).length) : (s.freeSlot d.line d.addr).PoolRight := by
  obtain ⟨hm, rfl⟩ := State.mem_dropsOf.1 hd
  refine ⟨SortedDrops.filter h.1 _, (List.length_filter_le _ _).trans h.2.1,
    fun e he => h.2.2.1 e (List.mem_filter.1 he).1, fun id hv => ?_⟩
  by_cases hid : d.conn = id
  · subst hid
    have hsub : (s.freeSlot d.line d.addr).dropsOf d.conn =
        (s.dropsOf d.conn).filter (fun e => !(e.line == d.line && e.addr == d.addr)) := by
      simp only [State.dropsOf, State.freeSlot_drops, List.filter_filter, Bool.and_comm]
    rw [hsub]
    refine ⟨?_, (List.length_filter_le _ _).trans (h.2.2.2 _ hv).2⟩
    obtain ⟨a, b, rest, hab⟩ : ∃ a b rest, s.dropsOf d.conn = a :: b :: rest := by
      match hl : s.dropsOf d.conn with
      | [] | [_] => simp [hl] at hn
      | a :: b :: rest => exact ⟨a, b, rest, rfl⟩
    have hkey : a.key < b.key := by
      have hp : SortedDrops (s.dropsOf d.conn) := SortedDrops.filter h.1 _
      rw [hab] at hp
      exact (List.pairwise_cons.1 hp).1 b (by simp)
    have hsurvive : ∀ e ∈ s.dropsOf d.conn, e.key ≠ d.key →
        e ∈ (s.dropsOf d.conn).filter (fun e => !(e.line == d.line && e.addr == d.addr)) := by
      intro e he hk
      refine List.mem_filter.2 ⟨he, ?_⟩
      by_cases hp : e.line = d.line ∧ e.addr = d.addr
      · exact absurd (by simp only [Drop.key, hp]) hk
      · simpa [-not_and, not_and_or] using hp
    rcases Nat.lt_or_ge a.key d.key with ha | ha
    · exact List.length_pos_of_mem (hsurvive a (by simp [hab]) ha.ne)
    · exact List.length_pos_of_mem (hsurvive b (by simp [hab]) (ha.trans_lt hkey).ne')
  · rw [h.dropsOf_freeSlot hm hid]
    exact h.2.2.2 id hv

/-- A free slot taken for a connection: its list holds one more, every other list what it held. -/
theorem dropsOf_takeSlot_perm (s : State) (d : Drop) (id : Fin 96) :
    ((s.takeSlot d).dropsOf id).Perm (if d.conn = id then d :: s.dropsOf id else s.dropsOf id) := by
  refine ((insertDrop_perm d s.drops).filter _).trans (.of_eq ?_)
  rw [List.filter_cons]
  simp only [beq_iff_eq]
  rfl

theorem State.PoolRight.takeSlot {s : State} (h : s.PoolRight) {d : Drop} (hr : s.conns[d.conn].refuses = false)
    (hl : s.conns[d.conn].line = d.line) (hlo : 1 ≤ d.addr) (hhi : d.addr ≤ 30) (hn : (s.dropsOf d.conn).length < 3)
    (hfree : s.findDrop d.line d.addr = none) (hlen : s.drops.length < 160) : (s.takeSlot d).PoolRight := by
  refine ⟨SortedDrops.insert h.1 fun e he hk => ?_, ?_, fun e he => ?_, fun id hv => ?_⟩
  · have haddr := (h.2.2.1 e he).2.1
    obtain ⟨hel, hea⟩ := Drop.key_inj (by omega) (by omega) hk
    simpa [hel, hea] using List.find?_eq_none.1 hfree e he
  · rw [State.takeSlot_drops, length_insertDrop]
    exact hlen
  · rcases mem_insertDrop.1 he with rfl | he
    · exact ⟨hlo, hhi, RecordLaw.not_vacant_of_refuses hr, hl⟩
    · exact h.2.2.1 e he
  · rw [(dropsOf_takeSlot_perm s d id).length_eq]
    split
    · next hid =>
      subst hid
      rw [List.length_cons]
      omega
    · exact h.2.2.2 id hv

/-- A slot just taken is JOINING and adds nothing to the demand. -/
theorem liveDemand_takeSlot (s : State) {d : Drop} (hd : d.state ≠ .live) (id : Fin 96) :
    (s.takeSlot d).liveDemand id = s.liveDemand id := by
  have hp := (((dropsOf_takeSlot_perm s d id).filter (fun d => d.state == .live)).map (·.demand)).sum_eq
  have hlive : ((if d.conn = id then d :: s.dropsOf id else s.dropsOf id).filter (fun d => d.state == .live)) =
      (s.dropsOf id).filter (fun d => d.state == .live) := by
    split
    · rw [List.filter_cons_of_neg (by simpa using hd)]
    · rfl
  rw [hlive] at hp
  exact congrArg (min 65535) hp

/-- A VACANT record has no slot. -/
theorem State.PoolRight.dropsOf_vacant {s : State} (h : s.PoolRight) {id : Fin 96} (hv : s.conns[id].state = .vacant) :
    ∀ d ∈ s.drops, d.conn ≠ id := by
  rintro d hd rfl
  exact (h.2.2.1 d hd).2.2.1 hv

/-- An address is bad outside 1-30. -/
theorem badAddr_eq_false_iff {x : Nat} : badAddr x = false ↔ 1 ≤ x ∧ x ≤ 30 := by
  simp [badAddr, Nat.one_le_iff_ne_zero]

/-- What the checks of CREATE CONNECTION have found when none refuses (01 R11). -/
theorem createRefused_eq_none_iff {s : State} {a : List Byte} {id : Fin 96} : createRefused s a id = none ↔
    s.conns[id].state = .vacant ∧
      (arg a 1 ≤ 7 ∧ arg a 2 ≤ 2 ∧ (∀ x ∈ createAddrs a, 1 ≤ x ∧ x ≤ 30) ∧ (createAddrs a).Nodup) ∧
      (∀ x ∈ createAddrs a, ∀ d ∈ s.drops, d.line.val = arg a 1 → d.addr ≠ x) ∧
      (createAddrs a).length ≤ s.freeSlots := by
  have hbad : (createAddrs a).any badAddr = true ↔ ¬ ∀ x ∈ createAddrs a, 1 ≤ x ∧ x ≤ 30 := by
    simp only [List.any_eq_true, ← badAddr_eq_false_iff, not_forall, Bool.not_eq_false, exists_prop]
  have huse : (createAddrs a).any (fun x => s.drops.any (fun d => d.line.val == arg a 1 && d.addr == x)) = true ↔
      ¬ ∀ x ∈ createAddrs a, ∀ d ∈ s.drops, d.line.val = arg a 1 → d.addr ≠ x := by
    simp only [List.any_eq_true, Bool.and_eq_true, beq_iff_eq, not_forall, exists_prop, ne_eq, not_not]
  unfold createRefused
  split_ifs with h1 h2 h3 h4
  · exact ⟨nofun, fun k => absurd k.1 h1⟩
  · refine ⟨nofun, fun ⟨_, ⟨hl, hc, ha, hn⟩, _⟩ => ?_⟩
    rw [hbad] at h2
    rcases h2 with h | h | h | h
    · omega
    · omega
    · exact absurd ha h
    · exact absurd hn h
  · exact ⟨nofun, fun k => absurd k.2.2.1 (huse.1 h3)⟩
  · exact ⟨nofun, fun k => absurd k.2.2.2 (not_le.2 h4)⟩
  · rw [hbad] at h2
    rw [huse] at h3
    simp only [not_or, not_not, not_lt] at h1 h2 h3 h4
    exact ⟨fun _ => ⟨h1, h2, h3, h4⟩, fun _ => rfl⟩

/-- The drops of one connection among those CREATE CONNECTION makes and those that stood. -/
theorem dropsOf_create_perm (s : State) (a : List Byte) (id j : Fin 96) (l : Fin 8) : ((s.create a id l).dropsOf j).Perm
    ((if id = j then (createAddrs a).map (fun x => Drop.fresh l x id .create) else []) ++ s.dropsOf j) := by
  rw [State.create_eq]
  refine ((foldl_insertDrop_perm (fun x => Drop.fresh l x id .create) (createAddrs a) s.drops).filter _).trans (.of_eq ?_)
  rw [List.filter_append]
  congr 1
  split
  · next h => exact List.filter_eq_self.2 (by simp [Drop.fresh, h])
  · next h => exact List.filter_eq_nil_iff.2 (by simp [Drop.fresh, h])

theorem State.PoolRight.create {s : State} (h : s.PoolRight) {a : List Byte} {id : Fin 96} {l : Fin 8}
    (hc : createRefused s a id = none) (hl : arg a 1 = l.val) (h1 : 1 ≤ (createAddrs a).length)
    (h3 : (createAddrs a).length ≤ 3) : (s.create a id l).PoolRight := by
  obtain ⟨hv, ⟨_, _, haddr, hnodup⟩, hfree, hlen⟩ := createRefused_eq_none_iff.1 hc
  have hno := h.dropsOf_vacant hv
  have hperm : (s.create a id l).drops.Perm ((createAddrs a).map (fun x => Drop.fresh l x id .create) ++ s.drops) := by
    rw [State.create_eq]
    exact foldl_insertDrop_perm _ _ _
  have hconn : ∀ j : Fin 96, (s.create a id l).conns[j] =
      if id = j then createRecord a l s.conns[id].gen else s.conns[j] := by
    intro j
    rw [State.create_eq]
    exact getElem_set_fin _ _ _ _
  refine ⟨?_, ?_, fun d hd => ?_, fun j hj => ?_⟩
  · rw [State.create_eq]
    have hpair : (createAddrs a).Pairwise fun x y =>
        (Drop.fresh l x id .create).key ≠ (Drop.fresh l y id .create).key := by
      refine hnodup.imp fun hxy hk => hxy ?_
      simpa [Drop.key, Drop.fresh] using hk
    refine SortedDrops.foldl_insert h.1 hpair fun x hx e he hk => ?_
    · have hx30 := (haddr x hx).2
      have he30 := (h.2.2.1 e he).2.1
      obtain ⟨hel, hea⟩ := Drop.key_inj (d := e) (e := Drop.fresh l x id .create) (by omega) (by simp [Drop.fresh]; omega) hk
      exact hfree x hx e he (by rw [hel, hl]; rfl) hea
  · rw [hperm.length_eq, List.length_append, List.length_map]
    rw [State.freeSlots_eq] at hlen
    omega
  · rcases List.mem_append.1 (hperm.mem_iff.1 hd) with hd | hd
    · obtain ⟨x, hx, rfl⟩ := List.mem_map.1 hd
      refine ⟨(haddr x hx).1, (haddr x hx).2, ?_⟩
      rw [hconn]
      simp only [Drop.fresh, if_true]
      exact ⟨by simp [createRecord], rfl⟩
    · obtain ⟨hlo, hhi, hrest⟩ := h.2.2.1 d hd
      refine ⟨hlo, hhi, ?_⟩
      rw [hconn, if_neg (hno d hd).symm]
      exact hrest
  · rw [(dropsOf_create_perm s a id j l).length_eq, List.length_append]
    by_cases hij : id = j
    · subst hij
      have hnil : s.dropsOf id = [] := List.filter_eq_nil_iff.2 fun d hd => by simpa using hno d hd
      rw [if_pos rfl, hnil, List.length_map]
      exact ⟨h1, h3⟩
    · rw [hconn, if_neg hij] at hj
      rw [if_neg hij]
      simpa using h.2.2.2 j hj

/-- The drops CREATE CONNECTION makes are JOINING and add nothing to a demand. -/
theorem liveDemand_create (s : State) (a : List Byte) (id j : Fin 96) (l : Fin 8) :
    (s.create a id l).liveDemand j = s.liveDemand j := by
  have hp := (((dropsOf_create_perm s a id j l).filter (fun d => d.state == .live)).map (·.demand)).sum_eq
  rw [List.filter_append] at hp
  have hnil : (if id = j then (createAddrs a).map (fun x => Drop.fresh l x id .create) else []).filter
      (fun d => d.state == .live) = [] := by
    split
    · exact List.filter_eq_nil_iff.2 (by simp [Drop.fresh])
    · rfl
  rw [hnil, List.nil_append] at hp
  exact congrArg (min 65535) hp

/-! ## The laws -/

/-- The results of a pass leave every drop in its place, with its state and demand (02 R53). -/
theorem writeRec_drops (p : Snapshot) (s : State) (r : SnapRec) : ∃ f : Drop → Drop,
    (∀ d, (f d).line = d.line ∧ (f d).addr = d.addr ∧ (f d).conn = d.conn ∧ (f d).state = d.state ∧
      (f d).demand = d.demand) ∧ (State.writeRec p s r).drops = s.drops.map f := by
  have hshare : ∀ g : Drop → Nat, ∃ f : Drop → Drop,
      (∀ d, (f d).line = d.line ∧ (f d).addr = d.addr ∧ (f d).conn = d.conn ∧ (f d).state = d.state ∧
        (f d).demand = d.demand) ∧
      s.drops.map (fun d => if d.conn == r.id then { d with share := g d } else d) = s.drops.map f := by
    refine fun g => ⟨_, fun d => ?_, rfl⟩
    split <;> exact ⟨rfl, rfl, rfl, rfl, rfl⟩
  unfold State.writeRec
  dsimp only
  split
  · split
    · exact hshare _
    · exact ⟨fun d => d, fun _ => ⟨rfl, rfl, rfl, rfl, rfl⟩, (List.map_id' _).symm⟩
  · exact hshare _

namespace State.PoolAndDemand

/-- Slots changed in neither place, connection, state nor demand. -/
theorem map {x s t} (h : State.PoolAndDemand x s) {f : Drop → Drop}
    (hf : ∀ d, (f d).line = d.line ∧ (f d).addr = d.addr ∧ (f d).conn = d.conn ∧ (f d).state = d.state ∧
      (f d).demand = d.demand) (hd : t.drops = s.drops.map f)
    (hc : ∀ id : Fin 96, s.conns[id].SamePlace t.conns[id])
    (hdem : ∀ id : Fin 96, (t.conns[id].demand = s.conns[id].demand ∧ t.conns[id].refuses = s.conns[id].refuses) ∨
      (t.conns[id].demand = 0 ∧ t.conns[id].refuses = true)) : State.PoolAndDemand x t := by
  refine ⟨h.1.map (fun d => ⟨(hf d).1, (hf d).2.1, (hf d).2.2.1⟩) hd hc, fun id hx => ?_⟩
  rcases hdem id with ⟨hd', hr⟩ | ⟨hd', hr⟩
  · refine State.demand_of_same (h.2 id hx) hd' hr ?_
    unfold State.liveDemand
    rw [dropsOf_of_map (fun d => (hf d).2.2.1) hd, liveSum_map fun d _ => (hf d).2.2.2]
  · rw [hd', State.demandDue, hr]
    rfl

/-- No slot touched. -/
theorem conns {x s t} (h : State.PoolAndDemand x s) (hd : t.drops = s.drops)
    (hc : ∀ id : Fin 96, s.conns[id].SamePlace t.conns[id])
    (hdem : ∀ id : Fin 96, (t.conns[id].demand = s.conns[id].demand ∧ t.conns[id].refuses = s.conns[id].refuses) ∨
      (t.conns[id].demand = 0 ∧ t.conns[id].refuses = true)) : State.PoolAndDemand x t :=
  h.map (f := fun d => d) (fun _ => ⟨rfl, rfl, rfl, rfl, rfl⟩) (by rw [hd, List.map_id']) hc hdem

/-- A record changed in neither place, demand nor service. -/
theorem set {x s} {id : Fin 96} {c : Conn} (h : State.PoolAndDemand x s) (hc : s.conns[id].SamePlace c)
    (hdem : (c.demand = s.conns[id].demand ∧ c.refuses = s.conns[id].refuses) ∨ (c.demand = 0 ∧ c.refuses = true))
    {t : State} (ht : t.conns = s.conns.set id c) (hd : t.drops = s.drops) : State.PoolAndDemand x t := by
  refine h.conns hd (fun j => by rw [ht]; exact samePlace_set hc j) fun j => ?_
  rw [ht, getElem_set_fin]
  split
  · next e => exact e ▸ hdem
  · exact .inl ⟨rfl, rfl⟩

end State.PoolAndDemand

end Sys2Proof.Machine
end

section
/-! PROOFS. The drop pool and the demands (O56): the claim keeps the laws of the records. -/

namespace Sys2Proof.Machine

namespace State.PoolAndDemand

/-- One slot changed in its place: its connection's demand alone may be left behind, and none when that is RETIRING. -/
theorem modDrop {x s} {d : Drop} {f : Drop → Drop} (h : State.PoolAndDemand x s) (hd : d ∈ s.drops)
    (hx : x = some d.conn ∨ s.conns[d.conn].state = .retiring)
    (hf : ∀ e, (f e).line = e.line ∧ (f e).addr = e.addr ∧ (f e).conn = e.conn) :
    State.PoolAndDemand x (s.modDrop d.line d.addr f) := by
  have hg : ∀ e : Drop, (if e.line == d.line && e.addr == d.addr then f e else e).line = e.line ∧
      (if e.line == d.line && e.addr == d.addr then f e else e).addr = e.addr ∧
      (if e.line == d.line && e.addr == d.addr then f e else e).conn = e.conn := by
    intro e
    split
    · exact hf e
    · exact ⟨rfl, rfl, rfl⟩
  refine ⟨h.1.map hg rfl fun _ => .refl _, fun id hid => ?_⟩
  by_cases hc : d.conn = id
  · subst hc
    have hr : s.conns[d.conn].refuses = true := by
      rcases hx with rfl | hst
      · exact absurd rfl hid
      · rw [Conn.refuses, hst]; rfl
    have hdem := h.2 _ hid
    rw [State.demandDue, if_pos hr] at hdem
    show s.conns[d.conn].demand = if s.conns[d.conn].refuses then 0 else _
    rw [hdem, if_pos hr]
  · refine State.demand_of_same (h.2 id hid) rfl rfl ?_
    unfold State.liveDemand
    rw [dropsOf_of_map (fun e => (hg e).2.2) rfl, liveSum_map fun e he => ?_]
    obtain ⟨hm, hec⟩ := State.mem_dropsOf.1 he
    have hne : ¬ (e.line = d.line ∧ e.addr = d.addr) := fun ⟨hl, ha⟩ =>
      hc (h.1.eq_of_place hd hm hl ha ▸ hec)
    rw [if_neg (by simpa using hne)]
    exact ⟨rfl, rfl⟩

/-- The demand of a connection recomputed (01 R3, 06 R120). -/
theorem recompute {s} {id : Fin 96} {noted} (h : State.PoolAndDemand (some id) s) (hst : s.conns[id].state ≠ .retiring)
    (hv : s.conns[id].state = .vacant → ∃ d ∈ s.drops, d.conn = id) : State.PoolAndDemand none (s.recompute id noted) := by
  have hserved : s.conns[id].refuses = false := by
    have hnv : s.conns[id].state ≠ .vacant := by
      intro k
      obtain ⟨d, hd, hc⟩ := hv k
      exact h.1.dropsOf_vacant k d hd hc
    simp only [Conn.refuses, Bool.or_eq_false_iff, beq_eq_false_iff_ne]
    exact ⟨hnv, hst⟩
  have hconns := State.recompute_conns s id noted
  have hdrops := (State.recompute_rest s id noted).1
  have hlive : ∀ j, (s.recompute id noted).liveDemand j = s.liveDemand j := by
    intro j
    simp only [State.liveDemand, State.dropsOf, hdrops]
  rw [hserved, if_neg Bool.false_ne_true] at hconns
  refine ⟨h.1.conns hdrops fun j => ?_, fun j _ => ?_⟩
  · rw [hconns]
    refine samePlace_set ?_ j
    exact ⟨Iff.rfl, rfl⟩
  · by_cases hj : id = j
    · subst hj
      rw [State.demandDue, hlive, hconns, getElem_set_fin, if_pos rfl]
      have hr : ({ s.conns[id] with demand := s.liveDemand id } : Conn).refuses = false := hserved
      rw [hr]
      rfl
    · refine State.demand_of_same (h.2 j (by simpa using hj)) ?_ ?_ (hlive j) <;>
        rw [hconns, getElem_set_fin, if_neg hj]

/-- A record returned to VACANT with its slots freed (01 R21). -/
theorem vacate {x s} {id : Fin 96} (h : State.PoolAndDemand x s) :
    State.PoolAndDemand x ((s.freeSlotsOf id).modConn id (fun c => Conn.vacant c.gen)) := by
  have hof : ∀ j, id ≠ j → ((s.freeSlotsOf id).modConn id (fun c => Conn.vacant c.gen)).dropsOf j = s.dropsOf j := by
    intro j hj
    simp only [State.dropsOf, State.modConn_drops, State.freeSlotsOf_drops, List.filter_filter]
    refine List.filter_congr fun e _ => ?_
    by_cases he : e.conn = j
    · simp [he, Ne.symm hj]
    · simp [he]
  have hself : ((s.freeSlotsOf id).modConn id (fun c => Conn.vacant c.gen)).conns[id] = Conn.vacant s.conns[id].gen :=
    State.modConn_get_self _ _ _
  have hother : ∀ j : Fin 96, id ≠ j →
      ((s.freeSlotsOf id).modConn id (fun c => Conn.vacant c.gen)).conns[j] = s.conns[j] :=
    fun j hj => State.modConn_other _ hj
  obtain ⟨hsort, hlen, hslot, hcount⟩ := h.1
  refine ⟨⟨SortedDrops.filter hsort _, (List.length_filter_le _ _).trans hlen, fun d hd => ?_, fun j hj => ?_⟩,
    fun j hx => ?_⟩
  · obtain ⟨hd, hc⟩ := List.mem_filter.1 hd
    have hne : id ≠ d.conn := by
      rintro rfl
      simp at hc
    rw [hother d.conn hne]
    exact hslot d hd
  · by_cases hij : id = j
    · subst hij
      rw [hself] at hj
      exact absurd rfl hj
    · rw [hof j hij]
      rw [hother j hij] at hj
      exact hcount j hj
  · by_cases hij : id = j
    · subst hij
      rw [State.demandDue, hself]
      rfl
    · refine State.demand_of_same (h.2 j hx) ?_ ?_ ?_
      · rw [hother j hij]
      · rw [hother j hij]
      · simp only [State.liveDemand, hof j hij]

theorem create {s a} {id : Fin 96} {l : Fin 8} (h : State.PoolAndDemand none s) (hc : createRefused s a id = none)
    (hl : arg a 1 = l.val) (h1 : 1 ≤ (createAddrs a).length) (h3 : (createAddrs a).length ≤ 3) :
    State.PoolAndDemand none (s.create a id l) := by
  refine ⟨h.1.create hc hl h1 h3, fun j _ => ?_⟩
  have hconn : (s.create a id l).conns[j] = if id = j then createRecord a l s.conns[id].gen else s.conns[j] := by
    rw [State.create_eq]
    exact getElem_set_fin _ _ _ _
  have hlive := liveDemand_create s a id j l
  by_cases hj : id = j
  · subst hj
    have hnil : s.dropsOf id = [] := List.filter_eq_nil_iff.2 fun d hd => by
      simpa using h.1.dropsOf_vacant (createRefused_eq_none_iff.1 hc).1 d hd
    rw [if_pos rfl] at hconn
    rw [State.demandDue, hlive, hconn, State.liveDemand, hnil]
    rfl
  · rw [if_neg hj] at hconn
    exact State.demand_of_same (h.2 j nofun) (by rw [hconn]) (by rw [hconn]) hlive

theorem takeSlot {s} {id : Fin 96} {addr} (h : State.PoolAndDemand none s) (hr : s.conns[id].refuses = false)
    (ha : badAddr addr = false) (hn : (s.dropsOf id).length < 3) (hf : s.findDrop s.conns[id].line addr = none)
    (hfree : s.freeSlots ≠ 0) :
    State.PoolAndDemand none (s.takeSlot (Drop.fresh s.conns[id].line addr id .add)) := by
  obtain ⟨hlo, hhi⟩ := badAddr_eq_false_iff.1 ha
  rw [State.freeSlots_eq] at hfree
  refine ⟨h.1.takeSlot (d := Drop.fresh s.conns[id].line addr id .add) hr rfl hlo hhi hn hf (by omega), fun j hx => ?_⟩
  exact State.demand_of_same (h.2 j hx) rfl rfl (liveDemand_takeSlot s (by simp [Drop.fresh]) j)

end State.PoolAndDemand

/-- The drop pool and the demands: a claim that the laws of the records keep. -/
theorem poolAndDemand_law : RecordLaw State.PoolAndDemand where
  frame hs k := by
    refine hs.conns k.2.1 (fun j => ?_) fun j => ?_ <;> rw [k.1]
    · exact .refl _
    · exact .inl ⟨rfl, rfl⟩
  weaken hs := ⟨hs.1, fun id _ => hs.2 id nofun⟩
  move hm hs := hs.set hm.samePlace hm.demand rfl rfl
  mapDrops hf hs := hs.map hf rfl (fun _ => .refl _) fun _ => .inl ⟨rfl, rfl⟩
  modDrop hd hx hf hs := hs.modDrop hd hx hf
  recompute hst hv hs := hs.recompute hst hv
  takeSlot hr ha hn hf hfree hs := by
    obtain ⟨hp, hd⟩ := hs.takeSlot hr ha hn hf hfree
    exact ⟨hp, fun id _ => hd id nofun⟩
  freeSlot {s id d} hd hn hs := by
    refine ⟨hs.1.freeSlot hd hn, fun j hj => State.demand_of_same (hs.2 j nofun) rfl rfl ?_⟩
    obtain ⟨hm, hc⟩ := State.mem_dropsOf.1 hd
    rw [State.liveDemand, hs.1.dropsOf_freeSlot hm (by rw [hc]; simpa using hj)]
    rfl
  create hc hl h1 h3 hs := hs.create hc hl h1 h3
  vacate _ hs := hs.vacate
  snapshot {s} hs := by
    refine hs.conns rfl (fun j => ?_) fun j => ?_ <;> rw [State.snapshot_conn] <;> split
    · exact .refl _
    · exact .refl _
    · exact .inl ⟨rfl, rfl⟩
    · exact .inl ⟨rfl, rfl⟩
  dropSnap hs := hs
  results {s p} _ hs := by
    refine writeRecs_keep (P := State.PoolAndDemand none) (fun t r ht => ?_) _ hs
    obtain ⟨f, hf, hd⟩ := writeRec_drops p t r
    refine ht.map hf hd (fun j => ?_) fun j => ?_ <;> rw [State.writeRec_conns]
    · refine samePlace_set ?_ j
      exact ⟨Iff.rfl, rfl⟩
    · rw [getElem_set_fin]
      split
      · next e => subst e; exact .inl ⟨rfl, rfl⟩
      · exact .inl ⟨rfl, rfl⟩
  reset trip selLow := by
    have hv : ∀ id : Fin 96, (State.afterReset trip selLow).conns[id] = Conn.vacant 0 := fun id => by
      simp [State.afterReset]
    refine ⟨⟨List.Pairwise.nil, Nat.zero_le _, nofun, fun id hid => ?_⟩, fun id _ => ?_⟩
    · rw [hv] at hid
      exact absurd rfl hid
    · rw [State.demandDue, hv]
      rfl

/-- Settles O56: the pool and every demand are kept by the laws of the records, so by every step. -/
theorem everyStepKeepsPoolAndDemand : Obligations.EveryStepKeepsPoolAndDemand := by
  intro s t hpool hdemand he
  have ht := poolAndDemand_law.step he ⟨hpool, fun id _ => s.demandRight_iff.1 hdemand id⟩
  exact ⟨ht.1, t.demandRight_iff.2 fun id => ht.2 id nofun⟩

end Sys2Proof.Machine
end

section
/-! PROOFS. Part reset (O3, O60). -/

namespace Sys2Proof.Machine

/-! ## The records after reset -/

theorem State.afterReset_conn (trip low : Bool) (id : Fin 96) : (State.afterReset trip low).conns[id] = Conn.vacant 0 := by
  simp [State.afterReset]

theorem State.afterReset_line (trip low : Bool) (l : Fin 8) : (State.afterReset trip low).lines[l] = Line.reset := by
  simp [State.afterReset]

theorem State.afterReset_branch (trip low : Bool) (n : Fin 8) :
    (State.afterReset trip low).branches[n] = Branch.reset := by
  simp [State.afterReset]

theorem State.afterReset_drive (trip low : Bool) (n : Fin 8) : (State.afterReset trip low).drives[n] = Drive.reset := by
  simp [State.afterReset]

/-- The machine after reset, and after part reset from every state, but for the queue and the free values read. -/
theorem eq_afterReset {s t : State} {trip : Bool} (h : t = State.reset ∨ exec (.partReset trip) s = .next t) :
    ∃ trip low free queue, t = { State.afterReset trip low with free := free, pending := queue } := by
  rcases h with rfl | h
  · exact ⟨false, false, 0, [], rfl⟩
  · exact ⟨trip, s.port.selLow, s.free, s.pending, (Host.Outcome.next.inj h).symm⟩

/-- No cause is pending after reset, and no unit set holds a unit (10 R203). -/
theorem Attention.reset_clear (c : Cause) : Attention.reset.isPending c = false ∧ Attention.reset.unitsOf c = 0 := by
  cases c <;> decide

theorem Attention.reset_unitsRight : Attention.reset.UnitsRight := by
  intro c _
  simp [Attention.reset_clear c]

/-- The lines, branches and drives after reset agree with themselves (05 R110, 07 R154, 08 R175). -/
theorem units_reset_right : Line.reset.Right ∧ Drive.reset.Right ∧ gateAllowed Branch.reset.mode Branch.reset.gate = true := by
  decide

theorem Attention.reset_atn : Attention.reset.atn = Attention.reset.atnDue := by decide

/-- Settles O60: the laws of the records hold of the state after reset, and lines, branches and drives stand at values that
agree. -/
theorem resetMeetsInvariants : Obligations.ResetMeetsInvariants := by
  intro s t trip h
  obtain ⟨tr, low, free, queue, rfl⟩ := eq_afterReset h
  have hpool := poolAndDemand_law.reset tr low
  have hgrants := grantsRight_law.reset tr low
  obtain ⟨hline, hdrive, hgate⟩ := units_reset_right
  refine ⟨⟨rfl, Attention.reset_atn⟩, Attention.reset_unitsRight, standsRight_law.reset tr low, hgrants,
    ⟨List.nodup_nil, nofun, hgrants.2⟩, hpool.1, ?_, fun n => ?_, fun n => ?_, fun l => ?_⟩
  · exact (State.demandRight_iff _).2 fun id => hpool.2 id nofun
  · rw [State.afterReset_drive, State.afterReset_branch]
    exact ⟨hdrive, Nat.zero_le _⟩
  · rw [State.afterReset_branch, State.afterReset_branch]
    exact ⟨hgate, Nat.zero_le _, Nat.zero_le _, Nat.zero_le _, rfl, nofun⟩
  · rw [State.afterReset_line]
    exact hline

/-- Settles O3: the state after part reset, read field by field. -/
theorem partResetState : Obligations.PartResetState := by
  refine ⟨fun trip s => ⟨_, rfl, rfl, fun id => ?_, ?_⟩,
    fun trip s => ⟨_, rfl, rfl, rfl, rfl, rfl, rfl, rfl, rfl, ?_, fun l => ?_⟩,
    fun trip s => ⟨_, rfl, fun n => ?_, fun n => ?_, ?_⟩⟩
  · rw [State.afterReset_conn]
    decide
  · simp [State.afterReset, Engine.reset, State.freeSlots, Config.slots, State.computing]
  · cases trip <;> rfl
  · rw [State.afterReset_line]
    decide
  · rw [State.afterReset_branch]
    decide
  · rw [State.afterReset_drive]
    decide
  · have hlisten : (Port.reset s.port.selLow).listening = false := by simp [Port.listening, Port.reset]
    have hlevel : ∀ g : Fin 6, Attention.reset.levels[g] = 0 := by decide
    exact ⟨rfl, rfl, rfl, rfl, rfl, rfl, rfl, rfl, rfl, hlisten, rfl, Attention.reset_clear, hlevel, rfl, rfl, rfl⟩

end Sys2Proof.Machine
end

section
/-! PROOFS. Host commands sent to a ready port, whatever the number of their parameter bytes (09 R180 to R185); the reads'
entry to DATA (O8). -/

namespace Sys2Proof.Machine

/-- A command's code names it (11 R208). -/
theorem Cmd.ofCode_code (c : Cmd) : Cmd.ofCode c.code = some c := by cases c <;> rfl

/-- One parameter byte more. -/
theorem State.send_append (s : State) (c : Cmd) (p : List Byte) (b : Byte) (home : Bool) :
    s.send c (p ++ [b]) home = (s.send c p home).paramByte b home := by
  simp [State.send, List.foldl_append]

/-- A drop count is refused at the drop count byte alone (01 R11). -/
theorem badDropCount_eq_false_iff {a : List Byte} : badDropCount .createConnection a = false ↔
    (a.length = 11 → validDropCount (a.getD 10 0).toNat = true) := by
  simp [badDropCount]

/-- A command that lacks a byte lacked one before it as well, and its drop count was not refused (01 R11). -/
theorem Cmd.incomplete_of_append {c : Cmd} {q : List Byte} {b : Byte} (h : (q ++ [b]).length < c.paramsNeeded (q ++ [b])) :
    q.length < c.paramsNeeded q ∧ badDropCount c (q ++ [b]) = false := by
  have hlen : (q ++ [b]).length = q.length + 1 := by simp
  rw [hlen] at h
  by_cases hc : c = .createConnection
  · subst hc
    rw [badDropCount_eq_false_iff, hlen]
    simp only [Cmd.paramsNeeded, hlen] at h ⊢
    rcases Nat.lt_trichotomy q.length 10 with hq | hq | hq
    · rw [if_pos (by omega)]
      exact ⟨by omega, fun k => by omega⟩
    · rw [if_neg (by omega)] at h
      rw [if_pos (by omega)]
      refine ⟨by omega, fun _ => by_contra fun hv => ?_⟩
      rw [if_neg hv] at h
      omega
    · rw [if_neg (by omega), List.getD_append _ _ _ _ hq] at h
      rw [if_neg (by omega)]
      refine ⟨by omega, fun k => by omega⟩
  · rw [Cmd.paramsNeeded_other hc] at h ⊢
    exact ⟨by omega, badDropCount_other hc _⟩

/-- A read takes a fixed number of parameter bytes. -/
theorem Cmd.ne_create_of_read {c : Cmd} (h : c.kind = .read) : c ≠ .createConnection := by
  rintro rfl
  cases h

/-- A parameter byte of an open read command (09 R182). -/
theorem State.paramByte_read {s : State} (h : s.Ready) {c : Cmd} (hk : c.kind = .read) (pos : Nat) (held : List Byte)
    (b : Byte) (home : Bool) : ({ s with port := s.port.opened c pos held 0 false } : State).paramByte b home =
      ((s.acting c pos held).collectRead c (held ++ [b])).finish := by
  have hl : s.port.selLow = true ∧ s.port.seenHigh = true := (Port.listening_iff _).1 h.1
  rw [State.paramByte_collecting (by simp [Port.opened, Port.closed, Port.reset, Port.listening, hl]) rfl]
  show (match c.kind with | .whole => _ | .read => _ | .field => _ : State).finish = _
  rw [hk]
  rfl

/-- A whole or read command that lacks parameter bytes is open, and nothing else has happened (09 R182). -/
theorem State.send_incomplete {s : State} (h : s.Ready) {c : Cmd} (hk : c.kind ≠ .field) {p : List Byte} (home : Bool)
    (hp : p.length < c.paramsNeeded p) :
    s.send c p home = { s with port := s.port.opened c p.length p 0 false } := by
  induction p using List.reverseRecOn with
  | nil =>
    have hn : c.paramCount ≠ 0 := by
      by_cases hc : c = .createConnection
      · subst hc; decide
      · rw [Cmd.paramsNeeded_other hc] at hp
        exact Nat.pos_iff_ne_zero.1 hp
    show s.commandByte c.code = _
    rw [State.commandByte_ready h, Cmd.ofCode_code]
    simp only [State.openCmd_params s c hn]
    exact State.finish_of_settled h.2.2
  | append_singleton q b ih =>
    obtain ⟨hq, hb⟩ := Cmd.incomplete_of_append hp
    rw [State.send_append, ih hq, List.length_append, List.length_singleton]
    cases hkind : c.kind with
    | whole => exact State.paramByte_more h hkind _ _ _ _ hb hp.ne
    | read =>
      rw [State.paramByte_read h hkind, State.collectRead, if_neg]
      · exact State.finish_of_settled h.2.2
      · rw [Cmd.paramsNeeded_other (Cmd.ne_create_of_read hkind)] at hp
        exact hp.ne
    | field => exact absurd hkind hk

/-- A whole command with all its parameter bytes acts in the event of the last one (09 R183). -/
theorem State.send_whole {s : State} (h : s.Ready) {c : Cmd} (hk : c.kind = .whole) (q : List Byte) (b : Byte) (home : Bool)
    (hq : q.length < c.paramsNeeded q) (hb : badDropCount c (q ++ [b]) = false)
    (hn : (q ++ [b]).length = c.paramsNeeded (q ++ [b])) :
    s.send c (q ++ [b]) home = ((s.acting c q.length q).finishWhole c (q ++ [b]) home).finish := by
  rw [State.send_append, State.send_incomplete h (by rw [hk]; decide) home hq, State.paramByte_last h hk _ _ _ _ hb hn]

/-- A whole command of two parameter bytes, sent to a ready port. -/
theorem State.send_two {s : State} (h : s.Ready) {c : Cmd} (hk : c.kind = .whole) (hn : c.paramCount = 2)
    (hne : c ≠ .createConnection) (a b : Byte) (home : Bool) :
    s.send c [a, b] home = ((s.acting c 1 [a]).finishWhole c [a, b] home).finish :=
  State.send_whole h hk [a] b home (by rw [Cmd.paramsNeeded_other hne, hn]; exact Nat.one_lt_two) (badDropCount_other hne _)
    (by rw [Cmd.paramsNeeded_other hne, hn]; rfl)

/-- A read without parameter bytes is in DATA after its command byte (09 R181, R185). -/
theorem State.send_read_zero {s : State} (h : s.Ready) {c : Cmd} (hk : c.kind = .read) (hn : c.paramCount = 0)
    (home : Bool) : s.send c [] home =
      { s with port := s.port.reading c [] (readCheck c [] == .ok) (entryResult c [] s.port.result) } := by
  show s.commandByte c.code = _
  rw [State.commandByte_ready h, Cmd.ofCode_code]
  dsimp only
  rw [State.openCmd_read _ _ hn hk]
  exact State.finish_of_settled h.2.2

/-- A read with parameter bytes is in DATA after the last of them (09 R182, R185). -/
theorem State.send_read {s : State} (h : s.Ready) {c : Cmd} (hk : c.kind = .read) (q : List Byte) (b : Byte)
    (home : Bool) (hn : q.length + 1 = c.paramCount) : s.send c (q ++ [b]) home =
      { s with
        port := s.port.reading c (q ++ [b]) (readCheck c (q ++ [b]) == .ok) (entryResult c (q ++ [b]) s.port.result) } := by
  have hq : q.length < c.paramsNeeded q := by
    rw [Cmd.paramsNeeded_other (Cmd.ne_create_of_read hk), ← hn]
    exact Nat.lt_succ_self _
  rw [State.send_append, State.send_incomplete h (by rw [hk]; decide) home hq, State.paramByte_read h hk,
    State.collectRead, if_pos (by rw [List.length_append, List.length_singleton, hn])]
  exact State.finish_of_settled h.2.2

/-- The port a checked read leaves: refused with the code of its check, or accepted. -/
theorem Port.reading_checked {p : Port} {c : Cmd} {a : List Byte} {bad : Prop} [Decidable bad] {r : Result}
    (hr : r ≠ .ok) (hc : c ≠ .readResult) (hcheck : readCheck c a = if bad then r else .ok) :
    p.reading c a (readCheck c a == .ok) (entryResult c a p.result) =
      if bad then p.reading c a false r else p.reading c a true .ok := by
  rw [entryResult, if_neg hc, hcheck]
  split
  · rw [beq_false_of_ne hr]
  · rfl

/-- Settles O8: a read without parameter bytes enters DATA in the event of its command byte, one with parameter bytes in the
event of the last of them, with the result of its check. -/
theorem readsEnterData : Obligations.ReadsEnterData := by
  refine ⟨fun s h => ?_, fun s a b h => ?_⟩
  · have key : ∀ c : Cmd, c.kind = .read → c.paramCount = 0 → ∀ r, entryResult c [] s.port.result = r →
        readCheck c [] = .ok → (Host.Outcome.next (s.send c [] false) : Answer) =
          .next { s with port := s.port.reading c [] true r } := by
      rintro c hk hn r rfl hok
      rw [State.send_read_zero h hk hn, hok]
      rfl
    exact ⟨key _ rfl rfl _ rfl rfl, key _ rfl rfl _ rfl rfl, key _ rfl rfl _ rfl rfl, key _ rfl rfl _ rfl rfl,
      key _ rfl rfl _ rfl rfl, key _ rfl rfl _ rfl rfl, key _ rfl rfl _ rfl rfl⟩
  · have key : ∀ (c : Cmd) (q : List Byte) (x : Byte) (bad : Prop) [Decidable bad] (r : Result), c.kind = .read →
        q.length + 1 = c.paramCount → r ≠ .ok → c ≠ .readResult →
        readCheck c (q ++ [x]) = (if bad then r else .ok) →
        (Host.Outcome.next (s.send c (q ++ [x]) false) : Answer) = .next { s with
          port := if bad then s.port.reading c (q ++ [x]) false r else s.port.reading c (q ++ [x]) true .ok } := by
      intro c q x bad _ r hk hn hr hc hcheck
      rw [State.send_read h hk q x false hn, Port.reading_checked hr hc hcheck]
    have hunit : (if arg [a] 0 < 8 then Result.ok else .badParam) = if 7 < a.toNat then .badParam else .ok := by
      rw [arg_cons_zero, ← ite_not]
      exact if_congr (by omega) rfl rfl
    refine ⟨key .readConnection [] a _ _ rfl rfl nofun nofun ?_, key .readDrop [a] b _ _ rfl rfl nofun nofun ?_,
      key .readLine [] a _ _ rfl rfl nofun nofun hunit, key .readBranch [] a _ _ rfl rfl nofun nofun hunit,
      key .readValve [] a _ _ rfl rfl nofun nofun hunit⟩
    · show (if arg [a] 0 < 96 then Result.ok else .badId) = _
      rw [arg_cons_zero, ← ite_not]
      exact if_congr (by omega) rfl rfl
    · show (if 7 < arg [a, b] 0 || badAddr (arg [a, b] 1) then Result.badParam else .ok) = _
      refine if_congr ?_ rfl rfl
      simp only [badAddr, Bool.or_eq_true, decide_eq_true_eq]
      rfl

end Sys2Proof.Machine
end

section
/-! PROOFS. The bytes of record and drop images (O10): each byte of an image is one of a number, of a pair of bytes, or of
flags. -/

namespace Sys2Proof.Machine

/-! ## Bytes of an image -/

/-- A byte that carries a number. -/
theorem arg_of_b1 {d : List Byte} {i n : Nat} (h : d.getD i 0 = BitVec.ofNat 8 n) : arg d i = n % 256 := by
  rw [arg, h, BitVec.toNat_ofNat]

/-- A byte that carries a number below 256. -/
theorem arg_of_b1_lt {d : List Byte} {i n : Nat} (h : d.getD i 0 = BitVec.ofNat 8 n) (hn : n < 256) : arg d i = n :=
  (arg_of_b1 h).trans (Nat.mod_eq_of_lt hn)

/-- Two bytes that carry a number, most significant first. -/
theorem arg2_of_b2 {d : List Byte} {i n : Nat} (hi : d.getD i 0 = BitVec.ofNat 8 (n / 256))
    (lo : d.getD (i + 1) 0 = BitVec.ofNat 8 n) : arg2 d i = n % 65536 := by
  rw [arg2, arg_of_b1 hi, arg_of_b1 lo]
  omega

/-- Two bytes that carry a signed value in two's complement. -/
theorem arg2_of_i2 {d : List Byte} {i : Nat} {v : Int} (hi : d.getD i 0 = BitVec.ofNat 8 ((v % 65536).toNat / 256))
    (lo : d.getD (i + 1) 0 = BitVec.ofNat 8 (v % 65536).toNat) : (arg2 d i : Int) = v % 65536 := by
  rw [arg2_of_b2 hi lo]
  omega

/-- The number of a list of flags, bit 0 first. -/
def flagNumber (bits : List Bool) : Nat := bits.foldr (fun b acc => (if b then 1 else 0) + 2 * acc) 0

/-- A flag is the bit of its place. -/
theorem testBit_flagNumber (bits : List Bool) (k : Nat) : (flagNumber bits).testBit k = bits.getD k false := by
  induction bits generalizing k with
  | nil => exact Nat.zero_testBit k
  | cons b bs ih =>
    have hcons : flagNumber (b :: bs) = Nat.bit b (flagNumber bs) := by
      cases b <;> simp [flagNumber, Nat.bit, Nat.add_comm]
    rw [hcons]
    cases k with
    | zero => exact Nat.testBit_bit_zero _ _
    | succ k => rw [Nat.testBit_bit_succ, ih]; rfl

/-- So many flags take so many bits. -/
theorem flagNumber_lt (bits : List Bool) : flagNumber bits < 2 ^ bits.length := by
  induction bits with
  | nil => exact Nat.one_pos
  | cons b bs ih =>
    simp only [flagNumber, List.foldr_cons, List.length_cons, Nat.pow_succ] at ih ⊢
    split <;> omega

/-- A bit of a byte of flags. -/
theorem bit_of_flags {d : List Byte} {i k : Nat} (bits : List Bool) (h : d.getD i 0 = BitVec.ofNat 8 (flagNumber bits))
    (hk : k < 8) : (d.getD i 0).getLsbD k = bits.getD k false := by
  rw [h, BitVec.getLsbD_ofNat, testBit_flagNumber, decide_eq_true hk, Bool.true_and]

/-- The bits of a byte of flags that carry none are 0. -/
theorem arg_flags_lt {d : List Byte} {i : Nat} (bits : List Bool) (h : d.getD i 0 = BitVec.ofNat 8 (flagNumber bits)) :
    arg d i < 2 ^ bits.length := by
  rw [arg_of_b1 h]
  exact (Nat.mod_le _ _).trans_lt (flagNumber_lt bits)

/-- A byte that names a connection, read back. -/
theorem connOfByte (id : Fin 96) : Fin.ofNat 96 (arg [BitVec.ofNat 8 id.val] 0) = id := by
  have hid := id.isLt
  refine Fin.ext ?_
  simp only [arg_cons_zero, BitVec.toNat_ofNat, Fin.ofNat]
  omega

/-- A byte that names a line, a branch or a drive, read back. -/
theorem unitOfByte (l : Fin 8) (rest : List Byte) : Fin.ofNat 8 (arg (BitVec.ofNat 8 l.val :: rest) 0) = l := by
  have hl := l.isLt
  refine Fin.ext ?_
  simp only [arg_cons_zero, BitVec.toNat_ofNat, Fin.ofNat]
  omega

/-! ## The images -/

/-- The record image, byte by byte (11 R205). -/
theorem recordImage_eq (id : Fin 96) (c : Conn) (ds : List Drop) : recordImage id c ds =
    [BitVec.ofNat 8 id, BitVec.ofNat 8 c.state.code, BitVec.ofNat 8 c.gen, BitVec.ofNat 8 c.line, BitVec.ofNat 8 c.cls,
     BitVec.ofNat 8 c.effClass,
     BitVec.ofNat 8 (flagNumber [c.hold.isSome, c.fallback.isSome, c.lowDt, c.curtailed, c.ramp, c.expired, c.moved]),
     BitVec.ofNat 8 (flagNumber [c.comms, c.lineCause, c.supervisor]),
     BitVec.ofNat 8 (c.sub / 256), BitVec.ofNat 8 c.sub, BitVec.ofNat 8 c.dt,
     BitVec.ofNat 8 (c.maxFlow / 256), BitVec.ofNat 8 c.maxFlow,
     BitVec.ofNat 8 (optImage c.fallback / 256), BitVec.ofNat 8 (optImage c.fallback),
     BitVec.ofNat 8 (optImage c.hold / 256), BitVec.ofNat 8 (optImage c.hold),
     BitVec.ofNat 8 (c.demand / 256), BitVec.ofNat 8 c.demand, BitVec.ofNat 8 (c.granted / 256),
     BitVec.ofNat 8 c.granted, BitVec.ofNat 8 (c.ceiling / 256), BitVec.ofNat 8 c.ceiling, BitVec.ofNat 8 c.score,
     BitVec.ofNat 8 ds.length, BitVec.ofNat 8 ((ds.map (·.addr)).getD 0 0), BitVec.ofNat 8 ((ds.map (·.addr)).getD 1 0),
     BitVec.ofNat 8 ((ds.map (·.addr)).getD 2 0), BitVec.ofNat 8 (c.holdLeft / 256), BitVec.ofNat 8 c.holdLeft] := by
  unfold recordImage addrImage flags b1 b2
  simp only [List.cons_append, List.nil_append]
  rfl

/-- The 30 bytes of a record image (11 R205). -/
theorem recordImage_bytes (id : Fin 96) (c : Conn) (ds : List Drop) {d : List Byte} (hd : d = recordImage id c ds) :
    d.length = 30 ∧ arg d 0 = id.val ∧
      arg d 1 = c.state.code ∧
      arg d 2 = c.gen % 256 ∧ arg d 3 = c.line.val ∧ arg d 4 = c.cls % 256 ∧
      arg d 5 = (if c.cls = 1 ∧ c.lowDt = true then 2 else c.cls % 256) ∧
      (d.getD 6 0).getLsbD 0 = c.hold.isSome ∧ (d.getD 6 0).getLsbD 1 = c.fallback.isSome ∧
      (d.getD 6 0).getLsbD 2 = c.lowDt ∧ (d.getD 6 0).getLsbD 3 = c.curtailed ∧
      (d.getD 6 0).getLsbD 4 = c.ramp ∧ (d.getD 6 0).getLsbD 5 = c.expired ∧
      (d.getD 6 0).getLsbD 6 = c.moved ∧ (d.getD 6 0).getLsbD 7 = false ∧
      (d.getD 7 0).getLsbD 0 = c.comms ∧ (d.getD 7 0).getLsbD 1 = c.lineCause ∧
      (d.getD 7 0).getLsbD 2 = c.supervisor ∧ arg d 7 < 8 ∧
      arg2 d 8 = c.sub % 65536 ∧ arg d 10 = c.dt % 256 ∧ arg2 d 11 = c.maxFlow % 65536 ∧
      arg2 d 13 = c.fallback.getD 65535 % 65536 ∧ arg2 d 15 = c.hold.getD 65535 % 65536 ∧
      arg2 d 17 = c.demand % 65536 ∧ arg2 d 19 = c.granted % 65536 ∧
      arg2 d 21 = c.ceiling % 65536 ∧ arg d 23 = c.score % 256 ∧ arg d 24 = ds.length % 256 ∧
      (∀ k < 3, arg d (25 + k) = (ds.map (·.addr)).getD k 0 % 256) ∧ arg2 d 28 = c.holdLeft % 65536 := by
  rw [recordImage_eq] at hd
  have hid : id.val < 256 := id.isLt.trans (by decide)
  have hline : c.line.val < 256 := c.line.isLt.trans (by decide)
  have hflags := fun k => bit_of_flags (d := d) (i := 6) (k := k)
    [c.hold.isSome, c.fallback.isSome, c.lowDt, c.curtailed, c.ramp, c.expired, c.moved] (by rw [hd]; rfl)
  have hcauses := fun k => bit_of_flags (d := d) (i := 7) (k := k) [c.comms, c.lineCause, c.supervisor] (by rw [hd]; rfl)
  have hstate : c.state.code < 256 := by cases c.state <;> decide
  have heff := arg_of_b1 (d := d) (i := 5) (n := c.effClass) (by rw [hd]; rfl)
  subst hd
  refine ⟨rfl, arg_of_b1_lt rfl hid, arg_of_b1_lt rfl hstate, arg_of_b1 rfl, arg_of_b1_lt rfl hline, arg_of_b1 rfl,
    heff.trans ?_, hflags 0 (by decide), hflags 1 (by decide), hflags 2 (by decide), hflags 3 (by decide),
    hflags 4 (by decide), hflags 5 (by decide), hflags 6 (by decide), hflags 7 (by decide), hcauses 0 (by decide),
    hcauses 1 (by decide), hcauses 2 (by decide), arg_flags_lt [c.comms, c.lineCause, c.supervisor] rfl,
    arg2_of_b2 rfl rfl, arg_of_b1 rfl, arg2_of_b2 rfl rfl, arg2_of_b2 rfl rfl, arg2_of_b2 rfl rfl, arg2_of_b2 rfl rfl,
    arg2_of_b2 rfl rfl, arg2_of_b2 rfl rfl, arg_of_b1 rfl, arg_of_b1 rfl, fun k hk => ?_, arg2_of_b2 rfl rfl⟩
  · unfold Conn.effClass
    split <;> rfl
  · match k, hk with
    | 0, _ => exact arg_of_b1 rfl
    | 1, _ => exact arg_of_b1 rfl
    | 2, _ => exact arg_of_b1 rfl

/-- The drop image, byte by byte (11 R205). -/
theorem dropImage_eq (x : Drop) (gen : Nat) : dropImage x gen =
    [BitVec.ofNat 8 x.conn, BitVec.ofNat 8 gen, BitVec.ofNat 8 x.state.code, BitVec.ofNat 8 x.origin.code,
     BitVec.ofNat 8 x.missed, BitVec.ofNat 8 (x.demand / 256), BitVec.ofNat 8 x.demand,
     BitVec.ofNat 8 ((x.supply % 65536).toNat / 256), BitVec.ofNat 8 (x.supply % 65536).toNat,
     BitVec.ofNat 8 ((x.ret % 65536).toNat / 256), BitVec.ofNat 8 (x.ret % 65536).toNat,
     BitVec.ofNat 8 (x.flow / 256), BitVec.ofNat 8 x.flow, BitVec.ofNat 8 x.valve,
     BitVec.ofNat 8 (flagNumber [x.localOverride, x.sensorFault]), BitVec.ofNat 8 (flagNumber [x.stale, x.closed]),
     BitVec.ofNat 8 (x.share / 256), BitVec.ofNat 8 x.share, BitVec.ofNat 8 x.closePolls, BitVec.ofNat 8 0] := by
  unfold dropImage flags i2 b1 b2
  simp only [List.cons_append, List.nil_append]
  rfl

/-- The 20 bytes of the image of a slot in use (11 R205). -/
theorem dropImage_bytes (x : Drop) (gen : Nat) {d : List Byte} (hd : d = dropImage x gen) :
    d.length = 20 ∧ arg d 0 = x.conn.val ∧ arg d 1 = gen % 256 ∧
      arg d 2 = x.state.code ∧ arg d 3 = x.origin.code ∧ arg d 4 = x.missed % 256 ∧
      arg2 d 5 = x.demand % 65536 ∧ (arg2 d 7 : Int) = x.supply % 65536 ∧ (arg2 d 9 : Int) = x.ret % 65536 ∧
      arg2 d 11 = x.flow % 65536 ∧ arg d 13 = x.valve % 256 ∧ (d.getD 14 0).getLsbD 0 = x.localOverride ∧
      (d.getD 14 0).getLsbD 1 = x.sensorFault ∧ arg d 14 < 4 ∧ (d.getD 15 0).getLsbD 0 = x.stale ∧
      (d.getD 15 0).getLsbD 1 = x.closed ∧ arg d 15 < 4 ∧ arg2 d 16 = x.share % 65536 ∧
      arg d 18 = x.closePolls % 256 ∧ arg d 19 = 0 := by
  rw [dropImage_eq] at hd
  have hid : x.conn.val < 256 := x.conn.isLt.trans (by decide)
  have hreport := fun k => bit_of_flags (d := d) (i := 14) (k := k) [x.localOverride, x.sensorFault] (by rw [hd]; rfl)
  have hslot := fun k => bit_of_flags (d := d) (i := 15) (k := k) [x.stale, x.closed] (by rw [hd]; rfl)
  have hstate : x.state.code < 256 := by cases x.state <;> decide
  have horigin : x.origin.code < 256 := by cases x.origin <;> decide
  subst hd
  refine ⟨rfl, arg_of_b1_lt rfl hid, arg_of_b1 rfl, arg_of_b1_lt rfl hstate, arg_of_b1_lt rfl horigin, arg_of_b1 rfl,
    arg2_of_b2 rfl rfl, arg2_of_i2 rfl rfl, arg2_of_i2 rfl rfl, arg2_of_b2 rfl rfl, arg_of_b1 rfl, hreport 0 (by decide),
    hreport 1 (by decide), arg_flags_lt [x.localOverride, x.sensorFault] rfl, hslot 0 (by decide), hslot 1 (by decide),
    arg_flags_lt [x.stale, x.closed] rfl, arg2_of_b2 rfl rfl, arg_of_b1 rfl, rfl⟩

/-- The image of an address with no slot in use: id 255 and zeros (01 R28). -/
theorem noDropImage_bytes : arg (b1 255 ++ List.replicate 19 0) 0 = 255 ∧
    ∀ k < 19, arg (b1 255 ++ List.replicate 19 0) (k + 1) = 0 := by
  decide

/-- Settles O10: both reads of a record return its image, READ DROP that of its slot or of none. -/
theorem recordAndDropImages : Obligations.RecordAndDropImages := by
  refine ⟨fun s id d hd => ?_, fun s l a d hd => ?_⟩
  · have himage : d = recordImage id s.conns[id] (s.dropsOf id) := by
      rcases hd with hd | ⟨hp, hd⟩ <;> rw [hd]
      · show s.connImage (Fin.ofNat 96 _) = _
        rw [connOfByte]
        rfl
      · rw [← hp]
        rfl
    obtain ⟨hlen, hid, hstate, hbytes⟩ := recordImage_bytes id s.conns[id] (s.dropsOf id) himage
    exact ⟨hlen, hid, hstate.trans (by cases s.conns[id].state <;> rfl), hbytes⟩
  · have himage : d = s.dropImageAt l a.toNat := by
      rw [hd]
      show s.dropImageAt (Fin.ofNat 8 _) _ = _
      rw [unitOfByte]
      rfl
    unfold State.dropImageAt at himage
    cases hf : s.findDrop l a.toNat with
    | none =>
      rw [hf] at himage
      subst himage
      exact ⟨rfl, fun _ => noDropImage_bytes, nofun⟩
    | some x =>
      rw [hf] at himage
      obtain ⟨hlen, hid, hgen, hstate, horigin, hbytes⟩ := dropImage_bytes x s.conns[x.conn].gen himage
      refine ⟨hlen, nofun, fun y hy => ?_⟩
      cases hy
      exact ⟨hid, hgen, hstate.trans (by cases x.state <;> rfl), horigin.trans (by cases x.origin <;> rfl), hbytes⟩

end Sys2Proof.Machine
end

section
/-! PROOFS. What the operations on a connection do to the whole state, written out; whole commands that are refused, and the
end of the event of one that acts (O16, O17, O20). -/

namespace Sys2Proof.Machine

/-! ## The end of an event -/

/-- An event that wanted a pass and left nothing else over is answered at its end. -/
theorem State.finish_wanted {s : State} (h : s.urgent = false) : s.wantPass.finish = s.answered := by
  rw [State.finish_of_urgent rfl, State.wantPass, ← h]

/-- The same for a command that has closed with a result. -/
theorem State.closeWith_wanted {s : State} (r : Result) (h : s.urgent = false) :
    (s.wantPass.closeWith r).finish = (s.closeWith r).answered :=
  State.finish_wanted (s := s.closeWith r) h

/-- A command that wanted no pass leaves ATN to follow. -/
theorem State.closeWith_quiet {s : State} (r : Result) (h : s.urgent = false) :
    (s.closeWith r).finish = (s.closeWith r).attend :=
  State.finish_of_quiet h

/-! ## Tests on slots and list entries -/

theorem map_conn_beq (ds : List Drop) (id : Fin 96) (f : Drop → Drop) :
    ds.map (fun d => if d.conn == id then f d else d) = ds.map (fun d => if d.conn = id then f d else d) := by
  simp only [beq_iff_eq]

theorem filter_conn_bne (ds : List Drop) (id : Fin 96) :
    ds.filter (fun d => !(d.conn == id)) = ds.filter (fun d => d.conn ≠ id) := by
  simp only [ne_eq, decide_not, beq_eq_decide]

theorem filter_id_bne (es : List CurtailEntry) (id : Fin 96) :
    es.filter (fun e => !(e.id == id)) = es.filter (fun e => e.id ≠ id) := by
  simp only [ne_eq, decide_not, beq_eq_decide]

/-! ## Operations on a connection, written out -/

/-- The equal fallback split of a connection's flow among its drops (06 R128). -/
def State.splitDrops (s : State) (id : Fin 96) : List Drop :=
  s.drops.map (fun d => if d.conn = id then
    { d with share := fallbackShare (s.conns[id].fallback.getD 0) (s.dropsOf id) d } else d)

/-- Hold expiry (01 R16, 06 R127). -/
theorem State.expireHold_eq (s : State) (id : Fin 96) : s.expireHold id = { s with
    conns := s.conns.set id { s.conns[id] with expired := true, holdLeft := 0, moved := true }
    drops := s.splitDrops id
    engine := { s.engine with pend := true } } := by
  unfold State.expireHold State.fallbackSplit State.splitDrops
  rw [State.modConn_get_self, ← map_conn_beq]
  rfl

/-- Entry to SUSPENDED by COMMS or LINE (01 R15, 03 R61). -/
theorem State.enterSuspended_eq (s : State) (id : Fin 96) {cause : SuspendCause} (h : cause ≠ .supervisor) :
    s.enterSuspended id cause = State.wantPass { s with
      conns := s.conns.set id (s.conns[id].suspendedBy cause s.holdSetting)
      engine := { s.engine with curtail := s.engine.curtail.filter (fun e => e.id ≠ id) }
      att := (s.att.raise .stateChanged).enter id } := by
  unfold State.enterSuspended
  rw [if_neg h, ← filter_id_bne]
  rfl

/-- Hold expiry of a record that has just been written. -/
theorem State.expireHold_of {s t : State} {id : Fin 96} {c : Conn} (h : t.conns = s.conns.set id c) :
    t.expireHold id = { t with
      conns := s.conns.set id { c with expired := true, holdLeft := 0, moved := true }
      drops := t.drops.map (fun d => if d.conn = id then
        { d with share := fallbackShare (c.fallback.getD 0) (t.dropsOf id) d } else d)
      engine := { t.engine with pend := true } } := by
  have hc : t.conns[id] = c := by rw [h, getElem_set_fin, if_pos rfl]
  rw [State.expireHold_eq, State.splitDrops, hc, h, Vector.set_set]

/-- Entry to SUSPENDED by SUPERVISOR, whose hold expires at once (01 R15, R16). -/
theorem State.enterSuspended_supervisor_eq (s : State) (id : Fin 96) : s.enterSuspended id .supervisor =
    State.wantPass { s with
      conns := s.conns.set id { s.conns[id] with
        state := .suspended, supervisor := true, curtailed := false, ramp := false, expired := true, holdLeft := 0,
        moved := true }
      drops := s.splitDrops id
      engine := { s.engine with pend := true, curtail := s.engine.curtail.filter (fun e => e.id ≠ id) }
      att := (s.att.raise .stateChanged).enter id } := by
  unfold State.enterSuspended
  rw [if_pos rfl, ← filter_id_bne, State.splitDrops]
  exact State.expireHold_of (s := s) (c := { s.conns[id] with
    state := .suspended, supervisor := true, curtailed := false, ramp := false, expired := false,
    holdLeft := s.holdSetting, moved := true }) rfl

/-- SUSPEND of a SUSPENDED record without SUPERVISOR whose hold runs on (01 R17). -/
theorem State.expireHold_addCause (s : State) (id : Fin 96) :
    (s.modConn id (fun c => { c.addCause .supervisor with moved := true })).expireHold id = { s with
      conns := s.conns.set id { s.conns[id] with supervisor := true, expired := true, holdLeft := 0, moved := true }
      drops := s.splitDrops id
      engine := { s.engine with pend := true } } :=
  State.expireHold_of (s := s) (c := { s.conns[id] with supervisor := true, moved := true }) rfl

/-- A cause lost with another left (01 R14). -/
theorem State.loseCause_left {s : State} {id : Fin 96} {cause : SuspendCause} (hst : s.conns[id].state = .suspended)
    (hc : (s.conns[id].dropCause cause).noCause = false) :
    s.loseCause id cause = { s with conns := s.conns.set id (s.conns[id].dropCause cause) } := by
  unfold State.loseCause
  rw [if_pos hst]
  dsimp only
  rw [State.modConn_get_self, if_neg (by rw [hc]; decide)]
  rfl

/-- The last cause lost: return to ACTIVE (01 R18). -/
theorem State.loseCause_last {s : State} {id : Fin 96} {cause : SuspendCause} (hst : s.conns[id].state = .suspended)
    (hc : (s.conns[id].dropCause cause).noCause = true) : s.loseCause id cause = State.wantPass { s with
      conns := s.conns.set id (s.conns[id].dropCause cause).returned
      att := (s.att.raise .stateChanged).enter id } := by
  unfold State.loseCause
  rw [if_pos hst]
  dsimp only
  rw [State.modConn_get_self, if_pos hc]
  unfold State.returnActive
  rw [State.modConn_modConn]
  rfl

/-! ## Whole commands -/

/-- BAD_ID above 95 (09 R187). -/
theorem withId_bad {s : State} {n : Nat} {k : Fin 96 → State × Result} (h : 95 < n) : withId s n k = (s, .badId) :=
  dif_neg (by omega)

/-- The connection an id byte names. -/
theorem withId_conn {s : State} {n : Nat} {id : Fin 96} {k : Fin 96 → State × Result} (h : n = id.val) :
    withId s n k = k id := by
  subst h
  exact dif_pos id.isLt

/-- BAD_PARAM above 7 (09 R187). -/
theorem withUnit_bad {s : State} {n : Nat} {k : Fin 8 → State × Result} (h : 7 < n) : withUnit s n k = (s, .badParam) :=
  dif_neg (by omega)

/-- The line, branch or drive a byte names. -/
theorem withUnit_unit {s : State} {n : Nat} {u : Fin 8} {k : Fin 8 → State × Result} (h : n = u.val) :
    withUnit s n k = k u := by
  subst h
  exact dif_pos u.isLt

/-- A whole command that is refused changes nothing but the port (00 section 1.6.4). -/
theorem State.finishWhole_refused {s : State} (h : s.Settled) {c : Cmd} {pos : Nat} {held p : List Byte} {home : Bool}
    {r : Result} (hr : wholeAct c p home (s.acting c pos held) = (s.acting c pos held, r)) :
    ((s.acting c pos held).finishWhole c p home).finish = s.refuse r := by
  rw [State.finishWhole, hr]
  exact State.finish_of_settled h

/-- A whole command that acts: its effect, the port closed with its result, and the end of the event. -/
theorem State.finishWhole_act {s t : State} {c : Cmd} {pos : Nat} {held p : List Byte} {home : Bool} {r : Result}
    (hr : wholeAct c p home (s.acting c pos held) = (t, r)) :
    ((s.acting c pos held).finishWhole c p home).finish = (t.closeWith r).finish := by
  rw [State.finishWhole, hr]

/-! ## The comms hold -/

/-- Settles O20. -/
theorem commsHoldExpires : Obligations.CommsHoldExpires := by
  rintro s id c h rfl
  refine ⟨fun hst hsup hexp => ?_, fun hno => ?_⟩
  · show Host.Outcome.next (s.holdExpires id).finish = _
    have hruns : s.conns[id].holdRuns = true := by rw [Conn.holdRuns, hst, hsup, hexp]; rfl
    rw [State.holdExpires, if_pos hruns, State.expireHold_eq]
    exact congrArg _ (State.finish_of_settled h)
  · show Host.Outcome.next (s.holdExpires id).finish = _
    have hruns : ¬ s.conns[id].holdRuns = true := by
      simp only [Conn.holdRuns, Bool.and_eq_true, beq_iff_eq, Bool.not_eq_true', not_and, Bool.not_eq_false]
      rintro ⟨hst, hsup⟩
      rcases hno with h1 | h1 | h1
      · exact absurd hst h1
      · exact absurd (hsup.symm.trans h1) (by decide)
      · exact h1
    rw [State.holdExpires, if_neg hruns, State.finish_of_settled h]

/-! ## SUSPEND and RESUME -/

/-- A command of one parameter byte on a ready port, refused. -/
theorem exec_one_refused {s : State} (h : s.Ready) (c : Cmd) (a : Byte) (home : Bool) {r : Result}
    (hr : wholeAct c [a] home (s.acting c 0 []) = (s.acting c 0 [], r))
    (hk : c.kind = .whole := by decide) (hn : c.paramCount = 1 := by decide)
    (hne : c ≠ .createConnection := by decide) : s.send c [a] home = s.refuse r := by
  rw [State.send_one h hk (Cmd.ofCode_code c) hn hne, State.finishWhole_refused h.2.2 hr]

/-- A command of one parameter byte on a ready port that acts. -/
theorem exec_one_act {s t : State} (h : s.Ready) (c : Cmd) (a : Byte) (home : Bool) {r : Result}
    (hr : wholeAct c [a] home (s.acting c 0 []) = (t, r))
    (hk : c.kind = .whole := by decide) (hn : c.paramCount = 1 := by decide)
    (hne : c ≠ .createConnection := by decide) : s.send c [a] home = (t.closeWith r).finish := by
  rw [State.send_one h hk (Cmd.ofCode_code c) hn hne, State.finishWhole_act hr]

/-- A connection of neither state is not taken. -/
theorem Conn.taken_eq_false {c : Conn} (ha : c.state ≠ .active) (hs : c.state ≠ .suspended) : c.taken = false := by
  simp only [Conn.taken, beq_eq_false_iff_ne.mpr ha, beq_eq_false_iff_ne.mpr hs, Bool.or_self]

/-- SUSPEND of an id above 95. -/
theorem doSuspend_badId {s : State} {a : Byte} (ha : 95 < a.toNat) : doSuspend [a] s = (s, .badId) := withId_bad ha

/-- SUSPEND of a connection that is neither ACTIVE nor SUSPENDED (01 R17). -/
theorem doSuspend_badState {s : State} {id : Fin 96} {a : Byte} (ha : a.toNat = id.val)
    (h : s.conns[id].taken = false) : doSuspend [a] s = (s, .badState) :=
  (withId_conn (id := id) ha).trans (if_neg (Bool.eq_false_iff.mp h))

/-- SUSPEND of a connection that is taken (01 R17). -/
theorem doSuspend_taken {s : State} {id : Fin 96} {a : Byte} (ha : a.toNat = id.val) (h : s.conns[id].taken = true) :
    doSuspend [a] s = (s.suspendConn id, .ok) := by
  exact (withId_conn (id := id) ha).trans (if_pos h)

/-- SUSPEND of an ACTIVE connection. -/
theorem State.suspendConn_active {s : State} {id : Fin 96} (hst : s.conns[id].state = .active) :
    s.suspendConn id = s.enterSuspended id .supervisor := by
  simp only [State.suspendConn, hst, State.gainCause_active]

/-- SUSPEND of a SUSPENDED connection. -/
theorem State.suspendConn_suspended {s : State} {id : Fin 96} (hst : s.conns[id].state = .suspended) : s.suspendConn id =
    if s.conns[id].supervisor then s
    else if s.conns[id].expired then s.modConn id (fun c => { c.addCause .supervisor with moved := true })
    else (s.modConn id (fun c => { c.addCause .supervisor with moved := true })).expireHold id := by
  simp only [State.suspendConn, hst]

/-- RESUME of an id above 95. -/
theorem doResume_badId {s : State} {a : Byte} (ha : 95 < a.toNat) : doResume [a] s = (s, .badId) := withId_bad ha

/-- RESUME of a connection that is not SUSPENDED (01 R19). -/
theorem doResume_badState {s : State} {id : Fin 96} {a : Byte} (ha : a.toNat = id.val)
    (h : s.conns[id].state ≠ .suspended) : doResume [a] s = (s, .badState) :=
  (withId_conn (id := id) ha).trans (if_neg h)

/-- RESUME of a SUSPENDED connection (01 R19). -/
theorem doResume_suspended {s : State} {id : Fin 96} {a : Byte} (ha : a.toNat = id.val)
    (hst : s.conns[id].state = .suspended) :
    doResume [a] s = (if s.conns[id].supervisor then s.loseCause id .supervisor else s, .ok) :=
  (withId_conn (id := id) ha).trans (if_pos hst)

/-- SUPERVISOR taken from a cause set leaves COMMS and LINE. -/
theorem Conn.dropCause_supervisor_noCause (c : Conn) :
    (c.dropCause .supervisor).noCause = (!c.comms && !c.lineCause) := by
  simp only [Conn.dropCause, Conn.noCause, Bool.not_false, Bool.and_true]

/-- Settles O16. -/
theorem suspendAndResumeAct : Obligations.SuspendAndResumeAct := by
  refine ⟨fun s a h => ⟨fun ha => ?_, ?_⟩, fun s a h => ⟨fun ha => ?_, ?_⟩⟩
  · exact congrArg _ (exec_one_refused h .suspend a false (doSuspend_badId ha))
  · rintro id c split ha rfl rfl
    have hact {t r : State} (hst : s.conns[id].state = .active ∨ s.conns[id].state = .suspended)
        (ht : (s.acting .suspend 0 []).suspendConn id = t) (hr : (t.closeWith .ok).finish = r) :
        exec (.suspend [a]) s = .next r := by
      have htaken : s.conns[id].taken = true := by simpa only [Conn.taken, Bool.or_eq_true, beq_iff_eq] using hst
      subst ht
      exact congrArg _ ((exec_one_act h .suspend a false (doSuspend_taken (s := s.acting .suspend 0 []) ha htaken)).trans hr)
    have hsusp (hst : s.conns[id].state = .suspended) :=
      State.suspendConn_suspended (s := s.acting .suspend 0 []) hst
    refine ⟨fun h1 h2 => ?_, fun hst => ?_, fun hst hsup => ?_, fun hst hsup hexp => ?_, fun hst hsup hexp => ?_⟩
    · exact congrArg _ (exec_one_refused h .suspend a false (doSuspend_badState ha (Conn.taken_eq_false h1 h2)))
    · exact hact (.inl hst) ((State.suspendConn_active (s := s.acting .suspend 0 []) hst).trans
        (State.enterSuspended_supervisor_eq _ _)) (State.closeWith_wanted _ h.2.2.1)
    · exact hact (.inr hst) ((hsusp hst).trans (if_pos hsup)) (State.finish_of_settled h.2.2)
    · exact hact (.inr hst) ((hsusp hst).trans ((if_neg (Bool.eq_false_iff.mp hsup)).trans (if_pos hexp)))
        (State.finish_of_settled h.2.2)
    · exact hact (.inr hst) ((hsusp hst).trans ((if_neg (Bool.eq_false_iff.mp hsup)).trans
        ((if_neg (Bool.eq_false_iff.mp hexp)).trans (State.expireHold_addCause _ _)))) (State.finish_of_settled h.2.2)
  · exact congrArg _ (exec_one_refused h .resume a false (doResume_badId ha))
  · rintro id c ha rfl
    have hact {t r : State} (hst : s.conns[id].state = .suspended)
        (ht : (if s.conns[id].supervisor then (s.acting .resume 0 []).loseCause id .supervisor
          else s.acting .resume 0 []) = t)
        (hr : (t.closeWith .ok).finish = r) : exec (.resume [a]) s = .next r := by
      subst ht
      exact congrArg _ ((exec_one_act h .resume a false (doResume_suspended (s := s.acting .resume 0 []) ha hst)).trans hr)
    refine ⟨fun hst => ?_, fun hst hsup => ?_, fun hst hsup hc => ?_, fun hst hsup h1 h2 => ?_⟩
    · exact congrArg _ (exec_one_refused h .resume a false (doResume_badState ha hst))
    · exact hact hst (if_neg (Bool.eq_false_iff.mp hsup)) (State.finish_of_settled h.2.2)
    · have hnot : (s.conns[id].dropCause .supervisor).noCause = false := by
        rw [Conn.dropCause_supervisor_noCause]
        rcases hc with hc | hc <;> simp only [hc, Bool.not_true, Bool.false_and, Bool.and_false]
      exact hact hst ((if_pos hsup).trans (State.loseCause_left (s := s.acting .resume 0 []) hst hnot))
        (State.finish_of_settled h.2.2)
    · have hnone : (s.conns[id].dropCause .supervisor).noCause = true := by
        rw [Conn.dropCause_supervisor_noCause, h1, h2]
        rfl
      exact hact hst ((if_pos hsup).trans (State.loseCause_last (s := s.acting .resume 0 []) hst hnone))
        (State.closeWith_wanted _ h.2.2.1)

end Sys2Proof.Machine
end

section
/-! PROOFS. RETIRE CONNECTION and the return to VACANT, written out (O17). -/

namespace Sys2Proof.Machine

/-! ## What a cause or a change already reported does -/

/-- A pending cause raised again is no change. -/
theorem Attention.raise_of_pending {a : Attention} {c : Cause} (h : a.isPending c = true) : a.raise c = a := by
  have hrec : ({ a.causes[c.index] with pending := true } : CauseRec) = a.causes[c.index] := by
    rw [← show a.causes[c.index].pending = true from h]
  rw [Attention.raise, hrec]
  exact congrArg (fun v => ({ a with causes := v } : Attention)) (Vector.set_getElem_self _)

/-- An id entered twice is entered once. -/
theorem Attention.enter_enter (a : Attention) (id : Fin 96) : (a.enter id).enter id = a.enter id := by
  simp only [Attention.enter, BitVec.or_assoc, BitVec.or_self]

/-- A change reported after another of the same connection, with a cause raised between, is no news. -/
theorem Attention.report_again (a : Attention) (c d : Cause) (id : Fin 96) :
    ((((a.raise c).enter id).raise d).raise c).enter id = ((a.raise c).enter id).raise d := by
  rw [Attention.raise_of_pending (c := c) (by simp only [Attention.raise_isPending, Attention.enter_isPending,
    decide_true, Bool.true_or, Bool.or_true])]
  exact congrArg (fun x => Attention.raise x d) (Attention.enter_enter (a.raise c) id)

/-! ## The return to VACANT -/

/-- The record of a connection all of whose drops are closed returns to VACANT (01 R21). -/
theorem State.vacantIfClosed_of_all {s : State} {id : Fin 96} (h : ∀ d ∈ s.drops, d.conn = id → d.closed = true) :
    s.vacantIfClosed id = s.toVacant id := by
  refine if_pos (List.all_eq_true.mpr fun d hd => ?_)
  obtain ⟨hmem, hconn⟩ := State.mem_dropsOf.mp hd
  exact h d hmem hconn

/-- The return to VACANT, its change having been reported before. -/
theorem State.toVacant_eq (s : State) (id : Fin 96) : s.toVacant id = { s with
    conns := s.conns.set id (Conn.vacant s.conns[id].gen)
    drops := s.drops.filter (fun d => d.conn ≠ id)
    att := ((s.att.raise .retireDone).raise .stateChanged).enter id } := by
  unfold State.toVacant
  rw [← filter_conn_bne]
  rfl

/-! ## RETIRE -/

/-- The standing cleared, with the effects of a change of LOW_DT (01 R20, 03 R71). -/
theorem State.clearStanding_eq (s : State) (id : Fin 96) : s.clearStanding id = { s with
    conns := s.conns.set id { s.conns[id] with score := 0, lowDt := false }
    engine := { s.engine with pend := s.engine.pend || s.conns[id].lowDt }
    att := if s.conns[id].lowDt then s.att.raise .lowDtChanged else s.att } := by
  unfold State.clearStanding State.setLowDt
  cases hl : s.conns[id].lowDt with
  | true =>
    rw [Bool.or_true]
    simp only [if_true, State.modConn, State.raise, State.ordinary, Vector.set_set, getElem_set_fin]
  | false =>
    have hsame : ({ s.conns[id] with score := 0, lowDt := false } : Conn) = { s.conns[id] with score := 0 } := by rw [← hl]
    rw [Bool.or_false, hsame]
    rfl

/-- The state with a connection that has entered RETIRING (01 R20), the pass it wants left out. -/
def State.retiring (s : State) (id : Fin 96) : State :=
  { s with
    conns := s.conns.set id ({ s.conns[id] with score := 0, lowDt := false } : Conn).retired
    drops := s.drops.map (fun d => if d.conn = id then { d with share := 0 } else d)
    engine := { s.engine with
      pend := s.engine.pend || s.conns[id].lowDt, curtail := s.engine.curtail.filter (fun e => e.id ≠ id) }
    att := ((if s.conns[id].lowDt then s.att.raise .lowDtChanged else s.att).raise .stateChanged).enter id }

/-- RETIRE on one record (01 R20): on a line that is not POLLING its drops are closed at once. -/
theorem State.retire_eq (s : State) (id : Fin 96) : s.retire id =
    if s.isPolling s.conns[id].line then (s.retiring id).wantPass else (s.retiring id).wantPass.closeAll id := by
  have hline : (s.retiring id).conns[id].line = s.conns[id].line := by
    rw [State.retiring, getElem_set_fin, if_pos rfl]
    rfl
  have hstate : ((((s.clearStanding id).leaveList id).modConn id Conn.retired).modDropsOf id
      (fun d => { d with share := 0 })).reportChange id = s.retiring id := by
    rw [State.clearStanding_eq, State.retiring, ← map_conn_beq, ← filter_id_bne]
    simp only [State.leaveList, State.modConn, Vector.set_set, getElem_set_fin, if_true]
    rfl
  refine (congrArg (fun u : State =>
    let t := u.wantPass; if t.isPolling t.conns[id].line then t else t.closeAll id) hstate).trans ?_
  show (if s.isPolling (s.retiring id).conns[id].line = true then _ else _) = _
  rw [hline]

/-- A change of a connection's slots that keeps their owner is lost when they are freed. -/
theorem filter_conn_map (ds : List Drop) (id : Fin 96) {f : Drop → Drop} (hf : ∀ d, (f d).conn = d.conn) :
    (ds.map (fun d => if d.conn = id then f d else d)).filter (fun d => d.conn ≠ id) =
      ds.filter (fun d => d.conn ≠ id) := by
  induction ds with
  | nil => rfl
  | cons d ds ih =>
    by_cases h : d.conn = id
    · rw [List.map_cons, if_pos h, List.filter_cons_of_neg (by simp [hf, h]), ih, List.filter_cons_of_neg (by simp [h])]
    · rw [List.map_cons, if_neg h, List.filter_cons_of_pos (by simp [h]), ih, List.filter_cons_of_pos (by simp [h])]

/-- All the drops of a connection closed: the record returns to VACANT (06 R131, 01 R21). -/
theorem State.closeAll_eq (s : State) (id : Fin 96) : s.closeAll id = { s with
    conns := s.conns.set id (Conn.vacant s.conns[id].gen)
    drops := s.drops.filter (fun d => d.conn ≠ id)
    att := ((s.att.raise .retireDone).raise .stateChanged).enter id } := by
  have hclosed : ∀ d ∈ (s.modDropsOf id (fun d => { d with closed := true })).drops, d.conn = id → d.closed = true := by
    simp only [State.modDropsOf, State.modDrops, List.mem_map, beq_iff_eq]
    rintro d ⟨e, -, rfl⟩ hconn
    split at hconn
    next h => rw [if_pos h]
    next h => exact absurd hconn h
  rw [State.closeAll, State.vacantIfClosed_of_all hclosed, State.toVacant_eq,
    ← filter_conn_map s.drops id (f := fun d => { d with closed := true }) (fun _ => rfl), ← map_conn_beq]
  rfl

/-- RETIRE on a line that is not POLLING, whole (06 R131). -/
theorem State.retire_vacant {s : State} {id : Fin 96} (h : s.lines[s.conns[id].line].state ≠ .polling) :
    s.retire id = State.wantPass { s with
      conns := s.conns.set id (Conn.vacant s.conns[id].gen)
      drops := s.drops.filter (fun d => d.conn ≠ id)
      engine := (s.retiring id).engine
      att := (s.retiring id).att.raise .retireDone } := by
  have hgen : (s.retiring id).conns[id].gen = s.conns[id].gen := by
    rw [State.retiring, getElem_set_fin, if_pos rfl]
    rfl
  have hconns (c : Conn) : (s.retiring id).conns.set id c = s.conns.set id c := Vector.set_set ..
  have hdrops : (s.retiring id).drops.filter (fun d => d.conn ≠ id) = s.drops.filter (fun d => d.conn ≠ id) :=
    filter_conn_map _ _ (fun _ => rfl)
  have hatt : (((s.retiring id).att.raise .retireDone).raise .stateChanged).enter id =
      (s.retiring id).att.raise .retireDone := Attention.report_again ..
  rw [State.retire_eq, if_neg (by simpa [State.isPolling] using h), State.closeAll_eq]
  show State.wantPass { s with
    conns := (s.retiring id).conns.set id (Conn.vacant (s.retiring id).conns[id].gen)
    drops := (s.retiring id).drops.filter (fun d => d.conn ≠ id)
    engine := (s.retiring id).engine
    att := (((s.retiring id).att.raise .retireDone).raise .stateChanged).enter id } = _
  rw [hgen, hconns, hdrops, hatt]

/-- RETIRE CONNECTION of an id above 95. -/
theorem doRetireConnection_badId {s : State} {a : Byte} (ha : 95 < a.toNat) :
    doRetireConnection [a] s = (s, .badId) := withId_bad ha

/-- RETIRE CONNECTION (01 R20). -/
theorem doRetireConnection_eq {s : State} {id : Fin 96} {a : Byte} (ha : a.toNat = id.val) : doRetireConnection [a] s =
    if s.conns[id].refuses then (s, .badState) else (s.retire id, .ok) := withId_conn (id := id) ha

/-- A VACANT and a RETIRING record refuse (01 R11). -/
theorem Conn.refuses_of {c : Conn} (h : c.state = .vacant ∨ c.state = .retiring) : c.refuses = true := by
  simpa only [Conn.refuses, Bool.or_eq_true, beq_iff_eq] using h

/-- Settles O17. -/
theorem retireConnectionActs : Obligations.RetireConnectionActs := by
  refine fun s a h => ⟨fun ha => ?_, ?_⟩
  · exact congrArg _ (exec_one_refused h .retireConnection a false (doRetireConnection_badId ha))
  · rintro id c att ha rfl rfl
    have hact := doRetireConnection_eq (s := s.acting .retireConnection 0 []) ha
    have hatt : (s.retiring id).att = (if s.conns[id].lowDt then (s.att.raise .lowDtChanged).raise .stateChanged
        else s.att.raise .stateChanged).enter id :=
      congrArg (fun x => Attention.enter x id) (apply_ite (fun x => Attention.raise x .stateChanged) _ _ _)
    refine ⟨fun hst => ?_, fun hst => ?_⟩
    · exact congrArg _ (exec_one_refused h .retireConnection a false (hact.trans (if_pos (Conn.refuses_of hst))))
    · have hok := hact.trans (if_neg (Bool.eq_false_iff.mp (Conn.refuses_eq_false_iff.mpr hst)))
      refine ⟨fun hline => congrArg _ ((exec_one_act h .retireConnection a false hok).trans ?_),
        fun hline => congrArg _ ((exec_one_act h .retireConnection a false hok).trans ?_)⟩
      · rw [State.retire_eq (s.acting .retireConnection 0 []), if_pos (by simpa [State.isPolling] using hline), ← hatt]
        exact State.closeWith_wanted _ h.2.2.1
      · rw [State.retire_vacant (s := s.acting .retireConnection 0 []) hline, ← hatt]
        exact State.closeWith_wanted _ h.2.2.1

end Sys2Proof.Machine
end

section
/-! PROOFS. CREATE CONNECTION: the bytes it takes, its checks in order, and the record and slots it makes (O14). -/

namespace Sys2Proof.Machine

/-! ## The parameter bytes -/

/-- A parameter byte of an open whole command (09 R182). -/
theorem State.paramByte_whole {s : State} (h : s.Ready) {c : Cmd} (hk : c.kind = .whole) (pos : Nat) (held : List Byte)
    (b : Byte) (home : Bool) : ({ s with port := s.port.opened c pos held 0 false } : State).paramByte b home =
      ((s.acting c pos held).collectWhole c (held ++ [b]) home).finish := by
  have hl : s.port.selLow = true ∧ s.port.seenHigh = true := (Port.listening_iff _).1 h.1
  rw [State.paramByte_collecting (by simp [Port.opened, Port.closed, Port.reset, Port.listening, hl]) rfl]
  show (match c.kind with | .whole => _ | .read => _ | .field => _ : State).finish = _
  rw [hk]
  rfl

/-- One to three drops. -/
theorem validDropCount_iff {n : Nat} : validDropCount n = true ↔ n = 1 ∨ n = 2 ∨ n = 3 := by
  simp only [validDropCount, Bool.and_eq_true, decide_eq_true_eq]
  omega

/-- CREATE CONNECTION with a bad drop count is refused at the drop count byte (01 R11). -/
theorem State.send_create_badCount {s : State} (h : s.Ready) {p : List Byte} (hp : p.length = 11)
    (hv : validDropCount (arg p 10) = false) : s.send .createConnection p false = s.refuse .badParam := by
  obtain rfl | ⟨q, b, rfl⟩ := p.eq_nil_or_concat'
  · cases hp
  have hq : q.length = 10 := by simpa using hp
  have hbad : badDropCount .createConnection (q ++ [b]) = true :=
    Bool.not_eq_false _ ▸ mt badDropCount_eq_false_iff.mp (by rw [Classical.not_imp]; exact ⟨hp, Bool.eq_false_iff.mp hv⟩)
  have hlack : q.length < Cmd.paramsNeeded .createConnection q := by
    rw [Cmd.paramsNeeded, if_pos (by omega)]
    omega
  rw [State.send_append, State.send_incomplete h (by decide) false hlack, State.paramByte_whole h rfl,
    State.collectWhole, if_pos hbad]
  exact State.finish_of_settled h.2.2

/-- CREATE CONNECTION with one to three drops and their addresses acts in the event of the last address (01 R11). -/
theorem State.send_create {s : State} (h : s.Ready) {p : List Byte} (hv : validDropCount (arg p 10) = true)
    (hp : p.length = 11 + arg p 10) : s.send .createConnection p false =
      ((s.acting .createConnection (p.length - 1) p.dropLast).finishWhole .createConnection p false).finish := by
  obtain rfl | ⟨q, b, rfl⟩ := p.eq_nil_or_concat'
  · cases hv
  have hcount := validDropCount_iff.mp hv
  have hlen : (q ++ [b]).length = q.length + 1 := by simp
  have harg : arg (q ++ [b]) 10 = (q.getD 10 0).toNat := by rw [arg, List.getD_append _ _ _ _ (by omega)]
  rw [List.dropLast_concat, hlen]
  refine State.send_whole h rfl q b false ?_ (badDropCount_eq_false_iff.mpr fun hl => absurd hl (by omega)) ?_
  · rw [Cmd.paramsNeeded, if_neg (by omega), ← harg, if_pos hv]
    omega
  · rw [Cmd.paramsNeeded, if_neg (by omega)]
    exact hp.trans (if_pos hv).symm

/-! ## The checks -/

/-- A test of every address is a test of every address byte. -/
theorem forall_createAddrs {p : List Byte} {Q : Nat → Prop} :
    (∀ x ∈ createAddrs p, Q x) ↔ ∀ x ∈ p.drop 11, Q x.toNat := by
  simp only [createAddrs, List.forall_mem_map]

/-- Addresses differ exactly where their bytes do. -/
theorem createAddrs_nodup_iff {p : List Byte} : (createAddrs p).Nodup ↔ (p.drop 11).Nodup :=
  List.nodup_map_iff fun _ _ hxy => BitVec.eq_of_toNat_eq hxy

/-- As many addresses as the drop count says. -/
theorem createAddrs_length {p : List Byte} (hp : p.length = 11 + arg p 10) : (createAddrs p).length = arg p 10 := by
  rw [createAddrs, List.length_map, List.length_drop, hp, Nat.add_sub_cancel_left]

/-- Some address is outside 1-30. -/
theorem createAddrs_any_bad {p : List Byte} :
    (createAddrs p).any badAddr = true ↔ ∃ x ∈ p.drop 11, x.toNat < 1 ∨ 30 < x.toNat := by
  simp only [createAddrs, List.any_map, List.any_eq_true, Function.comp_apply, badAddr, Bool.or_eq_true,
    decide_eq_true_eq]

/-- Some address is in use on the line. -/
theorem createAddrs_any_inUse {p : List Byte} {ds : List Drop} :
    (createAddrs p).any (fun x => ds.any (fun d => d.line.val == arg p 1 && d.addr == x)) = true ↔
      ∃ x ∈ p.drop 11, ∃ d ∈ ds, d.line.val = arg p 1 ∧ d.addr = x.toNat := by
  simp only [createAddrs, List.any_map, List.any_eq_true, Function.comp_apply, Bool.and_eq_true, beq_iff_eq]

/-- The line, the class and the addresses pass their checks. -/
theorem not_createBadParam {p : List Byte} (hl : arg p 1 ≤ 7) (hcls : arg p 2 ≤ 2)
    (haddr : ∀ x ∈ p.drop 11, 1 ≤ x.toNat ∧ x.toNat ≤ 30) (hnodup : (p.drop 11).Nodup) :
    ¬ (7 < arg p 1 ∨ 2 < arg p 2 ∨ (createAddrs p).any badAddr ∨ ¬ (createAddrs p).Nodup) := by
  rw [createAddrs_nodup_iff, createAddrs_any_bad]
  rintro (h1 | h1 | ⟨x, hx, h1⟩ | h1)
  · omega
  · omega
  · have := haddr x hx
    omega
  · exact h1 hnodup

/-- CREATE CONNECTION of an id above 95. -/
theorem doCreateConnection_badId {s : State} {p : List Byte} (hp : 95 < arg p 0) :
    doCreateConnection p s = (s, .badId) := withId_bad hp

/-- CREATE CONNECTION that a check refuses. -/
theorem doCreateConnection_refused {s : State} {p : List Byte} {id : Fin 96} {r : Result} (hp : arg p 0 = id.val)
    (hr : createRefused s p id = some r) : doCreateConnection p s = (s, r) := by
  refine (withId_conn (id := id) hp).trans ?_
  rw [hr]

/-- CREATE CONNECTION that no check refuses. -/
theorem doCreateConnection_accepted {s : State} {p : List Byte} {id : Fin 96} {l : Fin 8} (hp : arg p 0 = id.val)
    (hl : arg p 1 = l.val) (hr : createRefused s p id = none) :
    doCreateConnection p s = (s.create p id l, clampResult (createClamped p)) := by
  refine (withId_conn (id := id) hp).trans ?_
  rw [hr]
  exact withUnit_unit hl

/-! ## The contract brought into range -/

/-- The fallback flow of a command (01 R12, R24). -/
theorem fallbackField_eq (v m : Nat) : fallbackField v m = if v = 65535 then none else some (min v m) := by
  unfold fallbackField optField
  split <;> rfl

/-- The fallback flow was lowered. -/
theorem fallbackField_bne (v m : Nat) : (fallbackField v m != optField v) = !(v == 65535 || decide (v ≤ m)) := by
  rw [fallbackField_eq, optField]
  by_cases hv : v = 65535
  · simp [hv]
  · by_cases hm : v ≤ m
    · simp [hv, hm]
    · have hne : some (min v m) ≠ some v := fun heq => hm (min_eq_left_iff.mp (Option.some.inj heq))
      simp only [if_neg hv, bne_iff_ne.mpr hne, beq_eq_false_iff_ne.mpr hv, hm, decide_false, Bool.or_self, Bool.not_false]

/-- A value was brought into its range. -/
theorem clampNat_bne {lo hi v : Nat} (h : lo ≤ hi) :
    (clampNat lo hi v != v) = !(decide (lo ≤ v) && decide (v ≤ hi)) := by
  by_cases h1 : lo ≤ v <;> by_cases h2 : v ≤ hi <;> simp [clampNat, h1, h2] <;> omega

/-- A field of CREATE CONNECTION was brought into range (01 R12). -/
theorem createClamped_eq (p : List Byte) : createClamped p =
    !(50 ≤ arg2 p 3 && arg2 p 3 ≤ 30000 && 40 ≤ arg p 5 && arg p 5 ≤ 120 && 1 ≤ arg2 p 6 && arg2 p 6 ≤ 20000 &&
      (arg2 p 8 == 65535 || arg2 p 8 ≤ clampNat 1 20000 (arg2 p 6))) := by
  show (clampNat 50 30000 (arg2 p 3) != arg2 p 3 || clampNat 40 120 (arg p 5) != arg p 5 ||
    clampNat 1 20000 (arg2 p 6) != arg2 p 6 ||
    fallbackField (arg2 p 8) (clampNat 1 20000 (arg2 p 6)) != optField (arg2 p 8)) = _
  rw [clampNat_bne (by decide), clampNat_bne (by decide), clampNat_bne (by decide), fallbackField_bne]
  simp only [Bool.not_and, Bool.or_assoc]

/-- CREATE CONNECTION accepted (O14). -/
theorem exec_create_accepted {s : State} {p : List Byte} {id : Fin 96} {l : Fin 8} (h : s.Ready) (hid : arg p 0 = id.val)
    (hl : arg p 1 = l.val) (hcount : arg p 10 = 1 ∨ arg p 10 = 2 ∨ arg p 10 = 3) (hlen : p.length = 11 + arg p 10)
    (hnone : createRefused s p id = none) : exec (.createConnection p) s = .next (({ s with
      port := s.port.closed (clampResult (createClamped p))
      conns := s.conns.set id (createRecord p l s.conns[id].gen)
      drops := (p.drop 11).foldl (fun ds x => insertDrop (Drop.fresh l x.toNat id .create) ds) s.drops
      att := (s.att.raise .stateChanged).enter id } : State).attend) := by
  refine congrArg _ ((State.send_create h (validDropCount_iff.mpr hcount) hlen).trans
    ((State.finishWhole_act (c := .createConnection) (doCreateConnection_accepted hid hl hnone)).trans ?_))
  rw [State.create_eq, createAddrs, List.foldl_map]
  exact State.closeWith_quiet _ (by exact h.2.2.1)

/-- CREATE CONNECTION refused by a check made in the event of its last address (O14). -/
theorem exec_create_refused {s : State} {p : List Byte} {r : Result} (h : s.Ready)
    (hcount : arg p 10 = 1 ∨ arg p 10 = 2 ∨ arg p 10 = 3) (hlen : p.length = 11 + arg p 10)
    (hr : doCreateConnection p (s.acting .createConnection (p.length - 1) p.dropLast) =
      (s.acting .createConnection (p.length - 1) p.dropLast, r)) : exec (.createConnection p) s = .next (s.refuse r) :=
  congrArg _ ((State.send_create h (validDropCount_iff.mpr hcount) hlen).trans
    (State.finishWhole_refused (c := .createConnection) h.2.2 hr))

/-- Settles O14. -/
theorem createConnectionActs : Obligations.CreateConnectionActs := by
  refine ⟨?_, fun s p h => ⟨fun hp hcount => ?_, fun hcount hlen => ?_⟩⟩
  · rintro s p id l m h hid hl hcount hlen rfl hvac hcls haddr hnodup hfree hroom
    have hnone : createRefused s p id = none := by
      refine createRefused_eq_none_iff.mpr ⟨hvac, ⟨by omega, hcls, forall_createAddrs.mpr haddr,
        createAddrs_nodup_iff.mpr hnodup⟩, ?_, ?_⟩
      · exact forall_createAddrs.mpr fun x hx d hd hline => hfree x hx d hd (Fin.ext (hline.trans hl))
      · rw [State.freeSlots_eq, createAddrs_length hlen]
        exact Nat.le_sub_of_add_le' hroom
    rw [exec_create_accepted h hid hl hcount hlen hnone, createRecord, fallbackField_eq, createClamped_eq]
    rfl
  · exact congrArg _ (State.send_create_badCount h hp (Bool.eq_false_iff.mpr (mt validDropCount_iff.mp (by omega))))
  · have hpos : 0 < arg p 10 := by omega
    refine ⟨fun hp => exec_create_refused h hcount hlen (doCreateConnection_badId hp), fun id hid => ⟨fun hst => ?_,
      fun hst => ⟨fun hbad => ?_, fun hl hcls haddr hnodup => ⟨fun huse => ?_, fun hfree hroom => ?_⟩⟩⟩⟩
    all_goals refine exec_create_refused h hcount hlen (doCreateConnection_refused hid ?_)
    · exact if_pos hst
    · refine (if_neg (not_not.mpr hst)).trans (if_pos ?_)
      rwa [createAddrs_nodup_iff, createAddrs_any_bad]
    · exact (if_neg (not_not.mpr hst)).trans ((if_neg (not_createBadParam hl hcls haddr hnodup)).trans
        (if_pos (createAddrs_any_inUse.mpr huse)))
    · refine (if_neg (not_not.mpr hst)).trans ((if_neg (not_createBadParam hl hcls haddr hnodup)).trans
        ((if_neg ?_).trans (if_pos ?_)))
      · rw [createAddrs_any_inUse]
        rintro ⟨x, hx, d, hd, hline, hax⟩
        exact hfree x hx d hd hline hax
      · rw [State.freeSlots_eq, createAddrs_length hlen]
        have hlack (n k : Nat) (h1 : 160 < n + k) (h2 : 0 < k) : 160 - n < k := by omega
        exact hlack _ _ hroom hpos

end Sys2Proof.Machine
end

section
/-! PROOFS. EDIT CONNECTION: what each field does, and the command field by field (O15). -/

namespace Sys2Proof.Machine

/-! ## The state an EDIT CONNECTION has reached -/

/-- The state with one record, the drop slots, the engine and the port in place of its own: all that an EDIT CONNECTION
changes. -/
def State.editedTo (s : State) (id : Fin 96) (c : Conn) (ds : List Drop) (e : Engine) (p : Port) : State :=
  { s with conns := s.conns.set id c, drops := ds, engine := e, port := p }

theorem State.editedTo_self (s : State) (id : Fin 96) (p : Port) :
    s.editedTo id s.conns[id] s.drops s.engine p = { s with port := p } := by
  rw [State.editedTo]
  exact congrArg (fun v => ({ s with conns := v, port := p } : State)) (Vector.set_getElem_self _)

theorem State.editedTo_conn (s : State) (id : Fin 96) (c : Conn) (ds : List Drop) (e : Engine) (p : Port) :
    (s.editedTo id c ds e p).conns[id] = c := by
  rw [State.editedTo, getElem_set_fin, if_pos rfl]

/-- A change of the record under edit, with the trigger of 01 R23. -/
theorem State.edited_editedTo (s : State) (id : Fin 96) (c : Conn) (ds : List Drop) (e : Engine) (p : Port)
    (f : Conn → Conn) : (s.editedTo id c ds e p).edited id f =
      s.editedTo id { f c with moved := true } ds { e with pend := true } p := by
  rw [State.edited, State.modConn, State.editedTo_conn]
  exact congrArg (fun v => ({ s with conns := v, drops := ds, engine := { e with pend := true }, port := p } : State))
    (Vector.set_set ..)

/-! ## The fields (01 R22 to R24) -/

section fields
variable (s : State) (id : Fin 96) (c : Conn) (ds : List Drop) (e : Engine) (p : Port) (v : Nat)

theorem editId_refused {n : Nat} {s : State} {id : Fin 96} (hn : n = id.val) (h : s.conns[id].refuses = true) :
    editId n s = (s, .refused .badState) := by
  subst hn
  exact (dif_pos id.isLt).trans (if_pos h)

theorem editId_accepted {n : Nat} {s : State} {id : Fin 96} (hn : n = id.val) (h : s.conns[id].refuses = false) :
    editId n s = (s.setTarget id.val, .applied false) := by
  subst hn
  exact (dif_pos id.isLt).trans (if_neg (Bool.eq_false_iff.mp h))

theorem editClass_editedTo {v : Nat} (hv : v ≤ 2) : editClass id v (s.editedTo id c ds e p) =
    (s.editedTo id { c with cls := v, moved := true } ds { e with pend := true } p, .applied false) := by
  rw [editClass, if_neg (by omega), State.edited_editedTo]

theorem editSub_editedTo : editSub id v (s.editedTo id c ds e p) =
    (s.editedTo id
      { c with sub := clampNat 50 30000 v, granted := min c.granted (clampNat 50 30000 v), moved := true } ds
      { e with pend := true } p, .applied (clampNat 50 30000 v != v)) := by
  rw [editSub, State.edited_editedTo]

theorem editDt_editedTo : editDt id v (s.editedTo id c ds e p) =
    (s.editedTo id { c with dt := clampNat 40 120 v, moved := true } ds { e with pend := true } p,
      .applied (clampNat 40 120 v != v)) := by
  rw [editDt, State.edited_editedTo]

/-- The shares of a connection's drops brought down to M (01 R24). -/
def scaledShares (ds : List Drop) (id : Fin 96) (m : Nat) : List Drop :=
  if m < shareSum (ds.filter (fun d => d.conn == id)) then
    ds.map (fun d => if d.conn = id then
      { d with share := d.share * m / shareSum (ds.filter (fun d => d.conn == id)) } else d)
  else ds

theorem scaleShares_editedTo (m : Nat) : (s.editedTo id c ds e p).scaleShares id m =
    s.editedTo id c (scaledShares ds id m) e p := by
  unfold State.scaleShares scaledShares
  rw [← map_conn_beq]
  exact (apply_ite (fun l => s.editedTo id c l e p) _ _ _).symm

theorem editMax_editedTo : editMax id v (s.editedTo id c ds e p) =
    (s.editedTo id
      { c with
        maxFlow := clampNat 1 20000 v, fallback := c.fallback.map (fun f => min f (clampNat 1 20000 v))
        ceiling := min c.ceiling (clampNat 1 20000 v), moved := true }
      (scaledShares ds id (clampNat 1 20000 v)) { e with pend := true } p, .applied (clampNat 1 20000 v != v)) := by
  rw [editMax, State.edited_editedTo, scaleShares_editedTo]

theorem editFallback_editedTo : editFallback id v (s.editedTo id c ds e p) =
    (s.editedTo id { c with fallback := fallbackField v c.maxFlow, moved := true } ds { e with pend := true } p,
      .applied (fallbackField v c.maxFlow != optField v)) := by
  rw [editFallback, State.edited_editedTo, State.editedTo_conn]

theorem editHold_editedTo : editHold id v (s.editedTo id c ds e p) =
    (s.editedTo id
      { c with
        hold := optField v, moved := true
        curtailed := if c.state = .active ∧ v ≠ 65535 then false else c.curtailed
        ramp := if c.state = .active ∧ v ≠ 65535 then false else c.ramp } ds
      { e with
        pend := true
        curtail := if c.state = .active ∧ v ≠ 65535 then e.curtail.filter (fun x => x.id ≠ id) else e.curtail } p,
      .applied false) := by
  rw [editHold, State.edited_editedTo, State.editedTo_conn, ← filter_id_bne]
  split
  · rw [State.modConn, State.editedTo_conn]
    exact congrArg (fun w => (({ s with
      conns := w, drops := ds, port := p
      engine := { e with pend := true, curtail := e.curtail.filter (fun x => !(x.id == id)) } } : State),
        FieldEnd.applied false)) (Vector.set_set ..)
  · rfl

end fields

/-! ## The bytes -/

/-- The port of an open EDIT CONNECTION. -/
abbrev Port.editing (p : Port) (pos : Nat) (held : List Byte) (target : Nat) (clamped : Bool) : Port :=
  p.opened .editConnection pos held target clamped

/-- A parameter byte of an open EDIT CONNECTION (09 R184). -/
theorem State.paramByte_edit {s : State} (h : s.Ready) (id : Fin 96) (c : Conn) (ds : List Drop) (e : Engine) (pos : Nat)
    (held : List Byte) (n : Nat) (cl : Bool) (b : Byte) (home : Bool) :
    (s.editedTo id c ds e (s.port.editing pos held n cl)).paramByte b home =
      ((s.editedTo id c ds e ((s.port.editing pos held n cl).period 0)).collectField .editConnection
        (held ++ [b])).finish := by
  have hl : s.port.selLow = true ∧ s.port.seenHigh = true := (Port.listening_iff _).1 h.1
  refine (State.paramByte_collecting ?_ rfl b home).trans rfl
  exact (Port.listening_iff _).mpr hl

/-- A byte inside a field of EDIT CONNECTION is held (09 R184). -/
theorem State.collectEdit_none {s : State} {pos : Nat} (hp : s.port.pos = pos) {f : List Byte}
    (hf : editField (pos + 1) f s = none) :
    s.collectField .editConnection f = s.modPort (fun p => { p with pos := p.pos + 1, field := f }) := by
  rw [State.collectField, hp, show fieldOf .editConnection (pos + 1) f s = none from hf]

/-- A field of EDIT CONNECTION applied (09 R184). -/
theorem State.collectEdit_applied {s t : State} {pos : Nat} (hp : s.port.pos = pos) {f : List Byte} {k : Bool}
    (hf : editField (pos + 1) f s = some (t, .applied k)) :
    s.collectField .editConnection f = t.nextField .editConnection (pos + 1) k := by
  rw [State.collectField, hp, show fieldOf .editConnection (pos + 1) f s = some (t, .applied k) from hf]

/-- A field of EDIT CONNECTION refused (09 R184). -/
theorem State.collectEdit_refused {s t : State} {pos : Nat} (hp : s.port.pos = pos) {f : List Byte} {r : Result}
    (hf : editField (pos + 1) f s = some (t, .refused r)) : s.collectField .editConnection f = t.closeWith r := by
  rw [State.collectField, hp, show fieldOf .editConnection (pos + 1) f s = some (t, .refused r) from hf]

section bytes
variable {s : State} (h : s.Ready) (id : Fin 96) {c c' : Conn} {ds ds' : List Drop} {e e' : Engine} {pos : Nat}
  {held : List Byte} {n n' : Nat} {cl k : Bool} {b : Byte} {home : Bool}
include h

/-- A byte inside a field. -/
theorem State.paramByte_edit_more
    (hf : ∀ t, editField (pos + 1) (held ++ [b]) t = none) :
    (s.editedTo id c ds e (s.port.editing pos held n cl)).paramByte b home =
      s.editedTo id c ds e (s.port.editing (pos + 1) (held ++ [b]) n cl) := by
  rw [State.paramByte_edit h, State.collectEdit_none rfl (hf _)]
  exact State.finish_of_settled h.2.2

/-- The last byte of a field that is applied, not the last of the command. -/
theorem State.paramByte_edit_applied (hpos : pos + 1 ≠ 11)
    (hf : editField (pos + 1) (held ++ [b]) (s.editedTo id c ds e ((s.port.editing pos held n cl).period 0)) =
      some (s.editedTo id c' ds' e' ((s.port.editing pos held n' cl).period 0), .applied k)) :
    (s.editedTo id c ds e (s.port.editing pos held n cl)).paramByte b home =
      s.editedTo id c' ds' e' (s.port.editing (pos + 1) [] n' (cl || k)) := by
  rw [State.paramByte_edit h, State.collectEdit_applied rfl hf, State.nextField, if_neg (by exact hpos)]
  exact State.finish_of_settled h.2.2

/-- The last byte of the last field. -/
theorem State.paramByte_edit_last (hpos : pos + 1 = 11)
    (hf : editField (pos + 1) (held ++ [b]) (s.editedTo id c ds e ((s.port.editing pos held n cl).period 0)) =
      some (s.editedTo id c' ds' e' ((s.port.editing pos held n cl).period 0), .applied k)) :
    (s.editedTo id c ds e (s.port.editing pos held n cl)).paramByte b home =
      s.editedTo id c' ds' e' (s.port.closed (clampResult (cl || k))) := by
  rw [State.paramByte_edit h, State.collectEdit_applied rfl hf, State.nextField, if_pos (by exact hpos)]
  exact State.finish_of_settled h.2.2

/-- The last byte of a field that is refused. -/
theorem State.paramByte_edit_refused {r : Result}
    (hf : editField (pos + 1) (held ++ [b]) (s.editedTo id c ds e ((s.port.editing pos held n cl).period 0)) =
      some (s.editedTo id c ds e ((s.port.editing pos held n cl).period 0), .refused r)) :
    (s.editedTo id c ds e (s.port.editing pos held n cl)).paramByte b home =
      s.editedTo id c ds e (s.port.closed r) := by
  rw [State.paramByte_edit h, State.collectEdit_refused rfl hf]
  exact State.finish_of_settled h.2.2

end bytes

/-! ## Field by field -/

/-- The target an accepted id field has named (01 R22). -/
theorem State.editTarget_editedTo (s : State) (id : Fin 96) (c : Conn) (ds : List Drop) (e : Engine) (pos : Nat)
    (held : List Byte) (cl : Bool) :
    (s.editedTo id c ds e ((s.port.editing pos held id.val cl).period 0)).editTarget = id :=
  Fin.ext (Nat.mod_eq_of_lt id.isLt)

section fieldBytes
variable {s : State} (h : s.Ready) (id : Fin 96) (c : Conn) (ds : List Drop) (e : Engine) (cl : Bool) (a b : Byte)
  (home : Bool)
include h

/-- The class field. -/
theorem State.paramByte_edit_class (hv : a.toNat ≤ 2) :
    (s.editedTo id c ds e (s.port.editing 1 [] id.val cl)).paramByte a home =
      s.editedTo id { c with cls := a.toNat, moved := true } ds { e with pend := true }
        (s.port.editing 2 [] id.val (cl || false)) := by
  refine State.paramByte_edit_applied h id (by decide) ?_
  show some (editClass (State.editTarget _) a.toNat _) = _
  rw [State.editTarget_editedTo, editClass_editedTo s id c ds e _ hv]

/-- The S field. -/
theorem State.paramByte_edit_sub :
    ((s.editedTo id c ds e (s.port.editing 2 [] id.val cl)).paramByte a home).paramByte b home =
      s.editedTo id { c with sub := clampNat 50 30000 (arg2 [a, b] 0), granted := min c.granted (clampNat 50 30000 (arg2 [a, b] 0)),
                             moved := true } ds { e with pend := true }
        (s.port.editing 4 [] id.val (cl || (clampNat 50 30000 (arg2 [a, b] 0) != arg2 [a, b] 0))) := by
  rw [State.paramByte_edit_more h id (fun _ => rfl)]
  refine State.paramByte_edit_applied h id (by decide) ?_
  show some (editSub (State.editTarget _) (arg2 [a, b] 0) _) = _
  rw [State.editTarget_editedTo, editSub_editedTo]

/-- The c field. -/
theorem State.paramByte_edit_dt :
    (s.editedTo id c ds e (s.port.editing 4 [] id.val cl)).paramByte a home =
      s.editedTo id { c with dt := clampNat 40 120 a.toNat, moved := true } ds { e with pend := true }
        (s.port.editing 5 [] id.val (cl || (clampNat 40 120 a.toNat != a.toNat))) := by
  refine State.paramByte_edit_applied h id (by decide) ?_
  show some (editDt (State.editTarget _) a.toNat _) = _
  rw [State.editTarget_editedTo, editDt_editedTo]

/-- The M field. -/
theorem State.paramByte_edit_max {m : Nat} (hm : m = clampNat 1 20000 (arg2 [a, b] 0)) :
    ((s.editedTo id c ds e (s.port.editing 5 [] id.val cl)).paramByte a home).paramByte b home =
      s.editedTo id { c with maxFlow := m, fallback := c.fallback.map (fun f => min f m), ceiling := min c.ceiling m,
                             moved := true } (scaledShares ds id m) { e with pend := true }
        (s.port.editing 7 [] id.val (cl || (m != arg2 [a, b] 0))) := by
  subst hm
  rw [State.paramByte_edit_more h id (fun _ => rfl)]
  refine State.paramByte_edit_applied h id (by decide) ?_
  show some (editMax (State.editTarget _) (arg2 [a, b] 0) _) = _
  rw [State.editTarget_editedTo, editMax_editedTo]

/-- The fallback field. -/
theorem State.paramByte_edit_fallback :
    ((s.editedTo id c ds e (s.port.editing 7 [] id.val cl)).paramByte a home).paramByte b home =
      s.editedTo id { c with fallback := fallbackField (arg2 [a, b] 0) c.maxFlow, moved := true } ds { e with pend := true }
        (s.port.editing 9 [] id.val (cl || (fallbackField (arg2 [a, b] 0) c.maxFlow != optField (arg2 [a, b] 0)))) := by
  rw [State.paramByte_edit_more h id (fun _ => rfl)]
  refine State.paramByte_edit_applied h id (by decide) ?_
  show some (editFallback (State.editTarget _) (arg2 [a, b] 0) _) = _
  rw [State.editTarget_editedTo, editFallback_editedTo]

/-- The hold field, the last of the command. -/
theorem State.paramByte_edit_hold {v : Nat} (hv : v = arg2 [a, b] 0) :
    ((s.editedTo id c ds e (s.port.editing 9 [] id.val cl)).paramByte a home).paramByte b home =
      s.editedTo id
        { c with
          hold := optField v, moved := true
          curtailed := if c.state = .active ∧ v ≠ 65535 then false else c.curtailed
          ramp := if c.state = .active ∧ v ≠ 65535 then false else c.ramp } ds
        { e with
          pend := true
          curtail := if c.state = .active ∧ v ≠ 65535 then e.curtail.filter (fun x => x.id ≠ id) else e.curtail }
        (s.port.closed (clampResult (cl || false))) := by
  subst hv
  rw [State.paramByte_edit_more h id (fun _ => rfl)]
  refine State.paramByte_edit_last h id (by decide) ?_
  show some (editHold (State.editTarget _) (arg2 [a, b] 0) _) = _
  rw [State.editTarget_editedTo, editHold_editedTo]

end fieldBytes

/-- EDIT CONNECTION opened: its command byte changes nothing but the port (09 R181). -/
theorem State.send_edit_nil {s : State} (h : s.Ready) (id : Fin 96) : s.send .editConnection [] false =
    s.editedTo id s.conns[id] s.drops s.engine (s.port.editing 0 [] 0 false) := by
  show s.commandByte (Cmd.code .editConnection) = _
  rw [State.commandByte_ready h, Cmd.ofCode_code, State.editedTo_self]
  dsimp only
  rw [State.openCmd_params s .editConnection (by decide)]
  exact State.finish_of_settled h.2.2

/-- The id field accepted: it names the target and changes nothing else (01 R22). -/
theorem State.send_edit_id {s : State} (h : s.Ready) {id : Fin 96} {a : Byte} (ha : a.toNat = id.val)
    (hst : s.conns[id].refuses = false) : s.send .editConnection [a] false =
    s.editedTo id s.conns[id] s.drops s.engine (s.port.editing 1 [] id.val false) := by
  show (s.send .editConnection [] false).paramByte a false = _
  rw [State.send_edit_nil h id]
  refine State.paramByte_edit_applied (k := false) h id (by decide) ?_
  show some (editId a.toNat _) = _
  rw [editId_accepted ha (by rw [State.editedTo_conn]; exact hst)]
  rfl

/-- The fields of EDIT CONNECTION after the id, one after another. -/
theorem State.send_edit_whole {s : State} (h : s.Ready) {id : Fin 96} {a0 a1 a2 a3 a4 a5 a6 a7 a8 a9 a10 : Byte}
    (ha : a0.toNat = id.val) (hst : s.conns[id].refuses = false) (hcls : a1.toNat ≤ 2) {sub dt m fb hold : Nat}
    (hsub : sub = clampNat 50 30000 (arg2 [a2, a3] 0)) (hdt : dt = clampNat 40 120 a4.toNat)
    (hm : m = clampNat 1 20000 (arg2 [a5, a6] 0)) (hfb : fb = arg2 [a7, a8] 0) (hhold : hold = arg2 [a9, a10] 0) :
    s.send .editConnection [a0, a1, a2, a3, a4, a5, a6, a7, a8, a9, a10] false =
      s.editedTo id
        { s.conns[id] with
          cls := a1.toNat, sub := sub, dt := dt, maxFlow := m, granted := min s.conns[id].granted sub
          ceiling := min s.conns[id].ceiling m, fallback := fallbackField fb m, hold := optField hold
          curtailed := if s.conns[id].state = .active ∧ hold ≠ 65535 then false else s.conns[id].curtailed
          ramp := if s.conns[id].state = .active ∧ hold ≠ 65535 then false else s.conns[id].ramp
          moved := true }
        (scaledShares s.drops id m)
        { s.engine with
          pend := true
          curtail := if s.conns[id].state = .active ∧ hold ≠ 65535 then s.engine.curtail.filter (fun x => x.id ≠ id)
            else s.engine.curtail }
        (s.port.closed (clampResult (sub != arg2 [a2, a3] 0 || dt != a4.toNat || m != arg2 [a5, a6] 0 ||
          fallbackField fb m != optField fb))) := by
  subst hsub hdt hfb
  show ((((((((((s.send .editConnection [a0] false).paramByte a1 false).paramByte a2 false).paramByte a3 false).paramByte
    a4 false).paramByte a5 false).paramByte a6 false).paramByte a7 false).paramByte a8 false).paramByte a9
    false).paramByte a10 false = _
  rw [State.send_edit_id h ha hst, State.paramByte_edit_class h id _ _ _ _ _ _ hcls, State.paramByte_edit_sub h,
    State.paramByte_edit_dt h, State.paramByte_edit_max h id _ _ _ _ _ _ _ hm, State.paramByte_edit_fallback h,
    State.paramByte_edit_hold h id _ _ _ _ _ _ _ hhold]
  simp only [Bool.or_false, Bool.false_or]

/-- Settles O15. -/
theorem editConnectionActs : Obligations.EditConnectionActs := by
  refine ⟨?_, fun s a v h => ⟨fun ha => ?_, fun id ha => ⟨fun hst => ?_, fun hst => ⟨?_, fun hv => ?_, fun hv => ?_⟩⟩⟩⟩
  · rintro s p id m sum h hlen hid hst hcls rfl rfl
    obtain ⟨a0, a1, a2, a3, a4, a5, a6, a7, a8, a9, a10, rfl⟩ : ∃ a0 a1 a2 a3 a4 a5 a6 a7 a8 a9 a10,
      p = [a0, a1, a2, a3, a4, a5, a6, a7, a8, a9, a10] := by
      match p, hlen with
      | [a0, a1, a2, a3, a4, a5, a6, a7, a8, a9, a10], _ => exact ⟨a0, a1, a2, a3, a4, a5, a6, a7, a8, a9, a10, rfl⟩
    refine congrArg _ ((State.send_edit_whole h hid (Conn.refuses_eq_false_iff.mpr hst) hcls rfl rfl rfl rfl rfl).trans ?_)
    rw [clampNat_bne (by decide), clampNat_bne (by decide), clampNat_bne (by decide), fallbackField_bne, fallbackField_eq,
      ← Bool.not_and, ← Bool.not_and, ← Bool.not_and, ← Bool.and_assoc, ← Bool.and_assoc]
    rfl
  · show Host.Outcome.next ((s.send .editConnection [] false).paramByte a false) = _
    rw [State.send_edit_nil h 0, State.paramByte_edit_refused (r := .badId) h, State.editedTo_self]
    · rfl
    · exact congrArg some (dif_neg (not_lt.mpr ha))
  · show Host.Outcome.next ((s.send .editConnection [] false).paramByte a false) = _
    rw [State.send_edit_nil h id, State.paramByte_edit_refused (r := .badState) h, State.editedTo_self]
    · rfl
    · exact congrArg some (editId_refused ha (by rw [State.editedTo_conn]; exact Conn.refuses_of hst))
  · refine congrArg _ ((State.send_edit_id h ha (Conn.refuses_eq_false_iff.mpr hst)).trans ?_)
    exact State.editedTo_self s id _
  · show Host.Outcome.next ((s.send .editConnection [a] false).paramByte v false) = _
    rw [State.send_edit_id h ha (Conn.refuses_eq_false_iff.mpr hst), State.paramByte_edit_refused (r := .badParam) h,
      State.editedTo_self]
    · rfl
    · exact congrArg some (if_pos hv)
  · show Host.Outcome.next ((s.send .editConnection [a] false).paramByte v false) = _
    rw [State.send_edit_id h ha (Conn.refuses_eq_false_iff.mpr hst), State.paramByte_edit_class h id _ _ _ _ _ _ hv]
    rfl

end Sys2Proof.Machine
end

section
/-! PROOFS. What changes a connection or a drop leaves the lines alone. -/

namespace Sys2Proof.Machine

@[simp] theorem State.modDrop_lines (s : State) (l : Fin 8) (a : Nat) (f : Drop → Drop) :
    (s.modDrop l a f).lines = s.lines := rfl

@[simp] theorem State.reportChange_lines (s : State) (id : Fin 96) : (s.reportChange id).lines = s.lines := rfl

@[simp] theorem State.setLowDt_lines (s : State) (id : Fin 96) (b : Bool) : (s.setLowDt id b).lines = s.lines := rfl

@[simp] theorem State.expireHold_lines (s : State) (id : Fin 96) : (s.expireHold id).lines = s.lines := rfl

@[simp] theorem State.returnActive_lines (s : State) (id : Fin 96) : (s.returnActive id).lines = s.lines := rfl

@[simp] theorem State.toVacant_lines (s : State) (id : Fin 96) : (s.toVacant id).lines = s.lines := rfl

@[simp] theorem State.dropBecomes_lines (s : State) (l : Fin 8) (a : Nat) (id : Fin 96) (st : DropState) :
    (s.dropBecomes l a id st).lines = s.lines := rfl

@[simp] theorem State.compareDemand_lines (s : State) (id : Fin 96) (old : Nat) :
    (s.compareDemand id old).lines = s.lines := by
  unfold State.compareDemand
  split <;> rfl

@[simp] theorem State.recompute_lines (s : State) (id : Fin 96) (noted : ConnState) :
    (s.recompute id noted).lines = s.lines := by
  unfold State.recompute
  dsimp only
  split
  · split
    · exact State.compareDemand_lines ..
    · rfl
  · rfl

@[simp] theorem State.enterSuspended_lines (s : State) (id : Fin 96) (cause : SuspendCause) :
    (s.enterSuspended id cause).lines = s.lines := by
  unfold State.enterSuspended
  dsimp only
  split <;> rfl

@[simp] theorem State.gainCause_lines (s : State) (id : Fin 96) (cause : SuspendCause) :
    (s.gainCause id cause).lines = s.lines := by
  unfold State.gainCause
  split
  · exact State.enterSuspended_lines ..
  · rfl
  · rfl

@[simp] theorem State.loseCause_lines (s : State) (id : Fin 96) (cause : SuspendCause) :
    (s.loseCause id cause).lines = s.lines := by
  unfold State.loseCause
  dsimp only
  split
  · split <;> rfl
  · rfl

@[simp] theorem State.testComms_lines (s : State) (id : Fin 96) : (s.testComms id).lines = s.lines := by
  unfold State.testComms
  split
  · rfl
  · exact State.loseCause_lines ..

@[simp] theorem State.enterActive_lines (s : State) (id : Fin 96) : (s.enterActive id).lines = s.lines := by
  unfold State.enterActive
  dsimp only
  split
  · rfl
  · exact State.gainCause_lines ..

@[simp] theorem State.testService_lines (s : State) (id : Fin 96) : (s.testService id).lines = s.lines := by
  unfold State.testService
  split
  · exact State.enterActive_lines ..
  · rfl

@[simp] theorem State.vacantIfClosed_lines (s : State) (id : Fin 96) : (s.vacantIfClosed id).lines = s.lines := by
  unfold State.vacantIfClosed
  split <;> rfl

@[simp] theorem State.closeDrop_lines (s : State) (l : Fin 8) (a : Nat) (id : Fin 96) :
    (s.closeDrop l a id).lines = s.lines :=
  State.vacantIfClosed_lines ..

@[simp] theorem State.scoreReport_lines (s : State) (id : Fin 96) (r : Report) : (s.scoreReport id r).lines = s.lines := by
  unfold State.scoreReport
  dsimp only
  split
  · rfl
  · split <;> split <;> rfl

@[simp] theorem State.applyReport_lines (s : State) (d : Drop) (noted : ConnState) (r : Report) :
    (s.applyReport d noted r).lines = s.lines := by
  have hscore (t : State) : (if noted = .active then t.scoreReport d.conn r else t).lines = t.lines := by
    split
    · exact State.scoreReport_lines ..
    · rfl
  have htests (t : State) : (if noted = .pending then t.testService d.conn
      else if noted = .suspended then t.testComms d.conn else t).lines = t.lines := by
    split
    · exact State.testService_lines ..
    · split
      · exact State.testComms_lines ..
      · rfl
  unfold State.applyReport
  cases d.state != .live <;>
    simp only [if_true, Bool.false_eq_true, if_false, htests, hscore, State.recompute_lines, State.dropBecomes_lines]

@[simp] theorem State.takeReport_lines (s : State) (l : Fin 8) (a : Nat) (r : Report) :
    (s.takeReport l a r).lines = s.lines := by
  unfold State.takeReport
  dsimp only
  split
  · rfl
  · split
    · split
      · exact State.closeDrop_lines ..
      · rfl
    · exact State.applyReport_lines ..

@[simp] theorem State.closeMiss_lines (s : State) (d : Drop) : (s.closeMiss d).lines = s.lines := by
  unfold State.closeMiss
  dsimp only
  split
  · split
    · exact State.closeDrop_lines ..
    · rfl
  · rfl

@[simp] theorem State.countMiss_lines (s : State) (d : Drop) (noted : ConnState) : (s.countMiss d noted).lines = s.lines := by
  unfold State.countMiss
  dsimp only
  split
  · split
    · exact (State.gainCause_lines ..).trans (State.recompute_lines ..)
    · exact State.recompute_lines ..
  · rfl

@[simp] theorem State.takeMiss_lines (s : State) (l : Fin 8) (a : Nat) : (s.takeMiss l a).lines = s.lines := by
  unfold State.takeMiss
  split
  · rfl
  · split
    · exact State.closeMiss_lines ..
    · exact State.countMiss_lines ..

end Sys2Proof.Machine
end

section
/-! PROOFS. The ends of an exchange, written out, and the close-out of a RETIRING connection (O48). -/

namespace Sys2Proof.Machine

/-! ## Slots picked by their place -/

theorem map_place_beq (ds : List Drop) (l : Fin 8) (a : Nat) (f : Drop → Drop) :
    ds.map (fun d => if d.line == l && d.addr == a then f d else d) =
      ds.map (fun d => if d.line = l ∧ d.addr = a then f d else d) := by
  simp only [Bool.and_eq_true, beq_iff_eq]

/-- The slot at an address of a line, changed. -/
theorem State.modDrop_eq (s : State) (l : Fin 8) (a : Nat) (f : Drop → Drop) : s.modDrop l a f =
    { s with drops := s.drops.map (fun d => if d.line = l ∧ d.addr = a then f d else d) } := by
  rw [← map_place_beq]
  rfl

/-- Two changes of one slot, one after the other. -/
theorem map_place_map (ds : List Drop) (l : Fin 8) (a : Nat) {f : Drop → Drop} (g : Drop → Drop)
    (hl : ∀ d, (f d).line = d.line) (ha : ∀ d, (f d).addr = d.addr) :
    (ds.map (fun d => if d.line = l ∧ d.addr = a then f d else d)).map
        (fun d => if d.line = l ∧ d.addr = a then g d else d) =
      ds.map (fun d => if d.line = l ∧ d.addr = a then g (f d) else d) := by
  rw [List.map_map]
  refine List.map_congr_left fun d _ => ?_
  by_cases h : d.line = l ∧ d.addr = a
  · simp only [Function.comp_apply, if_pos h, hl, ha]
  · simp only [Function.comp_apply, if_neg h]

/-- A change of one slot, which keeps its connection, is lost when that connection's slots are freed. -/
theorem State.PoolRight.filter_map_place {s : State} (h : s.PoolRight) {d : Drop} (hd : d ∈ s.drops) {f : Drop → Drop}
    (hf : ∀ e, (f e).conn = e.conn) :
    (s.drops.map (fun e => if e.line = d.line ∧ e.addr = d.addr then f e else e)).filter (fun e => e.conn ≠ d.conn) =
      s.drops.filter (fun e => e.conn ≠ d.conn) := by
  have hmap : s.drops.map (fun e => if e.line = d.line ∧ e.addr = d.addr then f e else e) =
      s.drops.map (fun e => if e.conn = d.conn then (if e.line = d.line ∧ e.addr = d.addr then f e else e) else e) := by
    refine List.map_congr_left fun e he => ?_
    by_cases hplace : e.line = d.line ∧ e.addr = d.addr
    · rw [if_pos hplace, if_pos (by rw [h.eq_of_place hd he hplace.1 hplace.2])]
    · rw [if_neg hplace, ite_self]
  rw [hmap, filter_conn_map]
  intro e
  split
  · exact hf e
  · rfl

/-! ## The end of an exchange without a stop pending -/

/-- The exchange ends with a valid report (05 R96). -/
theorem State.endReport_eq {s : State} {l : Fin 8} (hstop : s.lines[l].stop = false) (r : Report) : s.endReport l r =
    ({ s with lines := s.lines.set l { s.lines[l].space with bad := 0 } } : State).takeReport l s.lines[l].polled r := by
  have hlines := State.takeReport_lines ({ s with lines := s.lines.set l { s.lines[l].space with bad := 0 } } : State) l
    s.lines[l].polled r
  refine if_neg ?_
  show ¬ (State.takeReport { s with lines := s.lines.set l { s.lines[l].space with bad := 0 } } _ _ _).lines[l].stop = true
  rw [hlines, getElem_set_fin, if_pos rfl]
  exact Bool.eq_false_iff.mp hstop

/-- The exchange ends with a miss that does not fault the line (05 R96). -/
theorem State.endMiss_eq {s : State} {l : Fin 8} {spoiled : Bool} {bad : Nat} (hstop : s.lines[l].stop = false)
    (hbad : bad = if spoiled then s.lines[l].bad + 1 else 0) (hlt : bad < 8) : s.endMiss l spoiled =
    ({ s with lines := s.lines.set l { s.lines[l].space with bad := bad } } : State).takeMiss l s.lines[l].polled := by
  have hmin : (if spoiled then min 8 (s.lines[l].bad + 1) else 0) = bad := by
    split at hbad
    next h => rw [if_pos h, hbad, min_eq_right (by omega)]
    next h => rw [if_neg h, hbad]
  have hlines := State.takeMiss_lines ({ s with lines := s.lines.set l { s.lines[l].space with bad := bad } } : State) l
    s.lines[l].polled
  unfold State.endMiss
  rw [hmin]
  refine (if_neg hlt.ne).trans (if_neg ?_)
  show ¬ (State.takeMiss { s with lines := s.lines.set l { s.lines[l].space with bad := bad } } _ _).lines[l].stop = true
  rw [hlines, getElem_set_fin, if_pos rfl]
  exact Bool.eq_false_iff.mp hstop

/-! The same for a state whose line has just been written. -/

/-- The line just written. -/
theorem State.lines_set_self (s : State) (l : Fin 8) (z : Line) :
    ({ s with lines := s.lines.set l z } : State).lines[l] = z :=
  (getElem_set_fin _ _ _ _).trans (if_pos rfl)

theorem State.modLine_eq {s : State} {l : Fin 8} {x : Line} (hx : s.lines[l] = x) (f : Line → Line) :
    s.modLine l f = { s with lines := s.lines.set l (f x) } := by
  rw [State.modLine, hx]

theorem State.modLine_set (s : State) (l : Fin 8) (z : Line) (f : Line → Line) :
    ({ s with lines := s.lines.set l z } : State).modLine l f = { s with lines := s.lines.set l (f z) } := by
  rw [State.modLine_eq (State.lines_set_self s l z), Vector.set_set]

theorem State.endReport_set {s : State} {l : Fin 8} {z y : Line} {r : Report} (hstop : z.stop = false)
    (hy : { z.space with bad := 0 } = y) : ({ s with lines := s.lines.set l z } : State).endReport l r =
      ({ s with lines := s.lines.set l y } : State).takeReport l z.polled r := by
  have hz := State.lines_set_self s l z
  rw [State.endReport_eq (by rw [hz]; exact hstop), hz, hy, Vector.set_set]

theorem State.endMiss_set {s : State} {l : Fin 8} {z y : Line} {spoiled : Bool} {bad : Nat}
    (hstop : z.stop = false) (hbad : bad = if spoiled then z.bad + 1 else 0) (hlt : bad < 8)
    (hy : { z.space with bad := bad } = y) : ({ s with lines := s.lines.set l z } : State).endMiss l spoiled =
      ({ s with lines := s.lines.set l y } : State).takeMiss l z.polled := by
  have hz := State.lines_set_self s l z
  rw [State.endMiss_eq (by rw [hz]; exact hstop) (by rw [hz]; exact hbad) hlt, hz, hy, Vector.set_set]

/-- The CRC latch set (05 R103). -/
theorem State.setLatch_set (s : State) (l : Fin 8) (z : Line) :
    ({ s with lines := s.lines.set l z } : State).setLatch l = { s with
      lines := s.lines.set l { z with latch := true }
      att := if z.latch then s.att else s.att.raiseUnit .crcLatched l } := by
  unfold State.setLatch
  rw [State.modLine_set, State.lines_set_self]
  cases z.latch <;> rfl

/-! ## The events that end an exchange of a POLLING line -/

theorem Line.inExchange_of {x : Line} (h : x.phase = .awaiting ∨ x.phase = .receiving) : x.inExchange = true := by
  simpa only [Line.inExchange, Bool.or_eq_true, beq_iff_eq] using h

theorem Line.hears_of {x : Line} (hp : x.state = .polling) (h : x.phase = .awaiting ∨ x.phase = .receiving) :
    x.hears = true := by
  rcases h with h | h <;> rw [Line.hears, hp, h] <;> rfl

section events
variable {s : State} {l : Fin 8} {x : Line} (hx : s.lines[l] = x) (hstop : x.stop = false)
include hx hstop

/-- The response timer expires in AWAITING (05 R97). -/
theorem State.responseExpires_awaiting (h : x.phase = .awaiting) : s.responseExpires l =
    ({ s with lines := s.lines.set l { x.space with bad := 0 } } : State).takeMiss l x.polled := by
  unfold State.responseExpires
  rw [State.modLine_eq hx, hx, h]
  exact State.endMiss_set hstop (bad := 0) rfl (by decide) rfl

variable (hphase : x.phase = .awaiting ∨ x.phase = .receiving)
include hphase

/-- A frame breaks in an exchange (05 R99). -/
theorem State.frameBreaks_exchange (hbad : x.bad < 7) : s.frameBreaks l =
    ({ s with lines := s.lines.set l { x.space with
        bad := x.bad + 1, brokenCount := satSucc 65535 x.brokenCount, assembling := false } } :
      State).takeMiss l x.polled := by
  unfold State.frameBreaks
  rw [State.modLine_eq hx, hx, if_pos (Line.inExchange_of hphase)]
  exact State.endMiss_set hstop (bad := x.bad + 1) rfl (Nat.succ_lt_succ hbad) rfl

variable (hpoll : x.state = .polling) {bytes : List Byte} (hframe : completeFrame bytes = true)
include hpoll hframe

omit hstop in
/-- A complete frame in an exchange of a POLLING line (05 R100, R101). -/
theorem State.frameIn_exchange : s.frameIn l bytes =
    let t : State := { s with lines := s.lines.set l { x with assembling := false } }
    if crcGood bytes then
      if isReportOf l x.polled bytes then t.endReport l (reportOf bytes) else t.strayInExchange l
    else t.crcFailure l := by
  unfold State.frameIn
  rw [State.modLine_eq hx, hx, Line.hears_of hpoll hphase, hframe, if_pos (by rfl)]
  dsimp only
  rw [if_pos (Line.inExchange_of hphase)]
  cases crcGood bytes <;> rfl

/-- The polled drop's REPORT (05 R101). -/
theorem State.frameIn_report (hcrc : crcGood bytes = true) (hrep : isReportOf l x.polled bytes = true) :
    s.frameIn l bytes =
      ({ s with lines := s.lines.set l { x.space with bad := 0, assembling := false } } : State).takeReport l
        x.polled (reportOf bytes) := by
  rw [State.frameIn_exchange hx hphase hpoll hframe]
  dsimp only
  rw [if_pos hcrc, if_pos hrep]
  exact State.endReport_set hstop rfl

/-- A frame that fails its CRC, in an exchange (05 R100). -/
theorem State.frameIn_badCrc (hcrc : crcGood bytes = false) (hbad : x.bad < 7) : s.frameIn l bytes =
    ({ s with
        lines := s.lines.set l { x.space with
          bad := x.bad + 1, crcCount := satSucc 65535 x.crcCount, latch := true, assembling := false }
        att := if x.latch then s.att else s.att.raiseUnit .crcLatched l } : State).takeMiss l x.polled := by
  rw [State.frameIn_exchange hx hphase hpoll hframe]
  dsimp only
  rw [if_neg (Bool.eq_false_iff.mp hcrc)]
  unfold State.crcFailure
  rw [State.modLine_set, State.setLatch_set, State.lines_set_self]
  refine (if_pos (Line.inExchange_of hphase)).trans ?_
  exact State.endMiss_set (s := { s with att := if x.latch then s.att else s.att.raiseUnit .crcLatched l }) hstop
    (bad := x.bad + 1) rfl (Nat.succ_lt_succ hbad) rfl

/-- A good frame that is not the polled drop's REPORT, the response timer having expired (05 R101). -/
theorem State.frameIn_stray (hcrc : crcGood bytes = true) (hrep : isReportOf l x.polled bytes = false)
    (hresp : x.respLeft = 0) : s.frameIn l bytes =
    ({ s with lines := s.lines.set l { x.space with
        bad := 0, strayCount := satSucc 65535 x.strayCount, assembling := false } } : State).takeMiss l x.polled := by
  rw [State.frameIn_exchange hx hphase hpoll hframe]
  dsimp only
  rw [if_pos hcrc, if_neg (Bool.eq_false_iff.mp hrep)]
  unfold State.strayInExchange
  rw [State.modLine_set, State.lines_set_self]
  dsimp only
  rw [if_neg (by rw [hresp]; exact Nat.lt_irrefl 0)]
  exact State.endMiss_set hstop (bad := 0) rfl (by decide) rfl

end events

end Sys2Proof.Machine
end

section
/-! PROOFS. The close-out of a RETIRING connection on a POLLING line (O48). -/

namespace Sys2Proof.Machine

/-- One drop closed: the record returns to VACANT with the last one (06 R131). -/
theorem State.closeDrop_eq (s : State) (l : Fin 8) (a : Nat) (id : Fin 96) : s.closeDrop l a id =
    ({ s with drops := s.drops.map (fun e => if e.line = l ∧ e.addr = a then { e with closed := true } else e) } :
      State).vacantIfClosed id := by
  rw [State.closeDrop, State.modDrop_eq]

/-- The same after another change of that drop. -/
theorem State.closeDrop_map (s : State) (l : Fin 8) (a : Nat) (id : Fin 96) {f : Drop → Drop}
    (hl : ∀ d, (f d).line = d.line) (ha : ∀ d, (f d).addr = d.addr) :
    ({ s with drops := s.drops.map (fun e => if e.line = l ∧ e.addr = a then f e else e) } : State).closeDrop l a id =
      ({ s with drops := s.drops.map (fun e => if e.line = l ∧ e.addr = a then { f e with closed := true } else e) } :
        State).vacantIfClosed id := by
  rw [State.closeDrop_eq]
  exact congrArg (fun ds => ({ s with drops := ds } : State).vacantIfClosed id)
    (map_place_map s.drops l a (fun e => { e with closed := true }) hl ha)

/-- What a poll's end leaves when it closes a drop, or closes none. -/
def State.closing (s : State) (closes : Bool) (id : Fin 96) (ds : List Drop) : State :=
  if closes then ({ s with drops := ds } : State).vacantIfClosed id else { s with drops := ds }

/-- The slot of a drop after the miss of a poll (06 R130, R131). -/
def Drop.missedClose (d e : Drop) (closes : Bool) : Drop :=
  { e with closePolls := if d.mode = some .close then min 2 (e.closePolls + 1) else e.closePolls
           closed := e.closed || closes }

/-- A miss of a RETIRING connection's drop (06 R130). -/
theorem State.closeMiss_eq (s : State) (d : Drop) {closes : Bool}
    (hc : closes = decide (d.mode = some .close ∧ 1 ≤ d.closePolls)) : s.closeMiss d = s.closing closes d.conn
      (s.drops.map (fun e => if e.line = d.line ∧ e.addr = d.addr then d.missedClose e closes else e)) := by
  unfold State.closeMiss State.closing
  by_cases hmode : d.mode = some .close
  · rw [if_pos hmode, State.modDrop_eq]
    dsimp only
    by_cases hlast : 1 ≤ d.closePolls
    · have hcl : closes = true := by rw [hc]; exact decide_eq_true ⟨hmode, hlast⟩
      rw [if_pos (by omega), State.closeDrop_map s _ _ _ (f := fun e => { e with closePolls := min 2 (e.closePolls + 1) })
        (fun _ => rfl) (fun _ => rfl), if_pos hcl, hcl]
      simp only [Drop.missedClose, if_pos hmode, Bool.or_true]
    · have hcl : closes = false := by rw [hc]; exact decide_eq_false fun h => hlast h.2
      rw [if_neg (by omega), if_neg (Bool.eq_false_iff.mp hcl), hcl]
      simp only [Drop.missedClose, if_pos hmode, Bool.or_false]
  · have hcl : closes = false := by rw [hc]; exact decide_eq_false fun h => hmode h.1
    rw [if_neg hmode, if_neg (Bool.eq_false_iff.mp hcl), hcl]
    simp only [Drop.missedClose, if_neg hmode, Bool.or_false, ite_self, List.map_id']

/-- A report of a RETIRING connection's drop (06 R130). -/
theorem State.takeReport_retiring {s : State} {d : Drop} {r : Report} {closes : Bool}
    (hfind : s.findDrop d.line d.addr = some d) (hst : s.conns[d.conn].state = .retiring)
    (hc : closes = decide (d.mode = some .close)) : s.takeReport d.line d.addr r = s.closing closes d.conn
      (s.drops.map (fun e => if e.line = d.line ∧ e.addr = d.addr
        then { e.store r with closed := e.closed || closes } else e)) := by
  unfold State.takeReport State.closing
  rw [hfind]
  dsimp only
  rw [if_pos hst, State.modDrop_eq]
  by_cases hmode : d.mode = some .close
  · have hcl : closes = true := by rw [hc]; exact decide_eq_true hmode
    rw [if_pos hmode, State.closeDrop_map s _ _ _ (f := fun e => e.store r) (fun _ => rfl) (fun _ => rfl), if_pos hcl, hcl]
    simp only [Bool.or_true]
  · have hcl : closes = false := by rw [hc]; exact decide_eq_false hmode
    rw [if_neg hmode, if_neg (Bool.eq_false_iff.mp hcl), hcl]
    simp only [Bool.or_false]
    rfl

/-- A miss of the drop at an address, its connection being RETIRING. -/
theorem State.takeMiss_retiring {s : State} {d : Drop} (hfind : s.findDrop d.line d.addr = some d)
    (hst : s.conns[d.conn].state = .retiring) : s.takeMiss d.line d.addr = s.closeMiss d := by
  unfold State.takeMiss
  rw [hfind]
  dsimp only
  rw [if_pos hst]

/-- A poll's end that closes no drop, or leaves one open, keeps the record RETIRING. -/
theorem State.closing_open {s : State} {closes : Bool} {id : Fin 96} {ds : List Drop}
    (h : closes = false ∨ ∃ e ∈ ds, e.conn = id ∧ e.closed = false) :
    s.closing closes id ds = { s with drops := ds } := by
  unfold State.closing
  split
  · obtain hc | ⟨e, hmem, hconn, hopen⟩ := h
    next hcl => exact absurd (hc.symm.trans hcl) (by decide)
    · refine if_neg fun hall => ?_
      exact absurd ((List.all_eq_true.mp hall) e (State.mem_dropsOf.mpr ⟨hmem, hconn⟩)) (by rw [hopen]; decide)
  · rfl

/-- The poll's end that closes the last drop returns the record to VACANT (01 R21, 06 R132). -/
theorem State.closing_last {s : State} {closes : Bool} {id : Fin 96} {ds : List Drop} (hc : closes = true)
    (hall : ∀ e ∈ ds, e.conn = id → e.closed = true) : s.closing closes id ds = { s with
      conns := s.conns.set id (Conn.vacant s.conns[id].gen)
      drops := ds.filter (fun e => e.conn ≠ id)
      att := ((s.att.raise .retireDone).raise .stateChanged).enter id } := by
  rw [State.closing, if_pos hc, State.vacantIfClosed_of_all hall, State.toVacant_eq]

/-- What an event that ends an exchange with a drop of a RETIRING connection leaves, in either outcome (O48). -/
theorem State.closing_finish {u : State} {s : State} (hset : s.Settled) (hpool : s.PoolRight) {d : Drop} (hd : d ∈ s.drops)
    {closes : Bool} {f : Drop → Drop} (hf : ∀ e, (f e).conn = e.conn) {ds : List Drop}
    (hds : ds = s.drops.map (fun e => if e.line = d.line ∧ e.addr = d.addr then f e else e))
    (hconns : u.conns = s.conns) (hurgent : u.urgent = s.urgent) :
    ((closes = false ∨ ∃ e ∈ ds, e.conn = d.conn ∧ e.closed = false) →
      (u.closing closes d.conn ds).finish = ({ u with drops := ds } : State).attend) ∧
    (closes = true → (∀ e ∈ ds, e.conn = d.conn → e.closed = true) → (u.closing closes d.conn ds).finish = ({ u with
      conns := s.conns.set d.conn (Conn.vacant s.conns[d.conn].gen)
      drops := s.drops.filter (fun e => e.conn ≠ d.conn)
      att := ((u.att.raise .retireDone).raise .stateChanged).enter d.conn } : State).attend) := by
  refine ⟨fun h => ?_, fun hc hall => ?_⟩
  · rw [State.closing_open h]
    exact State.finish_of_quiet (hurgent.trans hset.1)
  · rw [State.closing_last hc hall, hds, hpool.filter_map_place hd hf, hconns]
    exact State.finish_of_quiet (hurgent.trans hset.1)

/-- A complete frame is the polled drop's REPORT when its four fields say so (05 R101). -/
theorem isReportOf_iff {l : Fin 8} {a : Nat} {bytes : List Byte} : isReportOf l a bytes = true ↔
    arg bytes 1 = 13 ∧ arg bytes 2 = 0x32 ∧ arg bytes 3 = l.val ∧ arg bytes 4 = a := by
  simp only [isReportOf, Bool.and_eq_true, beq_iff_eq]
  tauto

/-- Settles O48. -/
theorem closePollsVacateRecord : Obligations.ClosePollsVacateRecord := by
  rintro s i l x y d c bytes r ds closes att hset hpool hx hpoll hstop hd rfl haddr rfl hret hcase u hu
  have hconns : u.conns = s.conns := by rw [hu]
  have hdrops : u.drops = s.drops := by rw [hu]
  have hurgent : u.urgent = s.urgent := by rw [hu]
  have hatt : u.att = att := by rw [hu]
  have hfind : u.findDrop d.line d.addr = some d := by
    rw [State.findDrop, hdrops]
    exact State.findDrop_of_mem hpool hd
  have hret' : u.conns[d.conn].state = .retiring := by rw [hconns, hret]
  obtain ⟨f, hf, hds, hexec⟩ : ∃ f : Drop → Drop, (∀ e, (f e).conn = e.conn) ∧
      ds = s.drops.map (fun e => if e.line = d.line ∧ e.addr = d.addr then f e else e) ∧
      exec i s = .next (u.closing closes d.conn ds).finish := by
    rcases hcase with ⟨hmiss, hcl, hds⟩ | ⟨rfl, hphase, hframe, hcrc, h13, h32, hl, ha, rfl, hcl, rfl, rfl, hds⟩
    · refine ⟨fun e => d.missedClose e closes, fun _ => rfl, hds, ?_⟩
      have hend : exec i s = .next (u.takeMiss d.line d.addr).finish := by
        rw [haddr, hu]
        rcases hmiss with ⟨rfl, hphase, rfl, rfl⟩ | ⟨hphase, hmiss⟩
        · exact congrArg (fun t => Host.Outcome.next (State.finish t))
            (State.responseExpires_awaiting hx.symm hstop hphase)
        · have hhears : s.lines[d.line].hears = true := hx ▸ Line.hears_of hpoll hphase
          rcases hmiss with ⟨hi, rfl, hbad, rfl⟩ | ⟨rfl, hframe, hcrc, hbad, rfl, rfl⟩ |
            ⟨rfl, hframe, hcrc, hresp, hno, rfl, rfl⟩
          · have hbreak : exec i s = .next (s.frameBreaks d.line).finish := by
              rcases hi with rfl | ⟨rfl, hasm⟩
              · exact congrArg _ (if_pos hhears)
              · exact congrArg _ (if_pos (by rw [hhears, ← hx, hasm]; rfl))
            rw [hbreak, State.frameBreaks_exchange hx.symm hstop hphase hbad]
            rfl
          · exact congrArg (fun t => Host.Outcome.next (State.finish t))
              (State.frameIn_badCrc hx.symm hstop hphase hpoll hframe hcrc hbad)
          · have hrep : isReportOf d.line x.polled bytes = false := by
              rw [← Bool.not_eq_true, isReportOf_iff]
              tauto
            exact congrArg (fun t => Host.Outcome.next (State.finish t))
              (State.frameIn_stray hx.symm hstop hphase hpoll hframe hcrc hrep hresp)
      rw [hend, State.takeMiss_retiring hfind hret', State.closeMiss_eq _ d hcl, hdrops, hds]
      rfl
    · refine ⟨fun e => { e.store (reportOf bytes) with closed := e.closed || closes }, fun _ => rfl, hds, ?_⟩
      rw [hds, ← hdrops, ← State.takeReport_retiring hfind hret' hcl, haddr, hu]
      exact congrArg (fun t => Host.Outcome.next (State.finish t))
        (State.frameIn_report hx.symm hstop hphase hpoll hframe hcrc (isReportOf_iff.mpr ⟨h13, h32, hl, ha.trans haddr⟩))
  obtain ⟨hopen, hlast⟩ := State.closing_finish (closes := closes) hset hpool hd hf hds hconns hurgent
  rw [hexec, ← hatt]
  exact ⟨fun h => congrArg _ (hopen h), fun h1 h2 => congrArg _ (hlast h1 h2)⟩

end Sys2Proof.Machine
end

section
/-! PROOFS. What a valid report does to an ordinary connection, written out: demand, entry to service, loss of COMMS and
scoring (O46). -/

namespace Sys2Proof.Machine

/-! ## Demand -/

/-- The demand of a record as a sum over its LIVE slots (01 R3). -/
theorem State.liveDemand_eq (s : State) (id : Fin 96) : s.liveDemand id =
    min 65535 ((s.drops.filter (fun e => e.conn = id ∧ e.state = .live)).map (·.demand)).sum := by
  have hfilter : liveDrops (s.dropsOf id) = s.drops.filter (fun e => e.conn = id ∧ e.state = .live) := by
    simp only [liveDrops, State.dropsOf, List.filter_filter, beq_eq_decide, ← Bool.decide_and, and_comm]
  rw [State.liveDemand, demandSum, hfilter]

/-- The deadband comparison that a recomputation makes for a connection noted as ACTIVE (02 R34). -/
def Conn.demandMoves (c : Conn) (demand deadband : Nat) (noted : ConnState) : Bool :=
  decide (noted = .active ∧ demand ≠ c.demand ∧ deadband ≤ demandGap demand c.demandSnap)

/-- The demand recomputed (01 R3, 06 R120). -/
theorem State.recompute_eq {s : State} {id : Fin 96} (h : s.conns[id].refuses = false) (noted : ConnState) :
    s.recompute id noted = { s with
      conns := s.conns.set id { s.conns[id] with demand := s.liveDemand id }
      engine := { s.engine with
        pend := s.engine.pend || s.conns[id].demandMoves (s.liveDemand id) s.engine.deadband noted } } := by
  unfold State.recompute State.compareDemand Conn.demandMoves
  rw [if_pos (Conn.refuses_eq_false_iff.mp h)]
  dsimp only
  rw [State.modConn_get_self]
  by_cases hact : noted = .active
  · rw [if_pos hact]
    by_cases hgap : s.liveDemand id ≠ s.conns[id].demand ∧
        s.engine.deadband ≤ demandGap (s.liveDemand id) s.conns[id].demandSnap
    · refine (if_pos hgap).trans ?_
      rw [decide_eq_true ⟨hact, hgap⟩, Bool.or_true]
      rfl
    · refine (if_neg hgap).trans ?_
      rw [decide_eq_false (fun k => hgap k.2), Bool.or_false]
      rfl
  · rw [if_neg hact, decide_eq_false (fun k => hact k.1), Bool.or_false]
    rfl

/-! ## Entry to service and loss of COMMS -/

/-- A change reported twice is reported once. -/
theorem Attention.report_twice (a : Attention) (c : Cause) (id : Fin 96) :
    (((a.raise c).enter id).raise c).enter id = (a.raise c).enter id := by
  rw [Attention.raise_of_pending (c := c) (by simp only [Attention.raise_isPending, Attention.enter_isPending,
    decide_true, Bool.true_or]), Attention.enter_enter]

/-- The record of a connection that has entered service (01 R13). -/
def Conn.inService (c : Conn) : Conn := { c with state := .active, granted := 0, ceiling := 0, moved := true }

/-- The shares of a connection's drops set to 0. -/
def State.noShares (s : State) (id : Fin 96) : List Drop :=
  s.drops.map (fun d => if d.conn = id then { d with share := 0 } else d)

/-- Entry to service on a POLLING line (01 R13). -/
theorem State.enterActive_polling {s : State} {id : Fin 96} (h : s.lines[s.conns[id].line].state = .polling) :
    s.enterActive id = State.wantPass { s with
      conns := s.conns.set id s.conns[id].inService
      drops := s.noShares id
      att := (s.att.raise .stateChanged).enter id } := by
  unfold State.enterActive State.noShares
  rw [← map_conn_beq]
  refine if_pos ?_
  show s.isPolling ((s.conns.set id s.conns[id].inService)[id]).line = true
  rw [getElem_set_fin, if_pos rfl]
  exact beq_iff_eq.mpr h

/-- Entry to service on a line that is not POLLING: on to SUSPENDED with LINE (01 R13). -/
theorem State.enterActive_other {s : State} {id : Fin 96} (h : s.lines[s.conns[id].line].state ≠ .polling) :
    s.enterActive id = State.wantPass { s with
      conns := s.conns.set id (s.conns[id].inService.suspendedBy .line s.holdSetting)
      drops := s.noShares id
      engine := { s.engine with curtail := s.engine.curtail.filter (fun e => e.id ≠ id) }
      att := (s.att.raise .stateChanged).enter id } := by
  have hself : (s.conns.set id s.conns[id].inService)[id] = s.conns[id].inService := by
    rw [getElem_set_fin, if_pos rfl]
  let t : State := State.wantPass { s with
    conns := s.conns.set id s.conns[id].inService
    drops := s.noShares id
    att := (s.att.raise .stateChanged).enter id }
  have ht : s.enterActive id = t.gainCause id .line := by
    unfold State.enterActive t State.noShares
    rw [← map_conn_beq]
    refine if_neg ?_
    show ¬ s.isPolling ((s.conns.set id s.conns[id].inService)[id]).line = true
    rw [hself]
    exact mt beq_iff_eq.mp h
  have hstate : t.conns[id].state = .active := congrArg Conn.state hself
  rw [ht, State.gainCause_active _ _ _ hstate, State.enterSuspended_eq _ _ (by decide)]
  show State.wantPass { s with
    conns := (s.conns.set id s.conns[id].inService).set id
      ((s.conns.set id s.conns[id].inService)[id].suspendedBy .line s.holdSetting)
    drops := s.noShares id
    engine := { s.engine with curtail := s.engine.curtail.filter (fun e => e.id ≠ id) }
    att := (((s.att.raise .stateChanged).enter id).raise .stateChanged).enter id } = _
  rw [hself, Vector.set_set, Attention.report_twice]

/-- The service condition, in words (01 R13). -/
theorem serviceReady_iff {ds : List Drop} : serviceReady ds = true ↔ (∃ d ∈ ds, d.state = .live) ∧
    ∀ d ∈ ds, d.state = .live ∨ (d.state = .joining ∧ d.origin = .add) := by
  simp only [serviceReady, Bool.and_eq_true, List.any_eq_true, List.all_eq_true, Bool.or_eq_true, beq_iff_eq]

/-- The service condition over a connection's slots in the pool. -/
theorem State.serviceReady_dropsOf {s : State} {id : Fin 96} : serviceReady (s.dropsOf id) = true ↔
    (∃ d ∈ s.drops, d.conn = id ∧ d.state = .live) ∧
      ∀ d ∈ s.drops, d.conn = id → d.state = .live ∨ (d.state = .joining ∧ d.origin = .add) := by
  rw [serviceReady_iff]
  simp only [State.mem_dropsOf, and_assoc, and_imp]

/-- A PENDING connection whose drops do not meet the service condition stays as it is. -/
theorem State.testService_waits {s : State} {id : Fin 96} (h : ¬ serviceReady (s.dropsOf id) = true) :
    s.testService id = s := if_neg fun k => h k.2

/-- A PENDING connection whose drops meet the service condition enters service. -/
theorem State.testService_ready {s : State} {id : Fin 96} (hst : s.conns[id].state = .pending)
    (h : serviceReady (s.dropsOf id) = true) : s.testService id = s.enterActive id := if_pos ⟨hst, h⟩

/-- A connection with a SILENT drop keeps COMMS. -/
theorem State.testComms_silent {s : State} {id : Fin 96} (h : ∃ d ∈ s.drops, d.conn = id ∧ d.state = .silent) :
    s.testComms id = s := by
  obtain ⟨d, hd, hconn, hst⟩ := h
  exact if_pos (List.any_eq_true.mpr ⟨d, State.mem_dropsOf.mpr ⟨hd, hconn⟩, by rw [hst]; rfl⟩)

/-- A connection without a SILENT drop loses COMMS. -/
theorem State.testComms_none {s : State} {id : Fin 96} (h : ∀ d ∈ s.drops, d.conn = id → d.state ≠ .silent) :
    s.testComms id = s.loseCause id .comms := by
  refine if_neg fun k => ?_
  obtain ⟨d, hd, hst⟩ := List.any_eq_true.mp k
  obtain ⟨hmem, hconn⟩ := State.mem_dropsOf.mp hd
  exact h d hmem hconn (beq_iff_eq.mp hst)

/-- COMMS taken from a cause set leaves LINE and SUPERVISOR. -/
theorem Conn.dropCause_comms_noCause (c : Conn) :
    (c.dropCause .comms).noCause = (!c.lineCause && !c.supervisor) := by
  simp only [Conn.dropCause, Conn.noCause, Bool.not_false, Bool.true_and]

/-! ## Scoring -/

/-- The state with the standing of a record changed, and with the effects of a change of LOW_DT (03 R67, R68). -/
def State.stands (s : State) (id : Fin 96) (score : Nat) (low : Bool) : State :=
  { s with
    conns := s.conns.set id { s.conns[id] with score := score, lowDt := low }
    engine := { s.engine with pend := s.engine.pend || (low != s.conns[id].lowDt) }
    att := if low = s.conns[id].lowDt then s.att else s.att.raise .lowDtChanged }

theorem State.stands_same (s : State) (id : Fin 96) (score : Nat) :
    s.stands id score s.conns[id].lowDt = s.modConn id (fun c => { c with score := score }) := by
  rw [State.stands, if_pos rfl, bne_self_eq_false, Bool.or_false]
  rfl

theorem State.stands_changed {s : State} {id : Fin 96} {low : Bool} (score : Nat) (h : low ≠ s.conns[id].lowDt) :
    s.stands id score low = (s.modConn id (fun c => { c with score := score })).setLowDt id low := by
  rw [State.stands, if_neg h, bne_iff_ne.mpr h, Bool.or_true, State.setLowDt, State.modConn_modConn]
  rfl

/-- A report scored (03 R66, R67): the score and LOW_DT it leaves. -/
theorem State.scoreReport_eq {s : State} {id : Fin 96} {r : Report} {c : Conn} {score : Nat} {low : Bool}
    (hc : c = s.conns[id])
    (hscore : score = if skipsScore c s.plant.setpoint r then c.score
      else if shortfall c r then min 255 (c.score + 1) else c.score - 1)
    (hlow : low = if skipsScore c s.plant.setpoint r then c.lowDt
      else if shortfall c r then c.lowDt || decide (s.demote ≤ score) else c.lowDt && !decide (c.score = 1)) :
    s.scoreReport id r = s.stands id score low := by
  unfold State.scoreReport
  dsimp only
  rw [← hc]
  have hsame : low = c.lowDt → s.stands id score low = s.modConn id (fun c => { c with score := score }) := by
    rintro rfl
    rw [hc, State.stands_same]
  split
  next hskip =>
    rw [if_pos hskip] at hscore hlow
    rw [hsame hlow, hscore, hc]
    exact (congrArg (fun v => ({ s with conns := v } : State)) (Vector.set_getElem_self _)).symm
  next hskip =>
    rw [if_neg hskip] at hscore hlow
    split
    next hshort =>
      rw [if_pos hshort] at hscore hlow
      have hscore' : satSucc 255 c.score = score := hscore.symm
      rw [hscore']
      have hmod : s.modConn id (fun e => { e with score := satSucc 255 e.score }) =
        s.modConn id (fun e => { e with score := score }) := by rw [State.modConn, State.modConn, ← hc, hscore']
      rw [hmod]
      split
      next hset =>
        have htrue : low = true := by rw [hlow, decide_eq_true hset.1, Bool.or_true]
        rw [htrue, State.stands_changed score (by rw [← hc]; exact fun k => hset.2 k.symm)]
      next hset =>
        refine (hsame ?_).symm
        cases hl : c.lowDt with
        | true => rw [hlow, hl, Bool.true_or]
        | false =>
          have hlt : ¬ s.demote ≤ score := fun k => hset ⟨k, by rw [hl]; decide⟩
          rw [hlow, hl, decide_eq_false hlt, Bool.or_self]
    next hshort =>
      rw [if_neg hshort] at hscore hlow
      have hmod : s.modConn id (fun e => { e with score := e.score - 1 }) =
        s.modConn id (fun e => { e with score := score }) := by rw [State.modConn, State.modConn, ← hc, hscore]
      rw [hmod]
      split
      next hclear =>
        have hfalse : low = false := by rw [hlow, decide_eq_true hclear.1, Bool.not_true, Bool.and_false]
        rw [hfalse, State.stands_changed score (by rw [← hc, hclear.2]; decide)]
      next hclear =>
        refine (hsame ?_).symm
        cases hl : c.lowDt with
        | false => rw [hlow, hl, Bool.false_and]
        | true =>
          have hne : ¬ c.score = 1 := fun k => hclear ⟨k, hl⟩
          rw [hlow, hl, decide_eq_false hne, Bool.not_false, Bool.and_self]

/-- The temperatures of a report are plausible, in words (06 R118). -/
theorem Report.plausible_eq (r : Report) : r.plausible =
    (decide (-100 ≤ r.supply ∧ r.supply ≤ 600 ∧ -100 ≤ r.ret ∧ r.ret ≤ 600) && !r.sensorFault) := by
  simp only [Report.plausible, inWindow, Bool.decide_and, Bool.and_assoc]

/-- The deadband is reached when the demand has risen or fallen by it (02 R34). -/
theorem demandGap_le_iff {a b n : Nat} : n ≤ demandGap a b ↔ n ≤ a - b ∨ n ≤ b - a := by
  unfold demandGap
  omega

/-! ## The report that makes a drop LIVE -/

/-- A report that makes a drop LIVE: the change, the demand, and then the test or the scoring that its connection's state
asks for (06 R117). -/
theorem State.applyReport_fresh {s : State} {d : Drop} (h : d.state ≠ .live) (noted : ConnState) (r : Report) :
    s.applyReport d noted r =
      let t := (s.dropBecomes d.line d.addr d.conn .live).recompute d.conn noted
      if noted = .active then t.scoreReport d.conn r
      else if noted = .pending then t.testService d.conn
      else if noted = .suspended then t.testComms d.conn else t := by
  unfold State.applyReport
  rw [bne_iff_ne.mpr h]
  cases noted <;> rfl

/-- The state after a valid report has made a drop LIVE and its connection's demand has been recomputed. -/
def State.freshened (s : State) (id : Fin 96) (ds : List Drop) (demand : Nat) (noted : ConnState) : State :=
  { s with
    drops := ds
    conns := s.conns.set id { s.conns[id] with demand := demand }
    engine := { s.engine with
      pend := s.engine.pend || s.conns[id].demandMoves demand s.engine.deadband noted }
    att := (s.att.raise .stateChanged).enter id }

/-- The demand and the standing of an ACTIVE connection after the report that made one of its drops LIVE. -/
theorem State.freshened_stands {s : State} {id : Fin 96} {c : Conn} (hc : c = s.conns[id]) (ds : List Drop)
    (demand score : Nat) (low : Bool) : (s.freshened id ds demand .active).stands id score low = { s with
      drops := ds
      conns := s.conns.set id { c with demand := demand, score := score, lowDt := low }
      engine := { s.engine with pend := s.engine.pend || (low != c.lowDt) || decide (demand ≠ c.demand ∧
        (s.engine.deadband ≤ demand - c.demandSnap ∨ s.engine.deadband ≤ c.demandSnap - demand)) }
      att := if low = c.lowDt then (s.att.raise .stateChanged).enter id
        else ((s.att.raise .stateChanged).enter id).raise .lowDtChanged } := by
  subst hc
  have hself : (s.freshened id ds demand .active).conns[id] = { s.conns[id] with demand := demand } := by
    rw [State.freshened, getElem_set_fin, if_pos rfl]
  have hpend : ((s.engine.pend || s.conns[id].demandMoves demand s.engine.deadband .active) ||
      (low != s.conns[id].lowDt)) = (s.engine.pend || (low != s.conns[id].lowDt) || decide (demand ≠ s.conns[id].demand ∧
        (s.engine.deadband ≤ demand - s.conns[id].demandSnap ∨ s.engine.deadband ≤ s.conns[id].demandSnap - demand))) := by
    rw [Conn.demandMoves, Bool.or_assoc, Bool.or_assoc, Bool.or_comm (low != s.conns[id].lowDt)]
    simp only [true_and, demandGap_le_iff]
  rw [← hpend, State.stands, hself]
  exact congrArg (fun v => ({ s with
    drops := ds
    conns := v
    engine := { s.engine with
      pend := (s.engine.pend || s.conns[id].demandMoves demand s.engine.deadband .active) || (low != s.conns[id].lowDt) }
    att := if low = s.conns[id].lowDt then (s.att.raise .stateChanged).enter id
      else ((s.att.raise .stateChanged).enter id).raise .lowDtChanged } : State)) (Vector.set_set ..)

/-- A valid report of a drop that was not LIVE (06 R112, R117, R120). -/
theorem State.takeReport_fresh {s : State} {d : Drop} {r : Report} {ds : List Drop} {demand : Nat}
    (hfind : s.findDrop d.line d.addr = some d) (hc : s.conns[d.conn].refuses = false) (hlive : d.state ≠ .live)
    (hds : ds = s.drops.map (fun e => if e.line = d.line ∧ e.addr = d.addr then { e.store r with state := .live } else e))
    (hdemand : demand = min 65535 ((ds.filter (fun e => e.conn = d.conn ∧ e.state = .live)).map (·.demand)).sum) :
    s.takeReport d.line d.addr r =
      let t := s.freshened d.conn ds demand s.conns[d.conn].state
      if s.conns[d.conn].state = .active then t.scoreReport d.conn r
      else if s.conns[d.conn].state = .pending then t.testService d.conn
      else if s.conns[d.conn].state = .suspended then t.testComms d.conn else t := by
  have hnot : s.conns[d.conn].state ≠ .retiring := fun k => by
    rw [Conn.refuses, k] at hc
    cases hc
  have hbase : ((s.modDrop d.line d.addr (fun e => e.store r)).dropBecomes d.line d.addr d.conn .live) =
      { s with drops := ds, att := (s.att.raise .stateChanged).enter d.conn } := by
    rw [hds, ← map_place_map s.drops d.line d.addr (f := fun e => e.store r) (fun e => { e with state := .live })
      (fun _ => rfl) (fun _ => rfl), ← map_place_beq, ← map_place_beq]
    rfl
  have hrec : ((s.modDrop d.line d.addr (fun e => e.store r)).dropBecomes d.line d.addr d.conn .live).recompute d.conn
      s.conns[d.conn].state = s.freshened d.conn ds demand s.conns[d.conn].state := by
    rw [hbase]
    refine (State.recompute_eq (s := { s with drops := ds, att := (s.att.raise .stateChanged).enter d.conn }) hc _).trans ?_
    exact congrArg (fun n => s.freshened d.conn ds n s.conns[d.conn].state)
      ((State.liveDemand_eq _ _).trans hdemand.symm)
  unfold State.takeReport
  rw [hfind]
  dsimp only
  rw [if_neg hnot, State.applyReport_fresh hlive, hrec]

/-- The polled drop's REPORT, the drop not being LIVE and its connection neither VACANT nor RETIRING, whole. -/
theorem exec_report_fresh {s : State} {x : Line} {d : Drop} {bytes : List Byte} {ds : List Drop} {demand : Nat}
    (hpool : s.PoolRight) (hx : x = s.lines[d.line]) (hpoll : x.state = .polling)
    (hphase : x.phase = .awaiting ∨ x.phase = .receiving) (hstop : x.stop = false) (hd : d ∈ s.drops)
    (haddr : d.addr = x.polled) (hlive : d.state ≠ .live) (hc : s.conns[d.conn].refuses = false)
    (hframe : completeFrame bytes = true) (hcrc : crcGood bytes = true) (h13 : arg bytes 1 = 13)
    (h32 : arg bytes 2 = 0x32) (hl : arg bytes 3 = d.line.val) (ha : arg bytes 4 = d.addr)
    (hds : ds = s.drops.map (fun e => if e.line = d.line ∧ e.addr = d.addr
      then { d.store (reportOf bytes) with state := .live } else e))
    (hdemand : demand = min 65535 ((ds.filter (fun e => e.conn = d.conn ∧ e.state = .live)).map (·.demand)).sum) :
    exec (.frameReceived d.line bytes) s = .next (State.finish
      (let t := State.freshened { s with lines := s.lines.set d.line { x.space with bad := 0, assembling := false } }
          d.conn ds demand s.conns[d.conn].state
       if s.conns[d.conn].state = .active then t.scoreReport d.conn (reportOf bytes)
       else if s.conns[d.conn].state = .pending then t.testService d.conn
       else if s.conns[d.conn].state = .suspended then t.testComms d.conn else t)) := by
  have hds' : ds = s.drops.map (fun e => if e.line = d.line ∧ e.addr = d.addr
      then { e.store (reportOf bytes) with state := .live } else e) := by
    rw [hds]
    refine List.map_congr_left fun e he => ?_
    by_cases hplace : e.line = d.line ∧ e.addr = d.addr
    · rw [hpool.eq_of_place hd he hplace.1 hplace.2]
    · rw [if_neg hplace, if_neg hplace]
  refine congrArg (fun t => Host.Outcome.next (State.finish t)) ?_
  refine (State.frameIn_report hx.symm hstop hphase hpoll hframe hcrc
    (isReportOf_iff.mpr ⟨h13, h32, hl, ha.trans haddr⟩)).trans ?_
  rw [← haddr]
  exact State.takeReport_fresh (s := { s with lines := s.lines.set d.line { x.space with bad := 0, assembling := false } })
    (State.findDrop_of_mem hpool hd) hc hlive hds' hdemand

/-- A record noted in another state than ACTIVE makes no deadband comparison. -/
theorem Conn.demandMoves_other (c : Conn) (demand deadband : Nat) {noted : ConnState} (h : noted ≠ .active) :
    c.demandMoves demand deadband noted = false :=
  decide_eq_false fun k => h k.1

/-! ## The tests at the end of an event that has reported its change -/

section tested
variable {u : State} {id : Fin 96} (hurgent : u.urgent = false)
include hurgent

theorem State.finish_testService_waits
    (h : ∃ e ∈ u.drops, e.conn = id ∧ (e.state = .silent ∨ (e.state = .joining ∧ e.origin = .create))) :
    (u.testService id).finish = u.attend := by
  obtain ⟨e, he, hce, hbad⟩ := h
  rw [State.testService_waits, State.finish_of_quiet hurgent]
  rw [State.serviceReady_dropsOf]
  rintro ⟨-, hready⟩
  rcases hready e he hce with h1 | ⟨h1, h2⟩
  · simp [h1] at hbad
  · simp [h1, h2] at hbad

theorem State.finish_testComms_silent (h : ∃ e ∈ u.drops, e.conn = id ∧ e.state = .silent) :
    (u.testComms id).finish = u.attend := by
  rw [State.testComms_silent h, State.finish_of_quiet hurgent]

theorem State.finish_testComms_left (hst : u.conns[id].state = .suspended)
    (hnone : ∀ e ∈ u.drops, e.conn = id → e.state ≠ .silent)
    (hcause : u.conns[id].lineCause = true ∨ u.conns[id].supervisor = true) :
    (u.testComms id).finish = ({ u with conns := u.conns.set id { u.conns[id] with comms := false } } : State).attend := by
  have hleft : (u.conns[id].dropCause .comms).noCause = false := by
    rw [Conn.dropCause_comms_noCause]
    rcases hcause with h | h <;> simp only [h, Bool.not_true, Bool.false_and, Bool.and_false]
  rw [State.testComms_none hnone, State.loseCause_left hst hleft]
  exact State.finish_of_quiet hurgent

variable (hatt : (u.att.raise .stateChanged).enter id = u.att)
include hatt

theorem State.finish_testService_ready (hst : u.conns[id].state = .pending)
    (hready : serviceReady (u.dropsOf id) = true) (hline : u.lines[u.conns[id].line].state = .polling) :
    (u.testService id).finish =
      ({ u with conns := u.conns.set id u.conns[id].inService, drops := u.noShares id } : State).answered := by
  rw [State.testService_ready hst hready, State.enterActive_polling hline, State.finish_wanted (by exact hurgent), hatt]

theorem State.finish_testComms_last (hst : u.conns[id].state = .suspended)
    (hnone : ∀ e ∈ u.drops, e.conn = id → e.state ≠ .silent)
    (h1 : u.conns[id].lineCause = false) (h2 : u.conns[id].supervisor = false) :
    (u.testComms id).finish =
      ({ u with conns := u.conns.set id (u.conns[id].dropCause .comms).returned } : State).answered := by
  have hlast : (u.conns[id].dropCause .comms).noCause = true := by
    rw [Conn.dropCause_comms_noCause, h1, h2]
    rfl
  rw [State.testComms_none hnone, State.loseCause_last hst hlast, State.finish_wanted (by exact hurgent), hatt]

end tested

/-- Settles O46. -/
theorem reportMakesDropLive : Obligations.ReportMakesDropLive := by
  refine ⟨?_, ?_⟩
  · rintro s l x d d' c r bytes demand ds hset hpool hx hpoll hphase hstop hd rfl haddr hlive hc hframe hcrc h13 h32 hl ha
      rfl rfl hds hdemand u hu
    have hconn : u.conns[d.conn] = { c with demand := demand } := by rw [hu, getElem_set_fin, if_pos rfl]
    have hconns (z : Conn) : u.conns.set d.conn z = s.conns.set d.conn z := by rw [hu, Vector.set_set]
    have hdrops : u.drops = ds := by rw [hu]
    have hatt : (u.att.raise .stateChanged).enter d.conn = u.att := by rw [hu, Attention.report_twice]
    have hurgent : u.urgent = false := by rw [hu]; exact hset.1
    have hexec (hst : c.state ≠ .active) (hrefuse : c.refuses = false) : exec (.frameReceived d.line bytes) s = .next
        (State.finish (if c.state = .pending then u.testService d.conn
          else if c.state = .suspended then u.testComms d.conn else u)) := by
      rw [hc] at hrefuse hst
      rw [exec_report_fresh hpool hx hpoll hphase hstop hd haddr hlive hrefuse hframe hcrc h13 h32 hl ha hds hdemand, hc, hu]
      dsimp only
      rw [if_neg hst, State.freshened, Conn.demandMoves_other _ _ _ hst, Bool.or_false, hc]
      rfl
    refine ⟨fun hst => ?_, fun hst => ?_⟩
    · have hend : exec (.frameReceived d.line bytes) s = .next (u.testService d.conn).finish := by
        rw [hexec (by rw [hst]; decide) (by rw [Conn.refuses, hst]; rfl), if_pos hst]
      have hst' : u.conns[d.conn].state = .pending := by rw [hconn, hst]
      rw [hend]
      refine ⟨fun hbad => ?_, fun hall => ?_⟩
      · rw [State.finish_testService_waits hurgent (by rw [hdrops]; exact hbad)]
      · have hready : serviceReady (u.dropsOf d.conn) = true := by
          rw [State.serviceReady_dropsOf, hdrops]
          refine ⟨⟨{ d.store (reportOf bytes) with state := .live }, ?_, rfl, rfl⟩, hall⟩
          rw [hds]
          exact List.mem_map.mpr ⟨d, hd, if_pos ⟨rfl, rfl⟩⟩
        have hline : u.lines[u.conns[d.conn].line].state = .polling := by
          have hpoll' : u.lines[d.line].state = .polling := by
            rw [hu, getElem_set_fin, if_pos rfl]
            exact hpoll
          have hplace : u.conns[d.conn].line = d.line := by rw [hconn, hc]; exact (hpool.2.2.1 d hd).2.2.2
          simpa only [hplace] using hpoll'
        rw [State.finish_testService_ready hurgent hatt hst' hready hline, hconn, hconns, State.noShares, hdrops]
        rfl
    · have hend : exec (.frameReceived d.line bytes) s = .next (u.testComms d.conn).finish := by
        rw [hexec (by rw [hst]; decide) (by rw [Conn.refuses, hst]; rfl), if_neg (by rw [hst]; decide), if_pos hst]
      have hst' : u.conns[d.conn].state = .suspended := by rw [hconn, hst]
      rw [hend]
      refine ⟨fun hsilent => ?_, fun hnone => ⟨fun hcause => ?_, fun h1 h2 => ?_⟩⟩
      · rw [State.finish_testComms_silent hurgent (by rw [hdrops]; exact hsilent)]
      · rw [State.finish_testComms_left hurgent hst' (by rw [hdrops]; exact hnone) (by rw [hconn]; exact hcause), hconn,
          hconns]
      · rw [State.finish_testComms_last hurgent hatt hst' (by rw [hdrops]; exact hnone) (by rw [hconn]; exact h1)
          (by rw [hconn]; exact h2), hconn, hconns]
        rfl
  · rintro s l x d d' c r bytes ok skip short low demand score ds att hset hpool hx hpoll hphase hstop hd rfl haddr hlive hc
      hst hframe hcrc h13 h32 hl ha rfl rfl hds hdemand hok hskip hshort hscore hlow rfl
    have hst' : s.conns[d.conn].state = .active := hc ▸ hst
    have hskip' : skip = skipsScore { c with demand := demand } s.plant.setpoint (reportOf bytes) := by
      rw [hskip, hok, ← Report.plausible_eq]
      rfl
    rw [exec_report_fresh hpool hx hpoll hphase hstop hd haddr hlive (by rw [Conn.refuses, hst']; rfl) hframe hcrc h13 h32 hl
      ha hds hdemand]
    dsimp only
    rw [if_pos hst', State.scoreReport_eq (c := { c with demand := demand }) (score := score) (low := low) ?_ ?_ ?_]
    · rw [hst', State.freshened_stands (c := c) (by exact hc)]
      exact congrArg _ (State.finish_of_quiet (by exact hset.1))
    · rw [State.freshened, getElem_set_fin, if_pos rfl, hc]
    · rw [hscore, hskip', hshort]
      rfl
    · rw [hlow, hskip', hshort]
      rfl

end Sys2Proof.Machine
end

section
/-! PROOFS. START LINE: the connections of a line that enters POLLING, and the first poll of its walk (O41). -/

namespace Sys2Proof.Machine

/-! ## The connections of a line that enters POLLING -/

/-- A connection that a line's entry to POLLING returns to ACTIVE (05 R93). -/
abbrev Conn.FreedBy (l : Fin 8) (c : Conn) : Prop :=
  c.line = l ∧ c.state = .suspended ∧ c.comms = false ∧ c.supervisor = false

/-- A record after its line has entered POLLING (05 R93). -/
def Conn.lineBack (l : Fin 8) (c : Conn) : Conn :=
  if c.line = l ∧ c.state = .suspended then
    if c.comms = true ∨ c.supervisor = true then { c with lineCause := false } else (c.dropCause .line).returned
  else c

/-- LINE taken from a cause set leaves COMMS and SUPERVISOR. -/
theorem Conn.dropCause_line_noCause (c : Conn) :
    (c.dropCause .line).noCause = (!c.comms && !c.supervisor) := by
  simp only [Conn.dropCause, Conn.noCause, Bool.not_false, Bool.and_true]

/-- What a line that has entered POLLING does to one connection, written out. -/
theorem State.lineBack_eq (l : Fin 8) (s : State) (id : Fin 96) : State.lineBack l s id = { s with
    conns := s.conns.set id (s.conns[id].lineBack l)
    att := if s.conns[id].FreedBy l then (s.att.raise .stateChanged).enter id else s.att
    urgent := s.urgent || decide (s.conns[id].FreedBy l) } := by
  have hself : ({ s with conns := s.conns.set id s.conns[id] } : State) = s :=
    congrArg (fun v => ({ s with conns := v } : State)) (Vector.set_getElem_self _)
  by_cases hon : s.conns[id].line = l ∧ s.conns[id].state = .suspended
  · obtain ⟨hl, hst⟩ := hon
    rw [State.lineBack, if_pos hl]
    by_cases hcause : s.conns[id].comms = true ∨ s.conns[id].supervisor = true
    · have hkeep : (s.conns[id].dropCause .line).noCause = false := by
        rw [Conn.dropCause_line_noCause]
        rcases hcause with h | h <;> simp only [h, Bool.not_true, Bool.false_and, Bool.and_false]
      have hnot : ¬ s.conns[id].FreedBy l := by
        rintro ⟨-, -, h1, h2⟩
        rw [h1, h2] at hcause
        exact absurd hcause (by decide)
      rw [State.loseCause_left hst hkeep, Conn.lineBack, if_pos ⟨hl, hst⟩, if_pos hcause, if_neg hnot, decide_eq_false hnot,
        Bool.or_false]
      rfl
    · have hfree : s.conns[id].FreedBy l := by
        simp only [not_or, Bool.not_eq_true] at hcause
        exact ⟨hl, hst, hcause.1, hcause.2⟩
      have hnone : (s.conns[id].dropCause .line).noCause = true := by
        rw [Conn.dropCause_line_noCause, hfree.2.2.1, hfree.2.2.2]
        rfl
      rw [State.loseCause_last hst hnone, Conn.lineBack, if_pos ⟨hl, hst⟩, if_neg hcause, if_pos hfree,
        decide_eq_true hfree, Bool.or_true]
      rfl
  · have hnot : ¬ s.conns[id].FreedBy l := fun h => hon ⟨h.1, h.2.1⟩
    have hsame : State.lineBack l s id = s := by
      unfold State.lineBack
      split
      next hl => exact State.loseCause_other s id .line fun hst => hon ⟨hl, hst⟩
      next => rfl
    rw [hsame, Conn.lineBack, if_neg hon, if_neg hnot, decide_eq_false hnot, Bool.or_false]
    exact hself.symm

/-- Changes of the connections a test picks, reported one after another. -/
def Attention.reportAll (a : Attention) (p : Fin 96 → Bool) (ids : List (Fin 96)) : Attention :=
  ids.foldl (fun a j => if p j then (a.raise .stateChanged).enter j else a) a

section reportAll
variable (p : Fin 96 → Bool)

theorem Attention.reportAll_cons (a : Attention) (j : Fin 96) (ids : List (Fin 96)) : a.reportAll p (j :: ids) =
    (if p j then (a.raise .stateChanged).enter j else a).reportAll p ids := rfl

/-- Changes reported leave everything but the causes and the changed-connection set. -/
theorem Attention.reportAll_rest (ids : List (Fin 96)) (a : Attention) : a.reportAll p ids =
    { a with causes := (a.reportAll p ids).causes, changed := (a.reportAll p ids).changed } := by
  induction ids generalizing a with
  | nil => rfl
  | cons j ids ih =>
    rw [Attention.reportAll_cons, ih]
    split <;> rfl

theorem Attention.reportAll_unitsOf (ids : List (Fin 96)) (a : Attention) (c : Cause) :
    (a.reportAll p ids).unitsOf c = a.unitsOf c := by
  induction ids generalizing a with
  | nil => rfl
  | cons j ids ih =>
    rw [Attention.reportAll_cons, ih]
    split
    · rw [Attention.enter_unitsOf, Attention.raise_unitsOf]
    · rfl

theorem Attention.reportAll_isPending (ids : List (Fin 96)) (a : Attention) (c : Cause) :
    (a.reportAll p ids).isPending c = (a.isPending c || (c == .stateChanged && ids.any p)) := by
  induction ids generalizing a with
  | nil => rw [List.any_nil, Bool.and_false, Bool.or_false]; rfl
  | cons j ids ih =>
    rw [Attention.reportAll_cons, ih, List.any_cons]
    cases hp : p j with
    | false => rw [if_neg (by decide), Bool.false_or]
    | true =>
      rw [if_pos rfl, Attention.enter_isPending, Attention.raise_isPending, Bool.true_or, Bool.and_true, beq_eq_decide,
        decide_eq_decide.mpr (eq_comm (a := Cause.stateChanged))]
      cases decide (c = .stateChanged) <;> cases a.isPending c <;> rfl

theorem Attention.reportAll_changed (ids : List (Fin 96)) (a : Attention) (i : Fin 96) :
    (a.reportAll p ids).changed.getLsbD i.val = (a.changed.getLsbD i.val || (p i && ids.contains i)) := by
  induction ids generalizing a with
  | nil => rw [List.contains_nil, Bool.and_false, Bool.or_false]; rfl
  | cons j ids ih =>
    rw [Attention.reportAll_cons, ih, List.contains_cons]
    by_cases hij : i = j
    · subst hij
      rw [beq_self_eq_true, Bool.true_or, Bool.and_true]
      cases hp : p i with
      | false => rw [if_neg (by decide), Bool.false_and]
      | true => rw [if_pos rfl, Attention.enter_changed, decide_eq_true rfl, Bool.or_true, Bool.true_or, Bool.or_true]
    · rw [beq_eq_false_iff_ne.mpr hij, Bool.false_or]
      split
      · rw [Attention.enter_changed, decide_eq_false (Ne.symm hij), Bool.or_false]
        rfl
      · rfl

end reportAll

/-- Every connection of a list after its line has entered POLLING. -/
theorem State.foldl_lineBack (l : Fin 8) {ids : List (Fin 96)} (hids : ids.Nodup) (s : State) :
    (∀ j : Fin 96, (ids.foldl (State.lineBack l) s).conns[j] =
      if j ∈ ids then s.conns[j].lineBack l else s.conns[j]) ∧
    ids.foldl (State.lineBack l) s = { s with
      conns := (ids.foldl (State.lineBack l) s).conns
      att := s.att.reportAll (fun j => decide (s.conns[j].FreedBy l)) ids
      urgent := s.urgent || ids.any (fun j => decide (s.conns[j].FreedBy l)) } := by
  induction ids generalizing s with
  | nil => exact ⟨fun j => (if_neg List.not_mem_nil).symm, by rw [List.any_nil, Bool.or_false]; rfl⟩
  | cons i ids ih =>
    obtain ⟨hi, hrest⟩ := List.nodup_cons.mp hids
    have hother (j : Fin 96) (hj : i ≠ j) : (State.lineBack l s i).conns[j] = s.conns[j] :=
      State.lineBack_conn_other l hj
    obtain ⟨hconns, hstate⟩ := ih hrest (State.lineBack l s i)
    refine ⟨fun j => ?_, ?_⟩
    · rw [List.foldl_cons, hconns]
      by_cases hij : i = j
      · subst hij
        rw [if_neg hi, if_pos List.mem_cons_self, State.lineBack_eq, getElem_set_fin, if_pos rfl]
      · rw [hother j hij]
        exact if_congr (by simp [Ne.symm hij]) rfl rfl
    · have hsame (j : Fin 96) (hj : j ∈ ids) :
          decide ((State.lineBack l s i).conns[j].FreedBy l) = decide (s.conns[j].FreedBy l) := by
        rw [hother j (fun h => hi (h ▸ hj))]
      have hatt (a : Attention) : a.reportAll (fun j => decide ((State.lineBack l s i).conns[j].FreedBy l)) ids =
          a.reportAll (fun j => decide (s.conns[j].FreedBy l)) ids :=
        List.foldl_ext _ _ _ fun b j hj => if_congr (Bool.eq_iff_iff.mp (hsame j hj)) rfl rfl
      have hany : ids.any (fun j => decide ((State.lineBack l s i).conns[j].FreedBy l)) =
          ids.any (fun j => decide (s.conns[j].FreedBy l)) := by
        rw [Bool.eq_iff_iff, List.any_eq_true, List.any_eq_true]
        exact exists_congr fun j => and_congr_right fun hj => by rw [hsame j hj]
      have hrest (v : Vector Conn 96) (a : Attention) (b : Bool) :
          ({ State.lineBack l s i with conns := v, att := a, urgent := b } : State) =
            { s with conns := v, att := a, urgent := b } := by rw [State.lineBack_eq]
      have hatt' : (State.lineBack l s i).att =
          if decide (s.conns[i].FreedBy l) then (s.att.raise .stateChanged).enter i else s.att := by
        rw [State.lineBack_eq]
        simp only [decide_eq_true_eq]
      have hurgent : (State.lineBack l s i).urgent = (s.urgent || decide (s.conns[i].FreedBy l)) := by
        rw [State.lineBack_eq]
      have hcons : (decide (s.conns[i].FreedBy l) || ids.any (fun j => decide (s.conns[j].FreedBy l))) =
          (i :: ids).any (fun j => decide (s.conns[j].FreedBy l)) := rfl
      rw [hatt, hany, hatt', hurgent, ← Attention.reportAll_cons (fun j => decide (s.conns[j].FreedBy l)), Bool.or_assoc,
        hcons, hrest] at hstate
      exact hstate

/-- The line has entered POLLING: every connection on it loses LINE (05 R93). -/
theorem State.enterPolling_conn (s : State) (l : Fin 8) (j : Fin 96) :
    (s.enterPolling l).conns[j] = s.conns[j].lineBack l :=
  ((State.foldl_lineBack l (List.nodup_finRange 96) s).1 j).trans (if_pos (List.mem_finRange j))

theorem State.enterPolling_eq (s : State) (l : Fin 8) : s.enterPolling l = { s with
    conns := (s.enterPolling l).conns
    att := s.att.reportAll (fun j => decide (s.conns[j].FreedBy l)) (List.finRange 96)
    urgent := s.urgent || (List.finRange 96).any (fun j => decide (s.conns[j].FreedBy l)) } :=
  (State.foldl_lineBack l (List.nodup_finRange 96) s).2

/-! ## The first poll of the walk -/

/-- A selection changes the drop slots and the lines alone. -/
theorem State.selectPolling_rest (s : State) (l : Fin 8) :
    s.selectPolling l = { s with drops := (s.selectPolling l).drops, lines := (s.selectPolling l).lines } := by
  unfold State.selectPolling
  split
  · rfl
  · split <;> rfl

/-- The pollable drops of a line, in words. -/
theorem State.mem_pollable {s : State} {l : Fin 8} {d : Drop} :
    d ∈ s.pollable l ↔ d ∈ s.drops ∧ d.line = l ∧ d.closed = false := by
  simp only [State.pollable, State.lineDrops, List.mem_filter, beq_iff_eq, Bool.not_eq_true', and_assoc]

/-- No pollable drop: the line waits (05 R94). -/
theorem State.selectPolling_none {s : State} {l : Fin 8} (h : ∀ d ∈ s.drops, d.line = l → d.closed = true) :
    s.selectPolling l = s.modLine l (fun x => { x with phase := .none, due := false, spaceLeft := 0 }) := by
  have hnil : s.pollable l = [] := List.eq_nil_iff_forall_not_mem.mpr fun d hd => by
    obtain ⟨hmem, hline, hopen⟩ := State.mem_pollable.mp hd
    rw [h d hmem hline] at hopen
    cases hopen
  rw [State.selectPolling, hnil]
  rfl

/-- The walk at its start polls the open drop of the lowest address (05 R94). -/
theorem State.selectPolling_first {s : State} {l : Fin 8} {d : Drop} (hwalk : s.lines[l].walk = 0) (hd : d ∈ s.drops)
    (hline : d.line = l) (hopen : d.closed = false) (haddr : 1 ≤ d.addr)
    (hmin : ∀ e ∈ s.drops, e.line = l → e.closed = false → d.addr ≤ e.addr)
    (hsorted : s.drops.Pairwise (fun e f => e.key < f.key)) : s.selectPolling l = s.pollDrop l d false := by
  have hpoll : d ∈ s.pollable l := State.mem_pollable.mpr ⟨hd, hline, hopen⟩
  have hpair : (s.pollable l).Pairwise (fun e f => e.key < f.key) := (hsorted.filter _).filter _
  have hfirst : (s.pollable l).find? (fun e => s.lines[l].walk < e.addr) = some d := by
    rw [hwalk]
    cases hlist : s.pollable l with
    | nil => rw [hlist] at hpoll; cases hpoll
    | cons e es =>
      have he : e ∈ s.pollable l := by rw [hlist]; exact List.mem_cons_self
      obtain ⟨hemem, heline, heopen⟩ := State.mem_pollable.mp he
      have hle := hmin e hemem heline heopen
      have heq : d = e := by
        rw [hlist] at hpoll hpair
        rcases List.mem_cons.mp hpoll with h | h
        · exact h
        · have hkey := (List.pairwise_cons.mp hpair).1 d h
          rw [Drop.key, Drop.key, heline, hline] at hkey
          omega
      rw [List.find?_cons_of_pos (by simpa using (by omega : 0 < e.addr)), heq]
  rw [State.selectPolling, hfirst]

/-- The poll to a drop, written out (05 R95, 06 R114). -/
theorem State.pollDrop_eq {s : State} {l : Fin 8} {x : Line} (hx : s.lines[l] = x) (d : Drop) (wrap : Bool) :
    s.pollDrop l d wrap = { s with
      drops := s.drops.map (fun e => if e.line = l ∧ e.addr = d.addr
        then { e with mode := some (grantMode s.conns[d.conn] d) } else e)
      lines := s.lines.set l (x.openAt d.addr wrap true
        (pollFrame l d.addr (grantMode s.conns[d.conn] d) (grantCeiling s.conns[d.conn] d))) } := by
  unfold State.pollDrop
  dsimp only
  rw [State.modDrop_eq]
  exact State.modLine_eq (s := { s with drops := s.drops.map (fun e => if e.line = l ∧ e.addr = d.addr
    then { e with mode := some (grantMode s.conns[d.conn] d) } else e) }) hx _

/-! ## START LINE -/

/-- The missed counts of a line's drops cleared (05 R90). -/
def missesCleared (ds : List Drop) (l : Fin 8) : List Drop :=
  ds.map (fun d => if d.line = l then { d with missed := 0 } else d)

/-- A slot of the pool after the missed counts were cleared has the place of one before. -/
theorem mem_missesCleared {ds : List Drop} {l : Fin 8} {d : Drop} (h : d ∈ missesCleared ds l) :
    ∃ e ∈ ds, e.line = d.line ∧ e.addr = d.addr ∧ e.closed = d.closed := by
  obtain ⟨e, he, rfl⟩ := List.mem_map.mp h
  refine ⟨e, he, ?_⟩
  split <;> exact ⟨rfl, rfl, rfl⟩

/-- The pool keeps its order when the missed counts are cleared. -/
theorem missesCleared_sorted {ds : List Drop} (l : Fin 8) (h : ds.Pairwise (fun e f => e.key < f.key)) :
    (missesCleared ds l).Pairwise (fun e f => e.key < f.key) := by
  refine SortedDrops.map (ds := ds) h _ fun d => ?_
  split <;> rfl

/-- A line whose walk starts in a state (05 R90). -/
def Line.started (x : Line) (st : LineState) : Line := { x.quiet with bad := 0, walk := 0, state := st }

/-- The state with a line whose walk starts, before its connections and its first selection. -/
def State.started (s : State) (l : Fin 8) (x : Line) (st : LineState) : State :=
  { s with lines := s.lines.set l (x.started st), drops := missesCleared s.drops l }

theorem State.startLine_eq {s : State} {l : Fin 8} {x : Line} (hx : s.lines[l] = x) : s.startLine l =
    if x.mode = .normal then ((s.started l x .polling).enterPolling l).select l
    else (s.started l x .loopback).select l := by
  have hset (st : LineState) : ((s.modLine l (fun x => { x.quiet with bad := 0, walk := 0 })).modDrops
      (fun d => d.line == l) (fun d => { d with missed := 0 })).modLine l (fun x => { x with state := st }) =
      s.started l x st := by
    rw [State.modLine_eq hx, State.modDrops]
    simp only [beq_iff_eq]
    exact State.modLine_set { s with drops := missesCleared s.drops l } l { x.quiet with bad := 0, walk := 0 }
      (fun x => { x with state := st })
  unfold State.startLine
  dsimp only
  rw [hset, hset, hx]

/-- START LINE of a line above 7. -/
theorem doStartLine_badParam {s : State} {a : Byte} (ha : 7 < a.toNat) : doStartLine [a] s = (s, .badParam) :=
  withUnit_bad ha

/-- START LINE on a line (05 R90). -/
theorem doStartLine_eq {s : State} {l : Fin 8} {a : Byte} (ha : a.toNat = l.val) : doStartLine [a] s =
    if s.lines[l].state = .ready ∨ s.lines[l].state = .faulted then (s.startLine l, .ok) else (s, .badState) :=
  withUnit_unit (u := l) ha

/-- The selection of a line in LOOPBACK at the start of its walk (05 R106). -/
theorem State.select_loopback_started (s : State) (l : Fin 8) (x : Line) : (s.started l x .loopback).select l =
    { s with
      drops := missesCleared s.drops l
      lines := s.lines.set l { x.started .loopback with
        walk := 1, polled := 1, phase := .sending, tx := pollFrame l 1 .commission 0 } } := by
  have hself : (s.started l x .loopback).lines[l] = x.started .loopback := State.lines_set_self _ l _
  unfold State.select
  rw [hself]
  exact State.modLine_set { s with drops := missesCleared s.drops l } l (x.started .loopback)
    (fun z => z.openAt z.loopNext (30 ≤ z.walk) false (pollFrame l z.loopNext .commission 0))

/-- The end of an event that has or has not raised an urgent trigger. -/
theorem State.finish_urgent {u : State} (h : u.urgent = false) (b : Bool) :
    ({ u with urgent := b } : State).finish = if b then u.answered else u.attend := by
  cases b with
  | true => exact State.finish_wanted h
  | false =>
    rw [← h]
    exact (State.finish_of_quiet h).trans (if_neg (by rw [h]; decide)).symm

/-- The connections a line's entry to POLLING returns to ACTIVE, as a test. -/
def State.freed (s : State) (l : Fin 8) (id : Fin 96) : Bool := decide (s.conns[id].FreedBy l)

theorem State.freed_any {s : State} {l : Fin 8} :
    (List.finRange 96).any (s.freed l) = true ↔ ∃ id : Fin 96, s.conns[id].FreedBy l := by
  simp only [List.any_eq_true, List.mem_finRange, true_and, State.freed, decide_eq_true_eq]

/-- START LINE in NORMAL mode: the records its line's entry to POLLING leaves, and the selection made from them. -/
theorem State.startLine_normal {s : State} {l : Fin 8} {x : Line} (hx : s.lines[l] = x) (hmode : x.mode = .normal)
    (hurgent : s.urgent = false) : ∃ t : State, (∀ id : Fin 96, t.conns[id] = s.conns[id].lineBack l) ∧
      t.drops = missesCleared s.drops l ∧ t.lines = s.lines.set l (x.started .polling) ∧
      s.startLine l = { s with
        conns := t.conns, drops := (t.selectPolling l).drops, lines := (t.selectPolling l).lines
        att := s.att.reportAll (s.freed l) (List.finRange 96), urgent := (List.finRange 96).any (s.freed l) } := by
  obtain ⟨t, ht⟩ : ∃ t, t = (s.started l x .polling).enterPolling l := ⟨_, rfl⟩
  have hconn (id : Fin 96) : t.conns[id] = s.conns[id].lineBack l := by
    rw [ht, State.enterPolling_conn]
    rfl
  have hrest : t = { s.started l x .polling with
      conns := t.conns
      att := s.att.reportAll (s.freed l) (List.finRange 96)
      urgent := (List.finRange 96).any (s.freed l) } := by
    have h := State.enterPolling_eq (s.started l x .polling) l
    rw [← ht] at h
    refine h.trans ?_
    rw [show (s.started l x .polling).urgent = false from hurgent, Bool.false_or]
    rfl
  have hdrops : t.drops = missesCleared s.drops l := by rw [hrest]; rfl
  have hlines : t.lines = s.lines.set l (x.started .polling) := by rw [hrest]; rfl
  have hselect : t.select l = t.selectPolling l := by
    have hpolling : t.lines[l].state = .polling := by
      rw [hlines, getElem_set_fin, if_pos rfl]
      rfl
    rw [State.select, hpolling]
  refine ⟨t, hconn, hdrops, hlines, ?_⟩
  rw [State.startLine_eq hx, if_pos hmode, ← ht, hselect, State.selectPolling_rest]
  have hmerge (ds : List Drop) (ls : Vector Line 8) : ({ t with drops := ds, lines := ls } : State) = { s with
      conns := t.conns, drops := ds, lines := ls
      att := s.att.reportAll (s.freed l) (List.finRange 96), urgent := (List.finRange 96).any (s.freed l) } := by
    rw [hrest]
    rfl
  exact hmerge _ _

/-- Settles O41. -/
theorem startLineActs : Obligations.StartLineActs := by
  refine fun s a h => ⟨fun ha => ?_, ?_⟩
  · exact congrArg _ (exec_one_refused h .startLine a false (doStartLine_badParam ha))
  · rintro l x y ds ha hx hds hy
    have hdo := doStartLine_eq (s := s.acting .startLine 0 []) ha
    refine ⟨fun h1 h2 => ?_, fun hst => ?_⟩
    · exact congrArg _ (exec_one_refused h .startLine a false (hdo.trans (if_neg (by
        rw [hx] at h1 h2
        exact not_or.mpr ⟨h1, h2⟩))))
    · have hstart := State.startLine_eq (s := s.acting .startLine 0 []) hx.symm
      have hexec : exec (.startLine [a]) s =
          .next ((((s.acting .startLine 0 []).startLine l).closeWith .ok).finish) :=
        congrArg _ (exec_one_act h .startLine a false (hdo.trans (if_pos (by rw [hx] at hst; exact hst))))
      refine ⟨fun hmode => ?_, fun hmode => ?_⟩
      · rw [hexec, hstart, if_neg (by rw [hmode]; decide), State.select_loopback_started, hds, hy]
        exact congrArg _ (State.finish_of_settled h.2.2)
      · obtain ⟨t, hconn, hdrops, hlines, ht⟩ :=
          State.startLine_normal (s := s.acting .startLine 0 []) hx.symm hmode h.2.2.1
        have hself : t.lines[l] = x.started .polling := by rw [hlines, getElem_set_fin, if_pos rfl]
        refine ⟨{ s with
          port := s.port.closed .ok, conns := t.conns, drops := (t.selectPolling l).drops
          lines := (t.selectPolling l).lines, att := s.att.reportAll (s.freed l) (List.finRange 96) },
          ?_, rfl, hconn, Attention.reportAll_rest (s.freed l) _ s.att,
          fun c => ⟨Attention.reportAll_unitsOf _ _ _ _, (Attention.reportAll_isPending _ _ _ _).trans ?_⟩,
          fun id => (Attention.reportAll_changed _ _ _ _).trans ?_, fun hclosed => ?_,
          fun d hd hline hopen haddr hmin hsorted => ?_⟩
        · rw [hexec, ht]
          refine congrArg _ ((State.finish_urgent (u := { s with
            port := s.port.closed .ok, conns := t.conns, drops := (t.selectPolling l).drops
            lines := (t.selectPolling l).lines, att := s.att.reportAll (s.freed l) (List.finRange 96) }) ?_ _).trans
            (if_congr State.freed_any rfl rfl))
          exact h.2.2.1
        · rw [Bool.eq_iff_iff.mpr (State.freed_any.trans decide_eq_true_iff.symm)]
        · have hall : (List.finRange 96).contains id = true := List.contains_iff_mem.mpr (List.mem_finRange id)
          rw [hall, Bool.and_true]
          rfl
        · have hnone : ∀ d ∈ t.drops, d.line = l → d.closed = true := fun d hd hline => by
            obtain ⟨e, he, hel, -, hec⟩ := mem_missesCleared (hdrops ▸ hd)
            exact hec ▸ hclosed e he (hel.trans hline)
          rw [State.selectPolling_none hnone, State.modLine_eq hself]
          refine ⟨?_, hdrops.trans hds.symm⟩
          show t.lines.set l _ = _
          rw [hlines, Vector.set_set, hy]
          rfl
        · have hmem : d ∈ t.drops := by
            rw [hdrops, show missesCleared _ l = ds from hds.symm]
            exact hd
          have hlow : ∀ e ∈ t.drops, e.line = l → e.closed = false → d.addr ≤ e.addr := fun e he hel hec => by
            obtain ⟨f, hf, hfl, hfa, hfc⟩ := mem_missesCleared (hdrops ▸ he)
            exact hfa ▸ hmin f hf (hfl.trans hel) (hfc.trans hec)
          have hsort : t.drops.Pairwise (fun e f => e.key < f.key) := hdrops ▸ missesCleared_sorted l hsorted
          rw [State.selectPolling_first (by rw [hself]; rfl) hmem hline hopen haddr hlow hsort,
            State.pollDrop_eq hself]
          refine ⟨?_, ?_⟩
          · show t.lines.set l _ = _
            rw [hlines, Vector.set_set, hy]
            rfl
          · show t.drops.map _ = _
            rw [hdrops, hds]
            rfl

end Sys2Proof.Machine
end

section
/-! PROOFS. ADD DROP and REMOVE DROP: the checks, the slot taken, and the slot freed while no exchange is open with its drop
(O18, first to fifth part). -/

namespace Sys2Proof.Machine

/-! ## Commands of two parameter bytes -/

/-- A command of two parameter bytes on a ready port, refused. -/
theorem exec_two_refused {s : State} (h : s.Ready) (c : Cmd) (a b : Byte) (home : Bool) {r : Result}
    (hr : wholeAct c [a, b] home (s.acting c 1 [a]) = (s.acting c 1 [a], r))
    (hk : c.kind = .whole := by decide) (hn : c.paramCount = 2 := by decide)
    (hne : c ≠ .createConnection := by decide) : s.send c [a, b] home = s.refuse r := by
  rw [State.send_two h hk hn hne, State.finishWhole_refused h.2.2 hr]

/-- A command of two parameter bytes on a ready port that acts. -/
theorem exec_two_act {s t : State} (h : s.Ready) (c : Cmd) (a b : Byte) (home : Bool) {r : Result}
    (hr : wholeAct c [a, b] home (s.acting c 1 [a]) = (t, r))
    (hk : c.kind = .whole := by decide) (hn : c.paramCount = 2 := by decide)
    (hne : c ≠ .createConnection := by decide) : s.send c [a, b] home = (t.closeWith r).finish := by
  rw [State.send_two h hk hn hne, State.finishWhole_act hr]

/-! ## ADD DROP -/

/-- ADD DROP of an id above 95. -/
theorem doAddDrop_badId {s : State} {a b : Byte} (ha : 95 < a.toNat) : doAddDrop [a, b] s = (s, .badId) := withId_bad ha

/-- ADD DROP on a connection: its checks in order (01 R25). -/
theorem doAddDrop_eq {s : State} {id : Fin 96} {a b : Byte} (ha : a.toNat = id.val) : doAddDrop [a, b] s =
    if s.conns[id].refuses then (s, .badState)
    else if badAddr b.toNat || 3 ≤ (s.dropsOf id).length then (s, .badParam)
    else if (s.findDrop s.conns[id].line b.toNat).isSome then (s, .dropInUse)
    else if s.freeSlots = 0 then (s, .dropPoolFull)
    else (s.addDropTo id b.toNat, .ok) := withId_conn (id := id) ha

/-- The address or the number of drops is refused. -/
theorem addDrop_badParam_iff {b n : Nat} : (badAddr b || decide (3 ≤ n)) = true ↔ b < 1 ∨ 30 < b ∨ 3 ≤ n := by
  simp only [badAddr, Bool.or_eq_true, decide_eq_true_eq, or_assoc]

/-- An address is in use on a line. -/
theorem State.findDrop_isSome_iff {s : State} {l : Fin 8} {b : Nat} :
    (s.findDrop l b).isSome = true ↔ ∃ d ∈ s.drops, d.line = l ∧ d.addr = b := by
  simp only [State.findDrop, List.find?_isSome, Bool.and_eq_true, beq_iff_eq]

/-- No slot is free. -/
theorem State.freeSlots_eq_zero_iff {s : State} : s.freeSlots = 0 ↔ 160 ≤ s.drops.length := by
  rw [State.freeSlots_eq]
  omega

/-- A record written back is no change. -/
theorem set_self_fin {α : Type} {n : Nat} (v : Vector α n) (i : Fin n) : v.set i v[i] = v := Vector.set_getElem_self _

/-- An accepted ADD DROP: a JOINING slot more, no demand moved (01 R25). -/
theorem State.addDropTo_eq {s : State} (hdem : s.DemandRight) {id : Fin 96} (hc : s.conns[id].refuses = false) (b : Nat) :
    s.addDropTo id b = { s with
      drops := insertDrop (Drop.fresh s.conns[id].line b id .add) s.drops
      att := s.att.enter id } := by
  have hsame : (s.takeSlot (Drop.fresh s.conns[id].line b id .add)).liveDemand id = s.conns[id].demand := by
    rw [liveDemand_takeSlot s (d := Drop.fresh s.conns[id].line b id .add) nofun, (State.demandRight_iff s).mp hdem id,
      State.demandDue, hc]
    rfl
  have hstill : s.conns[id].demandMoves s.conns[id].demand s.engine.deadband s.conns[id].state = false :=
    decide_eq_false fun k => k.2.1 rfl
  unfold State.addDropTo
  dsimp only
  rw [State.recompute_eq (s := s.takeSlot (Drop.fresh s.conns[id].line b id .add)) hc, hsame]
  show State.enterChanged { s with
    conns := s.conns.set id s.conns[id]
    drops := insertDrop (Drop.fresh s.conns[id].line b id .add) s.drops
    engine := { s.engine with
      pend := s.engine.pend || s.conns[id].demandMoves s.conns[id].demand s.engine.deadband s.conns[id].state } } id = _
  rw [hstill, Bool.or_false, set_self_fin]
  rfl

/-- ADD DROP (O18, first part). -/
theorem addDropActs {s : State} {a b : Byte} (h : s.Ready) (hdem : s.DemandRight) :
    (95 < a.toNat → exec (.addDrop [a, b]) s = .next (s.refuse .badId)) ∧
    ∀ (id : Fin 96) (c : Conn), a.toNat = id.val → c = s.conns[id] →
      ((c.state = .vacant ∨ c.state = .retiring) → exec (.addDrop [a, b]) s = .next (s.refuse .badState)) ∧
      ((c.state = .pending ∨ c.state = .active ∨ c.state = .suspended) →
        ((b.toNat < 1 ∨ 30 < b.toNat ∨ 3 ≤ (s.dropsOf id).length) →
          exec (.addDrop [a, b]) s = .next (s.refuse .badParam)) ∧
        (1 ≤ b.toNat → b.toNat ≤ 30 → (s.dropsOf id).length < 3 →
          ((∃ d ∈ s.drops, d.line = c.line ∧ d.addr = b.toNat) →
            exec (.addDrop [a, b]) s = .next (s.refuse .dropInUse)) ∧
          ((∀ d ∈ s.drops, d.line = c.line → d.addr ≠ b.toNat) →
            (160 ≤ s.drops.length → exec (.addDrop [a, b]) s = .next (s.refuse .dropPoolFull)) ∧
            (s.drops.length < 160 → exec (.addDrop [a, b]) s = .next { s with
              port := s.port.closed .ok
              drops := insertDrop (Drop.fresh c.line b.toNat id .add) s.drops
              att := s.att.enter id })))) := by
  refine ⟨fun ha => congrArg _ (exec_two_refused h .addDrop a b false (doAddDrop_badId ha)), ?_⟩
  rintro id c ha rfl
  have hdo := doAddDrop_eq (s := s.acting .addDrop 1 [a]) (b := b) ha
  have hrefuse {r : Result} (hr : doAddDrop [a, b] (s.acting .addDrop 1 [a]) = (s.acting .addDrop 1 [a], r)) :
      exec (.addDrop [a, b]) s = .next (s.refuse r) := congrArg _ (exec_two_refused h .addDrop a b false hr)
  refine ⟨fun hst => hrefuse (hdo.trans (if_pos (Conn.refuses_of hst))), fun hst => ?_⟩
  have hserves := Conn.refuses_eq_false_iff.mpr hst
  have h1 := hdo.trans (if_neg (Bool.eq_false_iff.mp hserves))
  refine ⟨fun hbad => hrefuse (h1.trans (if_pos (addDrop_badParam_iff.mpr hbad))), fun hlo hhi hlen => ?_⟩
  have h2 := h1.trans (if_neg (mt addDrop_badParam_iff.mp (by
    show ¬ (b.toNat < 1 ∨ 30 < b.toNat ∨ 3 ≤ (s.dropsOf id).length)
    omega)))
  refine ⟨fun huse => hrefuse (h2.trans (if_pos (State.findDrop_isSome_iff.mpr huse))), fun hfree => ?_⟩
  have h3 := h2.trans (if_neg (mt State.findDrop_isSome_iff.mp fun ⟨d, hd, hl, hda⟩ => hfree d hd hl hda))
  refine ⟨fun hfull => hrefuse (h3.trans (if_pos (State.freeSlots_eq_zero_iff.mpr hfull))), fun hroom => ?_⟩
  have h4 := h3.trans (if_neg (mt State.freeSlots_eq_zero_iff.mp (not_le.mpr hroom)))
  rw [State.addDropTo_eq (s := s.acting .addDrop 1 [a]) hdem hserves] at h4
  exact congrArg _ ((exec_two_act h .addDrop a b false h4).trans (State.finish_of_settled h.2.2))

/-! ## REMOVE DROP: checks -/

/-- REMOVE DROP of an id above 95. -/
theorem doRemoveDrop_badId {s : State} {a b : Byte} (ha : 95 < a.toNat) : doRemoveDrop [a, b] s = (s, .badId) :=
  withId_bad ha

/-- REMOVE DROP of a record in no service (01 R26). -/
theorem doRemoveDrop_badState {s : State} {id : Fin 96} {a b : Byte} (ha : a.toNat = id.val)
    (h : s.conns[id].refuses = true) : doRemoveDrop [a, b] s = (s, .badState) :=
  (withId_conn (id := id) ha).trans (if_pos h)

/-- REMOVE DROP of an address the connection does not have (01 R26). -/
theorem doRemoveDrop_badParam {s : State} {id : Fin 96} {a b : Byte} (ha : a.toNat = id.val)
    (h : s.conns[id].refuses = false) (hno : ∀ d ∈ s.dropsOf id, d.addr ≠ b.toNat) :
    doRemoveDrop [a, b] s = (s, .badParam) := by
  refine (withId_conn (id := id) ha).trans ((if_neg (Bool.eq_false_iff.mp h)).trans ?_)
  have hnone : (s.dropsOf id).find? (fun d => d.addr == b.toNat) = none :=
    List.find?_eq_none.mpr fun d hd => by simpa using hno d hd
  exact (congrArg (fun o : Option Drop => (match o with
    | none => (s, .badParam)
    | some d => if (s.dropsOf id).length ≤ 1 then (s, .badState) else (s.removeDropFrom id d, .ok) : State × Result)) hnone)

/-- REMOVE DROP of an address the connection has (01 R26). -/
theorem doRemoveDrop_found {s : State} {id : Fin 96} {a b : Byte} {d : Drop} (ha : a.toNat = id.val)
    (h : s.conns[id].refuses = false) (hd : (s.dropsOf id).find? (fun d => d.addr == b.toNat) = some d) :
    doRemoveDrop [a, b] s =
      if (s.dropsOf id).length ≤ 1 then (s, .badState) else (s.removeDropFrom id d, .ok) := by
  refine (withId_conn (id := id) ha).trans ((if_neg (Bool.eq_false_iff.mp h)).trans ?_)
  exact (congrArg (fun o : Option Drop => (match o with
    | none => (s, .badParam)
    | some d => if (s.dropsOf id).length ≤ 1 then (s, .badState) else (s.removeDropFrom id d, .ok) : State × Result)) hd)

/-- REMOVE DROP refused, in the order of its checks (O18, second part). -/
theorem removeDropRefused {s : State} {a b : Byte} (h : s.Ready) :
    (95 < a.toNat → exec (.removeDrop [a, b]) s = .next (s.refuse .badId)) ∧
    ∀ id : Fin 96, a.toNat = id.val →
      ((s.conns[id].state = .vacant ∨ s.conns[id].state = .retiring) →
        exec (.removeDrop [a, b]) s = .next (s.refuse .badState)) ∧
      ((s.conns[id].state = .pending ∨ s.conns[id].state = .active ∨ s.conns[id].state = .suspended) →
        ((∀ d ∈ s.dropsOf id, d.addr ≠ b.toNat) → exec (.removeDrop [a, b]) s = .next (s.refuse .badParam)) ∧
        ((∃ d ∈ s.dropsOf id, d.addr = b.toNat) → (s.dropsOf id).length ≤ 1 →
          exec (.removeDrop [a, b]) s = .next (s.refuse .badState))) := by
  have hrefuse {r : Result} (hr : doRemoveDrop [a, b] (s.acting .removeDrop 1 [a]) = (s.acting .removeDrop 1 [a], r)) :
      exec (.removeDrop [a, b]) s = .next (s.refuse r) := congrArg _ (exec_two_refused h .removeDrop a b false hr)
  refine ⟨fun ha => hrefuse (doRemoveDrop_badId ha), fun id ha => ⟨fun hst => ?_, fun hst => ?_⟩⟩
  · exact hrefuse (doRemoveDrop_badState ha (Conn.refuses_of hst))
  · have hserves := Conn.refuses_eq_false_iff.mpr hst
    refine ⟨fun hno => hrefuse (doRemoveDrop_badParam ha hserves hno), fun ⟨d, hd, hda⟩ hlen => ?_⟩
    obtain ⟨e, he⟩ : ∃ e, (s.dropsOf id).find? (fun d => d.addr == b.toNat) = some e :=
      Option.isSome_iff_exists.mp (List.find?_isSome.mpr ⟨d, hd, beq_iff_eq.mpr hda⟩)
    exact hrefuse ((doRemoveDrop_found (s := s.acting .removeDrop 1 [a]) ha hserves he).trans (if_pos hlen))

end Sys2Proof.Machine
end

section
/-! PROOFS. REMOVE DROP accepted, no exchange being open with the drop (O18, third to fifth part). -/

namespace Sys2Proof.Machine

/-! ## The slot freed -/

/-- The slots left when the slot of a place is freed. -/
abbrev dropsWithout (ds : List Drop) (x : Drop) : List Drop := ds.filter (fun d => d.line ≠ x.line ∨ d.addr ≠ x.addr)

theorem State.freeSlot_eq (s : State) (x : Drop) :
    s.freeSlot x.line x.addr = { s with drops := dropsWithout s.drops x } := by
  have hfilter : s.drops.filter (fun d => !(d.line == x.line && d.addr == x.addr)) = dropsWithout s.drops x :=
    List.filter_congr fun d _ => by simp only [beq_eq_decide, ← Bool.decide_and, ← decide_not, not_and_or, ne_eq]
  rw [State.freeSlot, hfilter]

/-- The drops a connection keeps. -/
theorem State.PoolRight.dropsOf_without {s : State} (h : s.PoolRight) {id : Fin 96} {x : Drop} (hx : x ∈ s.dropsOf id) :
    ({ s with drops := dropsWithout s.drops x } : State).dropsOf id = (s.dropsOf id).filter (fun d => d.addr ≠ x.addr) := by
  obtain ⟨hmem, rfl⟩ := State.mem_dropsOf.mp hx
  rw [State.dropsOf, State.dropsOf, List.filter_comm]
  refine List.filter_congr fun d hd => ?_
  obtain ⟨hdmem, hdconn⟩ := State.mem_dropsOf.mp hd
  have hline : d.line = x.line := by
    rw [← (h.2.2.1 d hdmem).2.2.2, ← (h.2.2.1 x hmem).2.2.2]
    simp only [hdconn]
  simp only [hline, ne_eq, not_true_eq_false, false_or]

/-- REMOVE DROP finds the slot its address names. -/
theorem State.PoolRight.find_dropsOf {s : State} (h : s.PoolRight) {id : Fin 96} {x : Drop} (hx : x ∈ s.dropsOf id) :
    (s.dropsOf id).find? (fun d => d.addr == x.addr) = some x := by
  obtain ⟨hmem, rfl⟩ := State.mem_dropsOf.mp hx
  obtain ⟨e, he⟩ : ∃ e, (s.dropsOf x.conn).find? (fun d => d.addr == x.addr) = some e :=
    Option.isSome_iff_exists.mp (List.find?_isSome.mpr ⟨x, hx, beq_self_eq_true x.addr⟩)
  obtain ⟨hemem, heconn⟩ := State.mem_dropsOf.mp (List.mem_of_find?_eq_some he)
  have haddr : e.addr = x.addr := by simpa using List.find?_some he
  have hline : e.line = x.line := by
    rw [← (h.2.2.1 e hemem).2.2.2, ← (h.2.2.1 x hmem).2.2.2]
    simp only [heconn]
  rw [he, h.eq_of_place hmem hemem hline haddr]

/-- No exchange is open with the drop at an address: nothing is cut (05 R96). -/
theorem State.cutExchange_none {s : State} {l : Fin 8} {a : Nat} (h : s.lines[l].state ≠ .polling ∨ s.lines[l].polled ≠ a ∨
    s.lines[l].phase = .none ∨ s.lines[l].phase = .spacing) : s.cutExchange l a = s := by
  unfold State.cutExchange
  dsimp only
  by_cases hopen : s.lines[l].state = .polling ∧ s.lines[l].polled = a
  · have hphase : s.lines[l].phase = .none ∨ s.lines[l].phase = .spacing := by
      rcases h with h | h | h
      · exact absurd hopen.1 h
      · exact absurd hopen.2 h
      · exact h
    rw [if_pos hopen, if_neg (by rcases hphase with k | k <;> rw [k] <;> decide),
      if_neg (by unfold Line.inExchange; rcases hphase with k | k <;> rw [k] <;> decide)]
  · exact if_neg hopen

/-! ## The state with the slot freed and the demand recomputed -/

/-- The state after the first two effects of an accepted REMOVE DROP (01 R26). -/
def State.removed (s : State) (id : Fin 96) (x : Drop) (demand : Nat) : State :=
  { s with
    conns := s.conns.set id { s.conns[id] with demand := demand }
    drops := dropsWithout s.drops x
    engine := { s.engine with
      pend := s.engine.pend || s.conns[id].demandMoves demand s.engine.deadband s.conns[id].state } }

theorem State.removed_conn (s : State) (id : Fin 96) (x : Drop) (demand : Nat) :
    (s.removed id x demand).conns[id] = { s.conns[id] with demand := demand } := by
  rw [State.removed, getElem_set_fin, if_pos rfl]

/-- The slot freed and the demand recomputed, nothing cut. -/
theorem State.removed_eq {s : State} (hpool : s.PoolRight) {id : Fin 96} {x : Drop} (hx : x ∈ s.dropsOf id)
    (hc : s.conns[id].refuses = false)
    (hline : s.lines[x.line].state ≠ .polling ∨ s.lines[x.line].polled ≠ x.addr ∨ s.lines[x.line].phase = .none ∨
      s.lines[x.line].phase = .spacing) {demand : Nat}
    (hdemand : demand = min 65535
      ((((s.dropsOf id).filter (fun d => d.addr ≠ x.addr)).filter (fun d => d.state = .live)).map (·.demand)).sum) :
    ((s.freeSlot x.line x.addr).cutExchange x.line x.addr).recompute id
      ((s.freeSlot x.line x.addr).cutExchange x.line x.addr).conns[id].state = s.removed id x demand := by
  have hcut := State.cutExchange_none (s := { s with drops := dropsWithout s.drops x }) (l := x.line) (a := x.addr) hline
  have hlive : ({ s with drops := dropsWithout s.drops x } : State).liveDemand id = demand := by
    rw [State.liveDemand, hpool.dropsOf_without hx, hdemand]
    simp only [liveDrops, demandSum, beq_eq_decide]
  rw [State.freeSlot_eq, hcut]
  refine (State.recompute_eq (s := { s with drops := dropsWithout s.drops x }) hc _).trans ?_
  rw [hlive]
  rfl

/-- An accepted REMOVE DROP from the state its first two effects leave (01 R26). -/
theorem State.removeDropFrom_eq {s : State} {id : Fin 96} {x : Drop} {t : State}
    (ht : ((s.freeSlot x.line x.addr).cutExchange x.line x.addr).recompute id
      ((s.freeSlot x.line x.addr).cutExchange x.line x.addr).conns[id].state = t) : s.removeDropFrom id x =
    let u := (if x.state = .silent then t.testComms id else t).testService id
    (if s.conns[id].state = .active ∨ s.conns[id].state = .suspended
      then (u.modConn id (fun c => { c with moved := true })).ordinary else u).enterChanged id := by
  rw [← ht]
  rfl

/-- A connection that is not SUSPENDED has no COMMS to lose. -/
theorem State.testComms_other {s : State} {id : Fin 96} (h : s.conns[id].state ≠ .suspended) : s.testComms id = s := by
  unfold State.testComms
  split
  · rfl
  · exact State.loseCause_other s id .comms h

/-- A connection that is not PENDING is not tested for service. -/
theorem State.testService_other {s : State} {id : Fin 96} (h : s.conns[id].state ≠ .pending) : s.testService id = s :=
  if_neg fun k => h k.1

/-- A record under change written again. -/
theorem State.editedTo_set (s : State) (id : Fin 96) (c c' : Conn) (ds : List Drop) (e : Engine) (p : Port) :
    ({ s.editedTo id c ds e p with conns := (s.editedTo id c ds e p).conns.set id c' } : State) =
      s.editedTo id c' ds e p :=
  congrArg (fun v => ({ s with conns := v, drops := ds, engine := e, port := p } : State)) (Vector.set_set ..)

/-- The record of a removal moved and pending set, its change entered (01 R26). -/
theorem State.editedTo_moved (s : State) (id : Fin 96) (c : Conn) (ds : List Drop) (e : Engine) (p : Port) :
    (((s.editedTo id c ds e p).modConn id (fun c => { c with moved := true })).ordinary).enterChanged id =
      { s.editedTo id { c with moved := true } ds { e with pend := true } p with att := s.att.enter id } :=
  congrArg (fun t => State.enterChanged t id) (State.edited_editedTo s id c ds e p (fun c => c))

section effects
variable {s : State} {id : Fin 96} {x : Drop} {n : Nat}
  (ht : ((s.freeSlot x.line x.addr).cutExchange x.line x.addr).recompute id
    ((s.freeSlot x.line x.addr).cutExchange x.line x.addr).conns[id].state = s.removed id x n)
include ht

/-- The removal from an ACTIVE connection. -/
theorem State.removeDropFrom_active (hst : s.conns[id].state = .active) : s.removeDropFrom id x = { s with
    conns := s.conns.set id { s.conns[id] with demand := n, moved := true }
    drops := dropsWithout s.drops x
    engine := { s.engine with pend := true }
    att := s.att.enter id } := by
  have hstate : (s.removed id x n).conns[id].state = .active := by rw [State.removed_conn, hst]
  rw [State.removeDropFrom_eq ht, State.testComms_other (by rw [hstate]; decide), ite_self,
    State.testService_other (by rw [hstate]; decide)]
  dsimp only
  rw [if_pos (.inl hst)]
  exact State.editedTo_moved ..

/-- The removal from a SUSPENDED connection that keeps COMMS as it is. -/
theorem State.removeDropFrom_suspended (hst : s.conns[id].state = .suspended)
    (hkeep : x.state ≠ .silent ∨ ∃ d ∈ (s.removed id x n).drops, d.conn = id ∧ d.state = .silent) :
    s.removeDropFrom id x = { s with
      conns := s.conns.set id { s.conns[id] with demand := n, moved := true }
      drops := dropsWithout s.drops x
      engine := { s.engine with pend := true }
      att := s.att.enter id } := by
  have hstate : (s.removed id x n).conns[id].state = .suspended := by rw [State.removed_conn, hst]
  have hcomms : (if x.state = .silent then (s.removed id x n).testComms id else s.removed id x n) = s.removed id x n := by
    split
    next hsil =>
      rcases hkeep with hk | hk
      · exact absurd hsil hk
      · exact State.testComms_silent hk
    next => rfl
  rw [State.removeDropFrom_eq ht, hcomms, State.testService_other (by rw [hstate]; decide)]
  dsimp only
  rw [if_pos (.inr hst)]
  exact State.editedTo_moved ..

/-- The removal of the last SILENT drop of a SUSPENDED connection that holds another cause. -/
theorem State.removeDropFrom_left (hst : s.conns[id].state = .suspended) (hsil : x.state = .silent)
    (hnone : ∀ d ∈ (s.removed id x n).drops, d.conn = id → d.state ≠ .silent)
    (hcause : s.conns[id].lineCause = true ∨ s.conns[id].supervisor = true) : s.removeDropFrom id x = { s with
      conns := s.conns.set id { s.conns[id] with demand := n, comms := false, moved := true }
      drops := dropsWithout s.drops x
      engine := { s.engine with pend := true }
      att := s.att.enter id } := by
  have hstate : (s.removed id x n).conns[id].state = .suspended := by rw [State.removed_conn, hst]
  have hleft : ((s.removed id x n).conns[id].dropCause .comms).noCause = false := by
    rw [State.removed_conn, Conn.dropCause_comms_noCause]
    rcases hcause with h | h <;> simp only [h, Bool.not_true, Bool.false_and, Bool.and_false]
  have hlose : (s.removed id x n).testComms id = s.editedTo id { s.conns[id] with demand := n, comms := false }
      (dropsWithout s.drops x) (s.removed id x n).engine s.port := by
    rw [State.testComms_none hnone, State.loseCause_left hstate hleft, State.removed_conn]
    exact State.editedTo_set ..
  rw [State.removeDropFrom_eq ht, if_pos hsil, hlose, State.testService_other (by rw [State.editedTo_conn, hst]; decide)]
  dsimp only
  rw [if_pos (.inr hst)]
  exact State.editedTo_moved ..

/-- The removal of the last SILENT drop of a SUSPENDED connection that holds no other cause. -/
theorem State.removeDropFrom_last (hst : s.conns[id].state = .suspended) (hsil : x.state = .silent)
    (hnone : ∀ d ∈ (s.removed id x n).drops, d.conn = id → d.state ≠ .silent)
    (h1 : s.conns[id].lineCause = false) (h2 : s.conns[id].supervisor = false) :
    s.removeDropFrom id x = State.wantPass { s with
      conns := s.conns.set id { (({ s.conns[id] with demand := n } : Conn).dropCause .comms).returned with moved := true }
      drops := dropsWithout s.drops x
      engine := { s.engine with pend := true }
      att := (s.att.raise .stateChanged).enter id } := by
  have hstate : (s.removed id x n).conns[id].state = .suspended := by rw [State.removed_conn, hst]
  have hlast : ((s.removed id x n).conns[id].dropCause .comms).noCause = true := by
    rw [State.removed_conn, Conn.dropCause_comms_noCause, h1, h2]
    rfl
  have hlose : (s.removed id x n).testComms id = State.editedTo
      (State.wantPass { s with att := (s.att.raise .stateChanged).enter id }) id
      (({ s.conns[id] with demand := n } : Conn).dropCause .comms).returned
      (dropsWithout s.drops x) (s.removed id x n).engine s.port := by
    rw [State.testComms_none hnone, State.loseCause_last hstate hlast, State.removed_conn]
    exact congrArg (fun t => State.wantPass { t with att := (s.att.raise .stateChanged).enter id })
      (State.editedTo_set s id _ _ (dropsWithout s.drops x) (s.removed id x n).engine s.port)
  rw [State.removeDropFrom_eq ht, if_pos hsil, hlose,
    State.testService_other (by rw [State.editedTo_conn]; exact nofun)]
  dsimp only
  rw [if_pos (.inr hst), State.editedTo_moved]
  exact congrArg (fun a => State.wantPass { s with
    conns := s.conns.set id { (({ s.conns[id] with demand := n } : Conn).dropCause .comms).returned with moved := true }
    drops := dropsWithout s.drops x, engine := { s.engine with pend := true }, att := a }) (Attention.enter_enter _ _)

/-- The removal from a PENDING connection: the service condition is tested on the drops left. -/
theorem State.removeDropFrom_pending (hst : s.conns[id].state = .pending) :
    s.removeDropFrom id x = ((s.removed id x n).testService id).enterChanged id := by
  have hstate : (s.removed id x n).conns[id].state = .pending := by rw [State.removed_conn, hst]
  rw [State.removeDropFrom_eq ht, State.testComms_other (by rw [hstate]; decide), ite_self]
  dsimp only
  rw [if_neg (by rw [hst]; decide)]

end effects

/-- An accepted REMOVE DROP, to the end of its event. -/
theorem exec_removeDrop {s : State} {a b : Byte} {id : Fin 96} {x : Drop} (h : s.Ready) (hpool : s.PoolRight)
    (ha : a.toNat = id.val) (hc : s.conns[id].refuses = false) (hx : x ∈ s.dropsOf id) (hb : x.addr = b.toNat)
    (hlen : 2 ≤ (s.dropsOf id).length) : exec (.removeDrop [a, b]) s =
      .next (((s.acting .removeDrop 1 [a]).removeDropFrom id x).closeWith .ok).finish := by
  have hfind : (s.dropsOf id).find? (fun d => d.addr == b.toNat) = some x := hb ▸ hpool.find_dropsOf hx
  exact congrArg _ (exec_two_act h .removeDrop a b false
    ((doRemoveDrop_found (s := s.acting .removeDrop 1 [a]) ha hc hfind).trans (if_neg (by
      show ¬ (s.dropsOf id).length ≤ 1
      omega))))

/-- The drops left that are LIVE, by the two tests in one or one after the other. -/
theorem filter_left_live (ds : List Drop) (x : Drop) :
    ds.filter (fun d => d.addr ≠ x.addr ∧ d.state = .live) =
      (ds.filter (fun d => d.addr ≠ x.addr)).filter (fun d => d.state = .live) := by
  simp only [List.filter_filter, ← Bool.decide_and, and_comm]

section parts
variable {s : State} {a b : Byte} {id : Fin 96} {c : Conn} {x : Drop} (h : s.Ready) (hpool : s.PoolRight)
  (ha : a.toNat = id.val) (hc : c = s.conns[id]) (hx : x ∈ s.dropsOf id) (hb : x.addr = b.toNat)
  (hlen : 2 ≤ (s.dropsOf id).length)
  (hline : s.lines[x.line].state ≠ .polling ∨ s.lines[x.line].polled ≠ x.addr ∨ s.lines[x.line].phase = .none ∨
    s.lines[x.line].phase = .spacing)
include h hpool ha hc hx hb hlen hline

/-- The removal from an ACTIVE connection (O18, third part). -/
theorem removeDrop_active (hst : c.state = .active) : exec (.removeDrop [a, b]) s = .next { s with
    port := s.port.closed .ok
    conns := s.conns.set id { c with
      demand := min 65535 (((s.dropsOf id).filter (fun d => d.addr ≠ x.addr ∧ d.state = .live)).map (·.demand)).sum
      moved := true }
    drops := dropsWithout s.drops x
    engine := { s.engine with pend := true }
    att := s.att.enter id } := by
  subst hc
  have hserves : s.conns[id].refuses = false := Conn.refuses_eq_false_iff.mpr (.inr (.inl hst))
  have hrem := State.removed_eq (s := s.acting .removeDrop 1 [a]) hpool hx hserves hline rfl
  rw [exec_removeDrop h hpool ha hserves hx hb hlen, filter_left_live, State.removeDropFrom_active hrem hst]
  exact congrArg _ (State.finish_of_settled h.2.2)

/-- The removal from a SUSPENDED connection (O18, fifth part). -/
theorem removeDrop_suspended (hst : c.state = .suspended) {rest : List Drop}
    (hrest : rest = (s.dropsOf id).filter (fun d => d.addr ≠ x.addr)) {u : State} (hu : u = { s with
      port := s.port.closed .ok
      conns := s.conns.set id { c with
        demand := min 65535 ((rest.filter (fun d => d.state = .live)).map (·.demand)).sum, moved := true }
      drops := dropsWithout s.drops x
      engine := { s.engine with pend := true }
      att := s.att.enter id }) :
    ((x.state ≠ .silent ∨ ∃ d ∈ rest, d.state = .silent) → exec (.removeDrop [a, b]) s = .next u) ∧
    (x.state = .silent → (∀ d ∈ rest, d.state ≠ .silent) →
      ((c.lineCause = true ∨ c.supervisor = true) → exec (.removeDrop [a, b]) s = .next { u with
        conns := u.conns.set id { u.conns[id] with comms := false } }) ∧
      (c.lineCause = false → c.supervisor = false → exec (.removeDrop [a, b]) s = .next ({ u with
        conns := u.conns.set id { u.conns[id] with
          comms := false, state := .active, expired := false, holdLeft := 0
          granted := if c.expired then fallbackPower c.sub c.dt c.fallback else c.granted
          ceiling := if c.expired then c.fallback.getD 0 else c.ceiling }
        att := (s.att.raise .stateChanged).enter id } : State).answered)) := by
  subst hc
  have hserves : s.conns[id].refuses = false := Conn.refuses_eq_false_iff.mpr (.inr (.inr hst))
  have hrem := State.removed_eq (s := s.acting .removeDrop 1 [a]) hpool hx hserves hline rfl
  have hmem (d : Drop) : d ∈ rest ↔ d ∈ dropsWithout s.drops x ∧ d.conn = id := by
    rw [hrest, ← hpool.dropsOf_without hx, State.mem_dropsOf]
  have hself : u.conns[id] = { s.conns[id] with
      demand := min 65535 ((rest.filter (fun d => d.state = .live)).map (·.demand)).sum, moved := true } := by
    rw [hu, getElem_set_fin, if_pos rfl]
  have hset (z : Conn) : u.conns.set id z = s.conns.set id z := by rw [hu, Vector.set_set]
  rw [exec_removeDrop h hpool ha hserves hx hb hlen]
  refine ⟨fun hkeep => ?_, fun hsil hnone => ⟨fun hcause => ?_, fun h1 h2 => ?_⟩⟩
  · rw [State.removeDropFrom_suspended hrem hst (hkeep.imp_right fun ⟨d, hd, hds⟩ =>
      ⟨d, ((hmem d).mp hd).1, ((hmem d).mp hd).2, hds⟩), hu, hrest]
    exact congrArg _ (State.finish_of_settled h.2.2)
  · rw [State.removeDropFrom_left hrem hst hsil (fun d hd hdc => hnone d ((hmem d).mpr ⟨hd, hdc⟩)) hcause, hself, hset, hu,
      hrest]
    exact congrArg _ (State.finish_of_settled h.2.2)
  · rw [State.removeDropFrom_last hrem hst hsil (fun d hd hdc => hnone d ((hmem d).mpr ⟨hd, hdc⟩)) h1 h2, hself, hset, hu,
      hrest]
    exact congrArg _ (State.closeWith_wanted _ h.2.2.1)

/-- The removal from a PENDING connection (O18, fourth part). -/
theorem removeDrop_pending (hst : c.state = .pending) {rest : List Drop}
    (hrest : rest = (s.dropsOf id).filter (fun d => d.addr ≠ x.addr)) {n : Nat}
    (hn : n = min 65535 ((rest.filter (fun d => d.state = .live)).map (·.demand)).sum) {u : State} (hu : u = { s with
      port := s.port.closed .ok
      conns := s.conns.set id { c with demand := n }
      drops := dropsWithout s.drops x
      att := s.att.enter id }) :
    (((∀ d ∈ rest, d.state ≠ .live) ∨ ∃ d ∈ rest, d.state = .silent ∨ (d.state = .joining ∧ d.origin = .create)) →
      exec (.removeDrop [a, b]) s = .next u) ∧
    ((∃ d ∈ rest, d.state = .live) → (∀ d ∈ rest, d.state = .live ∨ (d.state = .joining ∧ d.origin = .add)) →
      (s.lines[c.line].state = .polling → exec (.removeDrop [a, b]) s = .next ({ u with
        conns := u.conns.set id { u.conns[id] with state := .active, granted := 0, ceiling := 0, moved := true }
        drops := u.drops.map (fun d => if d.conn = id then { d with share := 0 } else d)
        att := (s.att.raise .stateChanged).enter id } : State).answered) ∧
      (s.lines[c.line].state ≠ .polling → exec (.removeDrop [a, b]) s = .next ({ u with
        conns := u.conns.set id { u.conns[id] with
          state := .suspended, lineCause := true, granted := 0, ceiling := 0, curtailed := false, ramp := false
          expired := false, holdLeft := s.holdSetting, moved := true }
        drops := u.drops.map (fun d => if d.conn = id then { d with share := 0 } else d)
        engine := { s.engine with curtail := s.engine.curtail.filter (fun e => e.id ≠ id) }
        att := (s.att.raise .stateChanged).enter id } : State).answered)) := by
  subst hc
  have hserves : s.conns[id].refuses = false := Conn.refuses_eq_false_iff.mpr (.inl hst)
  have hrem := State.removed_eq (s := s.acting .removeDrop 1 [a]) hpool hx hserves hline (hrest ▸ hn)
  have hlist : ((s.acting .removeDrop 1 [a]).removed id x n).dropsOf id = rest :=
    (hpool.dropsOf_without hx).trans hrest.symm
  have hstate : ((s.acting .removeDrop 1 [a]).removed id x n).conns[id].state = .pending := by
    rw [State.removed_conn]
    exact hst
  have hself : u.conns[id] = { s.conns[id] with demand := n } := by rw [hu, getElem_set_fin, if_pos rfl]
  have hset (z : Conn) : u.conns.set id z = s.conns.set id z := by rw [hu, Vector.set_set]
  have hset' (z : Conn) : ((s.acting .removeDrop 1 [a]).removed id x n).conns.set id z = s.conns.set id z :=
    Vector.set_set ..
  have hline' : ((s.acting .removeDrop 1 [a]).removed id x n).conns[id].line = s.conns[id].line := by
    rw [State.removed_conn]
  have hpolls : ((s.acting .removeDrop 1 [a]).removed id x n).lines[
      ((s.acting .removeDrop 1 [a]).removed id x n).conns[id].line].state = s.lines[s.conns[id].line].state := by
    simp only [hline']
    rfl
  have hstill : ((s.acting .removeDrop 1 [a]).removed id x n).engine = s.engine := by
    show { s.engine with pend := s.engine.pend || s.conns[id].demandMoves n s.engine.deadband s.conns[id].state } = _
    rw [Conn.demandMoves_other _ _ _ (by rw [hst]; decide), Bool.or_false]
  rw [exec_removeDrop h hpool ha hserves hx hb hlen, State.removeDropFrom_pending hrem hst]
  refine ⟨fun hno => ?_, fun hlive hall => ?_⟩
  · rw [State.testService_waits]
    · have hend : (((s.acting .removeDrop 1 [a]).removed id x n).enterChanged id).closeWith .ok = u := by
        rw [hu]
        show { s with
          port := s.port.closed .ok
          conns := s.conns.set id { s.conns[id] with demand := n }
          drops := dropsWithout s.drops x
          engine := ((s.acting .removeDrop 1 [a]).removed id x n).engine
          att := s.att.enter id } = _
        rw [hstill]
      rw [hend, State.finish_of_settled]
      rw [hu]
      exact h.2.2
    · rw [hlist, serviceReady_iff]
      rintro ⟨⟨d, hd, hds⟩, hready⟩
      rcases hno with hno | ⟨e, he, hbad⟩
      · exact hno d hd hds
      · rcases hready e he with h1 | ⟨h1, h2⟩
        · simp [h1] at hbad
        · simp [h1, h2] at hbad
  · rw [State.testService_ready hstate (by rw [hlist]; exact serviceReady_iff.mpr ⟨hlive, hall⟩)]
    refine ⟨fun hpoll => ?_, fun hpoll => ?_⟩
    · rw [State.enterActive_polling (hpolls.trans hpoll), State.removed_conn, hset', hself, hset, hstill,
        hu]
      refine congrArg _ ((State.closeWith_wanted (s := State.enterChanged _ id) _ (by exact h.2.2.1)).trans ?_)
      exact congrArg (fun t : Attention => State.answered { s with
        port := s.port.closed .ok
        conns := s.conns.set id ({ s.conns[id] with demand := n } : Conn).inService
        drops := ((s.acting .removeDrop 1 [a]).removed id x n).noShares id
        att := t }) (Attention.enter_enter _ _)
    · rw [State.enterActive_other (by rw [hpolls]; exact hpoll), State.removed_conn, hset', hself, hset, hstill,
        hu]
      refine congrArg _ ((State.closeWith_wanted (s := State.enterChanged _ id) _ (by exact h.2.2.1)).trans ?_)
      exact congrArg (fun t : Attention => State.answered { s with
        port := s.port.closed .ok
        conns := s.conns.set id (({ s.conns[id] with demand := n } : Conn).inService.suspendedBy .line s.holdSetting)
        drops := ((s.acting .removeDrop 1 [a]).removed id x n).noShares id
        engine := { s.engine with curtail := s.engine.curtail.filter (fun e => e.id ≠ id) }
        att := t }) (Attention.enter_enter _ _)

end parts

end Sys2Proof.Machine
end

section
/-! PROOFS. REMOVE DROP of the drop being polled: the exchange is cut (O18, last part). -/

namespace Sys2Proof.Machine

/-! ## Slots, their shares aside -/

/-- The slots of the pool with every share set to 0. -/
abbrev shareless (ds : List Drop) : List Drop := ds.map (fun d => { d with share := 0 })

theorem shareless_noShares (s : State) (id : Fin 96) : shareless (s.noShares id) = shareless s.drops := by
  rw [shareless, State.noShares, List.map_map]
  refine List.map_congr_left fun d _ => ?_
  by_cases h : d.conn = id
  · simp only [Function.comp_apply, if_pos h]
  · simp only [Function.comp_apply, if_neg h]

/-- Entry to service changes no slot but its share (01 R13). -/
theorem State.testService_shareless (s : State) (id : Fin 96) : shareless (s.testService id).drops = shareless s.drops := by
  unfold State.testService
  split
  · by_cases h : s.lines[s.conns[id].line].state = .polling
    · rw [State.enterActive_polling h]
      exact shareless_noShares s id
    · rw [State.enterActive_other h]
      exact shareless_noShares s id
  · rfl

/-- A cause lost changes no slot. -/
theorem State.loseCause_drops (s : State) (id : Fin 96) (cause : SuspendCause) : (s.loseCause id cause).drops = s.drops := by
  unfold State.loseCause
  dsimp only
  split
  · split <;> rfl
  · rfl

theorem State.testComms_drops (s : State) (id : Fin 96) : (s.testComms id).drops = s.drops := by
  unfold State.testComms
  split
  · rfl
  · exact State.loseCause_drops ..

/-! ## The cut -/

/-- The exchange with a drop whose reply is awaited or being received is cut (05 R96). -/
theorem State.cutExchange_open {s : State} {l : Fin 8} {x : Line} {a : Nat} (hx : s.lines[l] = x)
    (hpoll : x.state = .polling) (haddr : x.polled = a) (hphase : x.phase = .awaiting ∨ x.phase = .receiving)
    (hstop : x.stop = false) : s.cutExchange l a = { s with lines := s.lines.set l x.space } := by
  unfold State.cutExchange State.takeStop
  dsimp only
  rw [hx, if_pos ⟨hpoll, haddr⟩, if_neg (by rcases hphase with k | k <;> rw [k] <;> decide),
    if_pos (Line.inExchange_of hphase), State.modLine_eq hx, State.lines_set_self]
  exact if_neg (Bool.eq_false_iff.mp hstop)

/-- The exchange with a drop whose poll is going out is marked to be cut (05 R96). -/
theorem State.cutExchange_sending {s : State} {l : Fin 8} {x : Line} {a : Nat} (hx : s.lines[l] = x)
    (hpoll : x.state = .polling) (haddr : x.polled = a) (hphase : x.phase = .sending) :
    s.cutExchange l a = { s with lines := s.lines.set l { x with cut := true } } := by
  unfold State.cutExchange
  dsimp only
  rw [hx, if_pos ⟨hpoll, haddr⟩, if_pos hphase, State.modLine_eq hx]

/-- The poll of a cut exchange has gone out: the line goes on to SPACING (05 R96). -/
theorem exec_pollSent_cut {t : State} {l : Fin 8} {x : Line} (h : t.Settled) (hx : t.lines[l] = x)
    (hpoll : x.state = .polling) (hphase : x.phase = .sending) (hcut : x.cut = true) (hstop : x.stop = false) :
    exec (.pollSent l none) t = .next { t with lines := t.lines.set l x.space } := by
  have hout : t.pollOut l = { t with lines := t.lines.set l x.space } := by
    unfold State.pollOut State.takeStop
    rw [hx, if_pos hcut, State.modLine_eq hx, State.lines_set_self]
    exact if_neg (Bool.eq_false_iff.mp hstop)
  refine congrArg _ ((if_pos (hx ▸ hphase)).trans ?_)
  rw [hx, hpoll, if_neg (by decide), hout]
  exact State.finish_of_settled h

/-! ## What the later effects of a removal leave of slots and lines -/

theorem State.recompute_state (s : State) (id : Fin 96) (noted : ConnState) :
    (s.recompute id noted).conns[id].state = s.conns[id].state := by
  rw [State.recompute_conns]
  cases s.conns[id].refuses
  · rw [if_neg (by decide), getElem_set_fin, if_pos rfl]
  · rw [if_pos rfl]

/-- A connection that is not PENDING does not become so by the loss of COMMS. -/
theorem State.testComms_not_pending {s : State} {id : Fin 96} (h : s.conns[id].state ≠ .pending) :
    (s.testComms id).conns[id].state ≠ .pending := by
  by_cases hst : s.conns[id].state = .suspended
  · unfold State.testComms
    split
    · exact h
    · cases hc : (s.conns[id].dropCause .comms).noCause with
      | false =>
        rw [State.loseCause_left hst hc, getElem_set_fin, if_pos rfl]
        exact h
      | true =>
        rw [State.loseCause_last hst hc]
        show (s.conns.set id _)[id].state ≠ .pending
        rw [getElem_set_fin, if_pos rfl]
        exact nofun
  · rw [State.testComms_other hst]
    exact h

/-- After the slot is freed and the exchange cut, a removal changes no line and no slot but its share, and no share unless
the connection was PENDING (01 R13, R26). -/
theorem State.removeDropFrom_keeps {s : State} {id : Fin 96} {x : Drop} {w : State}
    (hw : (s.freeSlot x.line x.addr).cutExchange x.line x.addr = w) :
    (s.removeDropFrom id x).lines = w.lines ∧ shareless (s.removeDropFrom id x).drops = shareless w.drops ∧
      (w.conns[id].state ≠ .pending → (s.removeDropFrom id x).drops = w.drops) := by
  obtain ⟨v, hv⟩ : ∃ v, (if x.state = .silent then (w.recompute id w.conns[id].state).testComms id
      else w.recompute id w.conns[id].state) = v := ⟨_, rfl⟩
  have hlines : v.lines = w.lines := by
    rw [← hv]
    split <;> simp only [State.testComms_lines, State.recompute_lines]
  have hdrops : v.drops = w.drops := by
    rw [← hv]
    split <;> simp only [State.testComms_drops, (State.recompute_rest _ _ _).1]
  have hstate (h : w.conns[id].state ≠ .pending) : v.conns[id].state ≠ .pending := by
    have hrec := (State.recompute_state w id w.conns[id].state).trans_ne h
    rw [← hv]
    split
    · exact State.testComms_not_pending hrec
    · exact hrec
  have hend : (s.removeDropFrom id x).lines = (v.testService id).lines ∧
      (s.removeDropFrom id x).drops = (v.testService id).drops := by
    rw [State.removeDropFrom_eq (t := w.recompute id w.conns[id].state) (by rw [hw]), hv]
    dsimp only
    split <;> exact ⟨rfl, rfl⟩
  rw [hend.1, hend.2, State.testService_lines, State.testService_shareless, hlines, hdrops]
  refine ⟨rfl, rfl, fun h => ?_⟩
  rw [State.testService_other (hstate h), hdrops]

/-- The end of an event changes no slot and no line. -/
theorem State.finish_drops_lines (s : State) : s.finish.drops = s.drops ∧ s.finish.lines = s.lines := by
  cases h : s.urgent with
  | false =>
    rw [State.finish_of_quiet h]
    exact ⟨rfl, rfl⟩
  | true =>
    rw [State.finish_of_urgent h]
    exact ⟨State.startOrRerun_drops _, State.startOrRerun_lines _⟩

/-- An accepted REMOVE DROP whose cut leaves the lines `ls`. -/
theorem exec_removeDrop_cut {s : State} {a b : Byte} {id : Fin 96} {x : Drop} (h : s.Ready) (hpool : s.PoolRight)
    (ha : a.toNat = id.val) (hc : s.conns[id].refuses = false) (hx : x ∈ s.dropsOf id) (hb : x.addr = b.toNat)
    (hlen : 2 ≤ (s.dropsOf id).length) {ls : Vector Line 8}
    (hcut : ({ s.acting .removeDrop 1 [a] with drops := dropsWithout s.drops x } : State).cutExchange x.line x.addr =
      { s.acting .removeDrop 1 [a] with drops := dropsWithout s.drops x, lines := ls }) :
    ∃ t : State, exec (.removeDrop [a, b]) s = .next t ∧ (s.conns[id].state ≠ .pending → t.drops = dropsWithout s.drops x) ∧
      shareless t.drops = shareless (dropsWithout s.drops x) ∧ t.lines = ls ∧ t.Settled := by
  obtain ⟨hlines, hshareless, hdrops⟩ := State.removeDropFrom_keeps (s := s.acting .removeDrop 1 [a]) (id := id)
    ((congrArg (fun u : State => u.cutExchange x.line x.addr) (State.freeSlot_eq _ x)).trans hcut)
  obtain ⟨hfd, hfl⟩ := State.finish_drops_lines (((s.acting .removeDrop 1 [a]).removeDropFrom id x).closeWith .ok)
  exact ⟨_, exec_removeDrop h hpool ha hc hx hb hlen, fun hst => hfd.trans (hdrops hst),
    (congrArg shareless hfd).trans hshareless, hfl.trans hlines, State.finish_settled _⟩

/-- The removal of the drop being polled (O18, sixth part). -/
theorem removeDrop_polled {s : State} {a b : Byte} {id : Fin 96} {x : Drop} {ds : List Drop} (h : s.Ready)
    (hpool : s.PoolRight) (ha : a.toNat = id.val)
    (hst : s.conns[id].state = .pending ∨ s.conns[id].state = .active ∨ s.conns[id].state = .suspended)
    (hx : x ∈ s.dropsOf id) (hb : x.addr = b.toNat) (hlen : 2 ≤ (s.dropsOf id).length) {y : Line}
    (hy : s.lines[x.line] = y) (hpoll : y.state = .polling) (haddr : y.polled = x.addr) (hstop : y.stop = false)
    (hds : ds = dropsWithout s.drops x) :
    ((y.phase = .awaiting ∨ y.phase = .receiving) → ∃ t : State, exec (.removeDrop [a, b]) s = .next t ∧
      (s.conns[id].state ≠ .pending → t.drops = ds) ∧ shareless t.drops = shareless ds ∧
      t.lines = s.lines.set x.line y.space) ∧
    (y.phase = .sending → ∃ t : State, exec (.removeDrop [a, b]) s = .next t ∧
      (s.conns[id].state ≠ .pending → t.drops = ds) ∧ shareless t.drops = shareless ds ∧
      t.lines = s.lines.set x.line { y with cut := true } ∧
      exec (.pollSent x.line none) t = .next { t with lines := t.lines.set x.line t.lines[x.line].space }) := by
  subst hds
  have hc : s.conns[id].refuses = false := Conn.refuses_eq_false_iff.mpr hst
  refine ⟨fun hphase => ?_, fun hphase => ?_⟩
  · have hcut := State.cutExchange_open (s := { s.acting .removeDrop 1 [a] with drops := dropsWithout s.drops x }) hy hpoll
      haddr hphase hstop
    obtain ⟨t, hexec, hdrops, hshareless, hlines, -⟩ := exec_removeDrop_cut h hpool ha hc hx hb hlen hcut
    exact ⟨t, hexec, hdrops, hshareless, hlines⟩
  · have hcut := State.cutExchange_sending (s := { s.acting .removeDrop 1 [a] with drops := dropsWithout s.drops x }) hy hpoll
      haddr hphase
    obtain ⟨t, hexec, hdrops, hshareless, hlines, hsettled⟩ := exec_removeDrop_cut h hpool ha hc hx hb hlen hcut
    have hline : t.lines[x.line] = { y with cut := true } := by
      rw [hlines]
      exact (getElem_set_fin ..).trans (if_pos rfl)
    refine ⟨t, hexec, hdrops, hshareless, hlines, ?_⟩
    rw [hline]
    exact exec_pollSent_cut hsettled hline hpoll hphase rfl hstop

/-- Settles O18. -/
theorem dropsAddedAndRemoved : Obligations.DropsAddedAndRemoved :=
  ⟨fun _ _ _ h hdem => addDropActs h hdem, fun _ _ _ h => removeDropRefused h,
    fun _ _ _ _ _ _ h hpool ha hc hst hx hb hlen hline => removeDrop_active h hpool ha hc hx hb hlen hline hst,
    fun _ _ _ _ _ _ _ _ h hpool ha hc hst hx hb hlen hline hrest hu =>
      removeDrop_pending h hpool ha hc hx hb hlen hline hst hrest rfl hu,
    fun _ _ _ _ _ _ _ _ h hpool ha hc hst hx hb hlen hline hrest hu =>
      removeDrop_suspended h hpool ha hc hx hb hlen hline hst hrest hu,
    fun _ _ _ _ _ _ h hpool ha hst hx hb hlen hpoll haddr hstop hds =>
      removeDrop_polled h hpool ha hst hx hb hlen rfl hpoll haddr hstop hds⟩

end Sys2Proof.Machine
end

section
/-! PROOFS. A pass that starts: RUN PASS, the snapshot it takes (O21), and the trip that starts one (O29). -/

namespace Sys2Proof.Machine

/-! ## A pass that starts or is wanted -/

/-- The copies of the taken records, one for each id (02 R38). -/
theorem State.mem_snapRecs {s : State} {r : SnapRec} :
    r ∈ s.snapRecs ↔ s.conns[r.id].taken = true ∧ r = s.snapRec r.id := by
  constructor
  · intro hr
    obtain ⟨id, hid, rfl⟩ := List.mem_map.mp hr
    exact ⟨(List.mem_filter.mp hid).2, rfl⟩
  · rintro ⟨htaken, hr⟩
    exact List.mem_map.mpr ⟨r.id, List.mem_filter.mpr ⟨List.mem_finRange _, htaken⟩, hr.symm⟩

/-- The copies stand in ascending id. -/
theorem State.snapRecs_pairwise (s : State) : (s.snapRecs.map (·.id)).Pairwise (· < ·) := by
  have hids : s.snapRecs.map (·.id) = (List.finRange 96).filter (fun id => s.conns[id].taken) := by
    rw [State.snapRecs, List.map_map]
    exact List.map_id _
  rw [hids]
  exact (List.pairwise_lt_finRange 96).filter _

/-- ACTIVE and SUSPENDED records are taken. -/
theorem Conn.taken_iff {c : Conn} : c.taken = true ↔ c.state = .active ∨ c.state = .suspended := by
  simp only [Conn.taken, Bool.or_eq_true, beq_iff_eq]

/-- A pass wanted while one is in flight: rerun is set (02 R31). -/
theorem State.answered_computing {s : State} (hatn : s.att.atn = s.att.atnDue) (h : s.computing = true) :
    s.answered = { s with engine := { s.engine with rerun := true } } := by
  rw [State.answered, State.startOrRerun, if_pos h, State.attend]
  exact congrArg (fun b => ({ s with
    engine := { s.engine with rerun := true }, att := { s.att with atn := b } } : State)) hatn.symm

/-- A pass wanted in IDLE starts (02 R31, R38). -/
theorem State.answered_idle {s : State} (hatn : s.att.atn = s.att.atnDue) (h : s.computing = false) :
    s.answered = s.snapshot := by
  rw [State.answered, State.startOrRerun, if_neg (by rw [h]; decide), State.attend]
  exact congrArg (fun b => ({ s.snapshot with att := { s.att with atn := b } } : State)) hatn.symm

/-! ## RUN PASS -/

/-- A whole command without parameter bytes acts in the event of its command byte (09 R181, R183). -/
theorem State.send_whole_zero {s : State} (h : s.Ready) {c : Cmd} (hk : c.kind = .whole) (hn : c.paramCount = 0)
    (home : Bool) :
    s.send c [] home = (({ s with port := s.port.period 0 } : State).finishWhole c [] false).finish := by
  show s.commandByte c.code = _
  rw [State.commandByte_ready h, Cmd.ofCode_code]
  dsimp only
  rw [State.openCmd_whole _ _ hn hk]

/-- What a pass that starts now computes from (02 R38). -/
def State.taking (s : State) : Snapshot :=
  { recs := s.snapRecs, offer := s.effectiveOffer, ramp := s.engine.rampPct, limits := s.branches.map (·.limit)
    listed := s.engine.curtail.map (·.id) }

theorem State.snapshot_snap (s : State) : s.snapshot.engine.snap = some s.taking := rfl

/-- RUN PASS is an urgent trigger (02 R36). -/
theorem exec_runPass {s : State} (h : s.Ready) :
    exec .runPass s = .next ({ s with port := s.port.closed .ok } : State).answered := by
  show Host.Outcome.next (s.send .runPass [] false) = _
  rw [State.send_whole_zero h rfl rfl]
  exact congrArg _ (State.closeWith_wanted .ok (s := { s with port := s.port.period 0 }) h.2.2.1)

/-- Settles O21. -/
theorem runPassTakesSnapshot : Obligations.RunPassTakesSnapshot := by
  have hidle {s : State} (h : s.Ready) (hc : s.computing = false) :
      exec .runPass s = .next ({ s with port := s.port.closed .ok } : State).snapshot := by
    rw [exec_runPass h, State.answered_idle (by exact h.2.2.2) (by exact hc)]
  refine ⟨fun s h => ⟨fun hc => ?_, fun hc => ⟨_, hidle h hc, rfl, rfl, rfl, rfl⟩⟩, fun s h hc =>
    ⟨_, s.taking, hidle h hc, rfl, rfl, fun id => ?_, rfl, rfl, rfl, fun b => ?_, rfl, s.snapRecs_pairwise,
      fun id => ?_, fun r hr => ?_⟩⟩
  · rw [exec_runPass h, State.answered_computing (by exact h.2.2.2) (by exact hc)]
  · rw [State.snapshot_conn]
    simp only [Conn.taken_iff]
  · exact Vector.getElem_map _ _
  · rw [← Conn.taken_iff]
    refine ⟨?_, fun htaken => ⟨s.snapRec id, State.mem_snapRecs.mpr ⟨htaken, rfl⟩, rfl⟩⟩
    rintro ⟨r, hr, rfl⟩
    exact (State.mem_snapRecs.mp hr).1
  · obtain ⟨-, hcopy⟩ := State.mem_snapRecs.mp hr
    rw [hcopy]
    exact ⟨rfl, rfl, rfl, rfl, rfl, rfl, rfl, rfl, rfl, rfl, rfl, rfl, rfl, rfl⟩

/-! ## The trip -/

/-- A trip assertion at the engine: a pass in flight is abandoned and counted, and a new one starts (02 R41). -/
theorem State.tripAssertion_eq (s : State) : s.tripAssertion = ({ s with
    engine := { s.engine with
      abandoned := if s.computing then (s.engine.abandoned + 1) % 65536 else s.engine.abandoned }
    att := if s.computing then s.att.raise .passAbandoned else s.att } : State).snapshot := by
  unfold State.tripAssertion
  cases s.computing <;> rfl

/-- A qualified assertion, whole (04 R81, 02 R41). -/
theorem State.assertTrip_finish {s : State} (h : s.urgent = false) : s.assertTrip.finish = ({ s with
    plant := { s.plant with level := true, raw := true, run := 0, latch := true }
    engine := { s.engine with
      abandoned := if s.computing then (s.engine.abandoned + 1) % 65536 else s.engine.abandoned }
    att := if s.computing then (s.att.raise .trip).raise .passAbandoned else s.att.raise .trip } :
      State).snapshot.attend := by
  rw [State.assertTrip, State.tripAssertion_eq]
  exact State.finish_of_quiet h

/-- Settles O29. -/
theorem tripQualifierAndEdges : Obligations.TripQualifierAndEdges := by
  refine ⟨fun s b h => ⟨fun hb => ?_, fun hb hrun => ?_, fun hb hrun => ?_⟩, fun s h hlevel => ?_, fun s h hlevel => ?_⟩
  · show Host.Outcome.next (s.sampleTrip b).finish = _
    rw [State.sampleTrip, if_pos hb]
    exact congrArg _ (State.finish_of_settled h)
  · show Host.Outcome.next (s.sampleTrip b).finish = _
    rw [State.sampleTrip, if_neg hb, if_pos (by exact hrun)]
    exact congrArg _ (State.finish_of_settled h)
  · show Host.Outcome.next (s.sampleTrip b).finish = _
    rw [State.sampleTrip, if_neg hb, if_neg (by exact Nat.not_lt.mpr hrun)]
    cases b with
    | true => exact congrArg Host.Outcome.next (if_neg fun k => hb k.symm).symm
    | false => exact congrArg Host.Outcome.next (if_pos (Bool.eq_true_of_not_eq_false fun k => hb k.symm)).symm
  · show Host.Outcome.next (if s.plant.level then s else s.assertTrip.finish) = _
    rw [if_neg (by rw [hlevel]; decide), State.assertTrip_finish h.1]
  · show Host.Outcome.next (if s.plant.level then s.deassertTrip.finish else s) = _
    rw [if_pos hlevel]
    exact congrArg _ (State.finish_of_settled h)

end Sys2Proof.Machine
end

section
/-! PROOFS. Publication (O27): the records it writes, the branches, the causes and the rerun pass. -/

namespace Sys2Proof.Machine

/-! ## One record written -/

/-- The share a publication gives a drop of a record it writes, out of the record's fallback flow and drop list (02 R51,
R52). -/
def Snapshot.shareOf (p : Snapshot) (r : SnapRec) (fallback : Option Nat) (ds : List Drop) (d : Drop) : Nat :=
  if r.state = .suspended then
    if r.expired then fallbackShare (fallback.getD 0) ds d else d.share
  else activeShare (p.ceilingOf r) ds d

/-- The record a publication leaves where it writes (02 R53). -/
def Snapshot.writes (p : Snapshot) (r : SnapRec) (c : Conn) : Conn :=
  { c with granted := p.power r, ceiling := p.ceilingOf r, curtailed := p.curtailedIn r, ramp := p.rampIn r }

/-- The results of a pass written into one record and its drops. -/
theorem State.writeRec_eq (p : Snapshot) (s : State) (r : SnapRec) : State.writeRec p s r = { s with
    conns := s.conns.set r.id (p.writes r s.conns[r.id])
    drops := s.drops.map (fun d => if d.conn = r.id then
      { d with share := p.shareOf r s.conns[r.id].fallback (s.dropsOf r.id) d } else d) } := by
  unfold State.writeRec Snapshot.shareOf
  rw [← map_conn_beq]
  split
  · split
    · rfl
    · dsimp only
      rw [show (fun d : Drop => if (d.conn == r.id) = true then { d with share := d.share } else d) = id from
        funext fun d => ite_self _, List.map_id]
      rfl
  · rfl

/-- The drops of a connection whose drops were changed. -/
theorem State.dropsOf_set_self {s t : State} {id : Fin 96} {f : Drop → Drop} (hf : ∀ d, (f d).conn = d.conn)
    (ht : t.drops = s.drops.map (fun d => if d.conn = id then f d else d)) : t.dropsOf id = (s.dropsOf id).map f := by
  rw [dropsOf_of_map (fun d => by split <;> simp only [hf]) ht]
  exact List.map_congr_left fun d hd => if_pos (State.mem_dropsOf.mp hd).2

/-- The drops of another connection. -/
theorem State.dropsOf_set_other {s t : State} {i j : Fin 96} {f : Drop → Drop} (hf : ∀ d, (f d).conn = d.conn)
    (ht : t.drops = s.drops.map (fun d => if d.conn = i then f d else d)) (h : i ≠ j) : t.dropsOf j = s.dropsOf j := by
  rw [dropsOf_of_map (fun d => by split <;> simp only [hf]) ht]
  refine (List.map_congr_left fun d hd => if_neg fun k => ?_).trans (List.map_id _)
  exact h (k.symm.trans (State.mem_dropsOf.mp hd).2)

/-- The record and the drop list of an id that is not written. -/
theorem State.writeRec_other {p : Snapshot} {s : State} {r : SnapRec} {id : Fin 96} (h : r.id ≠ id) :
    (State.writeRec p s r).conns[id] = s.conns[id] ∧ (State.writeRec p s r).dropsOf id = s.dropsOf id := by
  rw [State.writeRec_eq]
  exact ⟨(getElem_set_fin ..).trans (if_neg h), State.dropsOf_set_other
    (f := fun d => { d with share := p.shareOf r s.conns[r.id].fallback (s.dropsOf r.id) d }) (fun _ => rfl) rfl h⟩

/-- The record and the drop list that are written. -/
theorem State.writeRec_self (p : Snapshot) (s : State) (r : SnapRec) :
    (State.writeRec p s r).conns[r.id] = p.writes r s.conns[r.id] ∧ (State.writeRec p s r).dropsOf r.id =
      (s.dropsOf r.id).map (fun d => { d with share := p.shareOf r s.conns[r.id].fallback (s.dropsOf r.id) d }) := by
  rw [State.writeRec_eq]
  exact ⟨(getElem_set_fin ..).trans (if_pos rfl), State.dropsOf_set_self (fun _ => rfl) rfl⟩

/-! ## All the records written -/

/-- Ids that no written record names are left alone. -/
theorem State.writeRecs_other {p : Snapshot} {ws : List SnapRec} {s : State} {id : Fin 96} (h : ∀ r ∈ ws, r.id ≠ id) :
    (ws.foldl (State.writeRec p) s).conns[id] = s.conns[id] ∧
      (ws.foldl (State.writeRec p) s).dropsOf id = s.dropsOf id := by
  induction ws generalizing s with
  | nil => exact ⟨rfl, rfl⟩
  | cons q ws ih =>
    obtain ⟨hconn, hdrops⟩ := ih (s := State.writeRec p s q) fun r hr => h r (List.mem_cons_of_mem _ hr)
    obtain ⟨hconn', hdrops'⟩ := State.writeRec_other (p := p) (s := s) (h q List.mem_cons_self)
    exact ⟨hconn.trans hconn', hdrops.trans hdrops'⟩

/-- Every written record gets its own results, out of the record and the drop list the publication found. -/
theorem State.writeRecs_self {p : Snapshot} {ws : List SnapRec} (hid : (ws.map (·.id)).Nodup) {s : State} {r : SnapRec}
    (hr : r ∈ ws) :
    (ws.foldl (State.writeRec p) s).conns[r.id] = p.writes r s.conns[r.id] ∧
      (ws.foldl (State.writeRec p) s).dropsOf r.id =
        (s.dropsOf r.id).map (fun d => { d with share := p.shareOf r s.conns[r.id].fallback (s.dropsOf r.id) d }) := by
  induction ws generalizing s with
  | nil => cases hr
  | cons q ws ih =>
    obtain ⟨hq, hws⟩ := List.nodup_cons.mp hid
    rcases List.mem_cons.mp hr with rfl | hr
    · obtain ⟨hconn, hdrops⟩ := State.writeRecs_other (p := p) (s := State.writeRec p s r) (ws := ws) (id := r.id)
        fun x hx e => hq (List.mem_map.mpr ⟨x, hx, e⟩)
      obtain ⟨hconn', hdrops'⟩ := State.writeRec_self p s r
      exact ⟨hconn.trans hconn', hdrops.trans hdrops'⟩
    · obtain ⟨hconn, hdrops⟩ := State.writeRec_other (p := p) (s := s) (r := q) (id := r.id)
        fun e => hq (List.mem_map.mpr ⟨r, hr, e.symm⟩)
      have hrest := ih hws (s := State.writeRec p s q) hr
      rw [hconn, hdrops] at hrest
      exact hrest

/-- Besides records and drops the results change nothing. -/
theorem State.writeRecs_frame (p : Snapshot) (ws : List SnapRec) (s : State) : ws.foldl (State.writeRec p) s =
    { s with conns := (ws.foldl (State.writeRec p) s).conns, drops := (ws.foldl (State.writeRec p) s).drops } := by
  induction ws generalizing s with
  | nil => rfl
  | cons r ws ih =>
    have hone := State.writeRec_eq p s r
    rw [List.foldl_cons, ih]
    generalize (ws.foldl (State.writeRec p) (State.writeRec p s r)).conns = c
    generalize (ws.foldl (State.writeRec p) (State.writeRec p s r)).drops = d
    rw [hone]

/-! ## The branches -/

/-- A branch after the branch results (02 R54). -/
def Snapshot.branchAfter (p : Snapshot) (b : Fin 8) (x : Branch) : Branch :=
  { x with limited := p.limitedIn b, stranded := p.strandedIn b }

/-- The results of one branch (02 R54): BRANCH_LIMITED is raised on a change from clear to set. -/
theorem State.writeBranch_eq (p : Snapshot) (s : State) (b : Fin 8) : State.writeBranch p s b = { s with
    branches := s.branches.set b (p.branchAfter b s.branches[b])
    att := if p.limitedIn b && !s.branches[b].limited then s.att.raiseUnit .branchLimited b else s.att } := by
  unfold State.writeBranch
  dsimp only
  split <;> rfl

/-- Besides branches and causes the branch results change nothing. -/
theorem State.writeBranches_frame (p : Snapshot) (bs : List (Fin 8)) (s : State) : bs.foldl (State.writeBranch p) s =
    { s with
      branches := (bs.foldl (State.writeBranch p) s).branches, att := (bs.foldl (State.writeBranch p) s).att } := by
  induction bs generalizing s with
  | nil => rfl
  | cons b bs ih =>
    have hone := State.writeBranch_eq p s b
    rw [List.foldl_cons, ih]
    generalize (bs.foldl (State.writeBranch p) (State.writeBranch p s b)).branches = c
    generalize (bs.foldl (State.writeBranch p) (State.writeBranch p s b)).att = d
    rw [hone]

/-- A branch that is not written is left alone, and one that is gets its results. -/
theorem State.writeBranch_branch (p : Snapshot) (s : State) (a b : Fin 8) : (State.writeBranch p s a).branches[b] =
    if a = b then p.branchAfter b s.branches[b] else s.branches[b] := by
  rw [State.writeBranch_eq, getElem_set_fin]
  split
  next e => rw [e]
  next => rfl

theorem State.writeBranches_branch (p : Snapshot) {bs : List (Fin 8)} (hbs : bs.Nodup) (s : State) (b : Fin 8) :
    (bs.foldl (State.writeBranch p) s).branches[b] =
      if b ∈ bs then p.branchAfter b s.branches[b] else s.branches[b] := by
  induction bs generalizing s with
  | nil => rfl
  | cons a bs ih =>
    obtain ⟨ha, hbs⟩ := List.nodup_cons.mp hbs
    rw [List.foldl_cons, ih hbs, State.writeBranch_branch]
    by_cases hab : a = b
    · subst hab
      rw [if_neg ha, if_pos rfl, if_pos List.mem_cons_self]
    · simp only [hab, if_false, List.mem_cons, Ne.symm hab, false_or]

/-- What the branch results of distinct branches raise: BRANCH_LIMITED with the branches that newly became LIMITED. -/
theorem State.writeBranches_att (p : Snapshot) {bs : List (Fin 8)} (hbs : bs.Nodup) {new : Fin 8 → Bool} (s : State)
    (hnew : ∀ b ∈ bs, (p.limitedIn b && !s.branches[b].limited) = new b) :
    (∀ c, (bs.foldl (State.writeBranch p) s).att.isPending c =
      (s.att.isPending c || (decide (Cause.branchLimited = c) && bs.any new))) ∧
    (∀ b : Fin 8, ((bs.foldl (State.writeBranch p) s).att.unitsOf .branchLimited).getLsbD b.val =
      ((s.att.unitsOf .branchLimited).getLsbD b.val || (decide (b ∈ bs) && new b))) ∧
    (∀ c, c ≠ .branchLimited → (bs.foldl (State.writeBranch p) s).att.unitsOf c = s.att.unitsOf c) := by
  induction bs generalizing s with
  | nil => simp
  | cons a bs ih =>
    obtain ⟨ha, hbs⟩ := List.nodup_cons.mp hbs
    have hatt : (State.writeBranch p s a).att = if new a then s.att.raiseUnit .branchLimited a else s.att := by
      rw [State.writeBranch_eq, ← hnew a List.mem_cons_self]
    obtain ⟨hpending, hunits, hother⟩ := ih hbs (State.writeBranch p s a) fun b hb => by
      rw [State.writeBranch_branch, if_neg fun e : a = b => ha (e ▸ hb)]
      exact hnew b (List.mem_cons_of_mem _ hb)
    refine ⟨fun c => ?_, fun b => ?_, fun c hc => ?_⟩
    · rw [List.foldl_cons, hpending, hatt, List.any_cons]
      cases new a
      · rw [if_neg (by decide), Bool.false_or]
      · rw [if_pos rfl, Attention.raiseUnit_isPending, Bool.true_or]
        cases decide (Cause.branchLimited = c) <;> simp
    · rw [List.foldl_cons, hunits, hatt]
      by_cases hab : a = b
      · subst hab
        cases new a <;> simp [ha]
      · have hbit : ((if new a then s.att.raiseUnit .branchLimited a else s.att).unitsOf .branchLimited).getLsbD b.val =
            (s.att.unitsOf .branchLimited).getLsbD b.val := by
          split
          · rw [Attention.raiseUnit_unitsOf, if_pos rfl, BitVec.getLsbD_or, unitBit, decide_eq_false hab, Bool.or_false]
          · rfl
        rw [hbit]
        simp only [List.mem_cons, Ne.symm hab, false_or]
    · rw [List.foldl_cons, hother c hc, hatt]
      split
      · rw [Attention.raiseUnit_unitsOf, if_neg hc.symm]
      · rfl

/-! ## The causes and the rerun pass -/

/-- The causes a publication raises besides BRANCH_LIMITED (02 R54): OVERCOMMIT with its reservations above the offer,
PASS_PUBLISHED always, and HEADROOM_ZERO with its headroom 0 while a connection stands on the list. -/
def Attention.published (a : Attention) (beyond zero : Bool) : Attention :=
  let b := (if beyond then a.raise .overcommit else a).raise .passPublished
  if zero then b.raise .headroomZero else b

theorem State.publishCauses_eq (s : State) (p : Snapshot) : s.publishCauses p =
    { s with att := s.att.published p.over (p.headroom == 0 && !s.engine.curtail.isEmpty) } := by
  have hzero : (p.headroom = 0 ∧ s.engine.curtail ≠ []) ↔ (p.headroom == 0 && !s.engine.curtail.isEmpty) = true := by
    simp
  unfold State.publishCauses Attention.published
  cases p.over <;> simp only [State.raise, hzero, if_true, if_false, Bool.false_eq_true] <;> split <;> rfl

theorem Attention.published_isPending (a : Attention) (beyond zero : Bool) (c : Cause) :
    (a.published beyond zero).isPending c =
    (a.isPending c || match c with
      | .passPublished => true
      | .overcommit => beyond
      | .headroomZero => zero
      | _ => false) := by
  unfold Attention.published
  cases beyond <;> cases zero <;> cases c <;> simp

theorem Attention.published_unitsOf (a : Attention) (beyond zero : Bool) (c : Cause) :
    (a.published beyond zero).unitsOf c = a.unitsOf c := by
  unfold Attention.published
  cases beyond <;> cases zero <;> simp

/-- The state with the results of a pass written, before the engine leaves COMPUTING. -/
def State.published (s : State) (p : Snapshot) : State :=
  let t := (s.written p).foldl (State.writeRec p) s
  let t := { t with engine := t.engine.results p (s.written p) }
  ((List.finRange 8).foldl (State.writeBranch p) t).publishCauses p

theorem State.publish_eq {s : State} {p : Snapshot} (h : s.engine.snap = some p) :
    s.publish = (s.published p).afterPublish := by
  rw [State.publish, h]
  rfl

/-- What the results of a pass change: records and drops, the engine, branches and causes. -/
theorem State.published_frame (s : State) (p : Snapshot) : s.published p = { s with
    conns := ((s.written p).foldl (State.writeRec p) s).conns
    drops := ((s.written p).foldl (State.writeRec p) s).drops
    engine := s.engine.results p (s.written p)
    branches := (s.published p).branches
    att := (s.published p).att } := by
  have hrecs := State.writeRecs_frame p (s.written p) s
  unfold State.published
  rw [State.publishCauses_eq, State.writeBranches_frame]
  dsimp only
  rw [hrecs]

/-- The branches and the causes after the results of a pass (02 R54). -/
theorem State.published_results (s : State) (p : Snapshot) :
    (∀ b : Fin 8, (s.published p).branches[b] = p.branchAfter b s.branches[b]) ∧
    (∀ c : Cause, (s.published p).att.isPending c = (s.att.isPending c ||
      match c with
      | .passPublished => true
      | .overcommit => p.over
      | .headroomZero => p.headroom == 0 && !(s.published p).engine.curtail.isEmpty
      | .branchLimited => (List.finRange 8).any (fun b => p.limitedIn b && !s.branches[b].limited)
      | _ => false)) ∧
    (∀ b : Fin 8, ((s.published p).att.unitsOf .branchLimited).getLsbD b.val =
      ((s.att.unitsOf .branchLimited).getLsbD b.val || (p.limitedIn b && !s.branches[b].limited))) ∧
    (∀ c : Cause, c ≠ .branchLimited → (s.published p).att.unitsOf c = s.att.unitsOf c) := by
  have hcurtail : (s.published p).engine.curtail = (s.engine.results p (s.written p)).curtail := by
    rw [State.published_frame]
  rw [hcurtail]
  have hrecs := State.writeRecs_frame p (s.written p) s
  unfold State.published
  dsimp only
  generalize hu : ({ (s.written p).foldl (State.writeRec p) s with
    engine := ((s.written p).foldl (State.writeRec p) s).engine.results p (s.written p) } : State) = u
  have hbranches : u.branches = s.branches := by rw [← hu, hrecs]
  have hatt : u.att = s.att := by rw [← hu, hrecs]
  have hengine : u.engine = s.engine.results p (s.written p) := by rw [← hu, hrecs]
  have hnodup := List.nodup_finRange 8
  obtain ⟨hpending, hunits, hother⟩ := State.writeBranches_att p hnodup
    (new := fun b => p.limitedIn b && !s.branches[b].limited) u (fun b _ => by rw [hbranches])
  have hframe := congrArg State.engine (State.writeBranches_frame p (List.finRange 8) u)
  rw [State.publishCauses_eq]
  dsimp only
  refine ⟨fun b => ?_, fun c => ?_, fun b => ?_, fun c hc => ?_⟩
  · rw [State.writeBranches_branch p hnodup, if_pos (List.mem_finRange b), hbranches]
  · rw [Attention.published_isPending, hpending, hframe, hengine, hatt]
    cases c <;> simp
  · rw [Attention.published_unitsOf, hunits, hatt, decide_eq_true (List.mem_finRange b), Bool.true_and]
  · rw [Attention.published_unitsOf, hother c hc, hatt]

/-! ## The end of the pass -/

/-- The engine after the results: IDLE, or with the rerun pass in flight (02 R55). -/
theorem State.afterPublish_engine (u : State) : u.afterPublish.engine = if u.engine.rerun
    then { u.engine with
      pend := false, rerun := false, snapCount := u.snapRecs.length, snap := some u.taking, passMs := 0 }
    else { u.engine with snap := none, passMs := 0 } := by
  unfold State.afterPublish
  cases u.engine.rerun <;> rfl

/-- Of the engine the end of the pass changes nothing else. -/
theorem State.afterPublish_engine_frame (u : State) : u.afterPublish.engine = { u.engine with
    pend := u.afterPublish.engine.pend, rerun := u.afterPublish.engine.rerun
    snapCount := u.afterPublish.engine.snapCount, snap := u.afterPublish.engine.snap
    passMs := u.afterPublish.engine.passMs } := by
  rw [State.afterPublish_engine]
  split <;> rfl

/-- A record after the results: a rerun pass writes what its snapshot writes. -/
theorem State.afterPublish_conn (u : State) (id : Fin 96) : ∃ moved demandSnap, u.afterPublish.conns[id] =
    { u.conns[id] with moved := moved, demandSnap := demandSnap } := by
  unfold State.afterPublish
  cases u.engine.rerun with
  | false => exact ⟨_, _, rfl⟩
  | true =>
    have hsnap := State.startOrRerun_conn ({ u with engine := { u.engine with snap := none, passMs := 0 } } : State) id
    rcases hsnap with h | h <;> exact ⟨_, _, h⟩

/-- The drops after the results are not touched again. -/
theorem State.afterPublish_dropsOf (u : State) (id : Fin 96) : u.afterPublish.attend.dropsOf id = u.dropsOf id := by
  unfold State.afterPublish
  cases u.engine.rerun <;> rfl

/-- What else the end of the pass changes: the offer of a rerun snapshot and the mark of the moment. -/
theorem State.afterPublish_frame (u : State) : u.afterPublish = { u with
    conns := u.afterPublish.conns
    engine := u.afterPublish.engine
    plant := { u.plant with snapOffer := u.afterPublish.plant.snapOffer }
    now := { u.now with pendTaken := u.engine.rerun && u.engine.pend } } := by
  unfold State.afterPublish
  dsimp only
  split <;> rfl

/-- A publication, whole (02 R53, R54, R55). -/
theorem exec_publication {s : State} (h : s.urgent = false) {p : Snapshot} (hsnap : s.engine.snap = some p) :
    exec .publication s = .next (s.published p).afterPublish.attend := by
  show Host.Outcome.next s.publish.finish = _
  rw [State.publish_eq hsnap, State.finish_of_quiet]
  rw [State.afterPublish_frame, State.published_frame]
  exact h

/-- The records a publication writes are those that match their copies and have not moved (02 R53). -/
theorem Conn.matches_iff {c : Conn} {r : SnapRec} :
    c.matches r = true ↔ c.gen = r.gen ∧ c.state = r.state ∧ c.moved = false := by
  simp only [Conn.matches, Bool.and_eq_true, beq_iff_eq, Bool.not_eq_true', and_assoc]

/-- A matching record after a publication. -/
theorem State.published_written {s : State} {p : Snapshot} (hid : (p.recs.map (·.id)).Nodup) {r : SnapRec}
    (hr : r ∈ p.recs) (hm : s.conns[r.id].matches r = true) :
    (s.published p).conns[r.id] = p.writes r s.conns[r.id] ∧ (s.published p).dropsOf r.id =
      (s.dropsOf r.id).map (fun d => { d with share := p.shareOf r s.conns[r.id].fallback (s.dropsOf r.id) d }) := by
  have hnodup : ((s.written p).map (·.id)).Nodup := hid.sublist (List.filter_sublist.map _)
  rw [State.published_frame]
  exact State.writeRecs_self hnodup (List.mem_filter.mpr ⟨hr, hm⟩)

/-- A record that no copy matches. -/
theorem State.published_skipped {s : State} {p : Snapshot} {id : Fin 96}
    (h : ∀ r ∈ p.recs, r.id = id → ¬ s.conns[id].matches r = true) :
    (s.published p).conns[id] = s.conns[id] ∧ (s.published p).dropsOf id = s.dropsOf id := by
  rw [State.published_frame]
  refine State.writeRecs_other fun r hr e => ?_
  obtain ⟨hmem, hmatch⟩ := List.mem_filter.mp hr
  subst e
  exact h r hmem rfl hmatch

/-- A publication changes of a record only what it writes into it. -/
theorem State.published_conn_frame {s : State} {p : Snapshot} (hid : (p.recs.map (·.id)).Nodup) (id : Fin 96) :
    (s.published p).conns[id] = { s.conns[id] with
      granted := (s.published p).conns[id].granted, ceiling := (s.published p).conns[id].ceiling
      curtailed := (s.published p).conns[id].curtailed, ramp := (s.published p).conns[id].ramp } := by
  by_cases hw : ∃ r ∈ p.recs, r.id = id ∧ s.conns[id].matches r = true
  · obtain ⟨r, hr, rfl, hm⟩ := hw
    rw [(State.published_written hid hr hm).1]
    rfl
  · rw [(State.published_skipped fun r hr e hm => hw ⟨r, hr, e, hm⟩).1]

/-- Settles O27. -/
theorem publicationWritesResults : Obligations.PublicationWritesResults := by
  refine ⟨fun s p h hsnap hid => ⟨_, exec_publication h.1 hsnap, fun r hr hm => ?_, fun id hno => ?_, fun id => ?_, ?_⟩,
    fun s p ws h hsnap hid hws => ⟨_, exec_publication h.1 hsnap, ?_⟩, fun s h hsnap => ?_⟩
  · obtain ⟨moved, demandSnap, hend⟩ := State.afterPublish_conn (s.published p) r.id
    obtain ⟨hconn, hdrops⟩ := State.published_written hid hr (Conn.matches_iff.mpr hm)
    rw [State.attend_conns, hend, hconn, State.afterPublish_dropsOf, hdrops]
    refine ⟨rfl, rfl, rfl, rfl, fun hst => ?_, fun hst hexp => ?_, fun hst hexp => ?_⟩
    · simp only [Snapshot.shareOf, if_neg hst]
    · simp only [Snapshot.shareOf, if_pos hst, if_pos hexp]
    · simp only [Snapshot.shareOf, if_pos hst, hexp, Bool.false_eq_true, if_false]
      exact List.map_id _
  · obtain ⟨moved, demandSnap, hend⟩ := State.afterPublish_conn (s.published p) id
    obtain ⟨hconn, hdrops⟩ := State.published_skipped fun r hr e => mt Conn.matches_iff.mp (hno r hr e)
    rw [State.attend_conns, hend, hconn, State.afterPublish_dropsOf, hdrops]
    exact ⟨rfl, rfl, rfl, rfl, rfl⟩
  · obtain ⟨moved, demandSnap, hend⟩ := State.afterPublish_conn (s.published p) id
    rw [State.attend_conns, hend, State.published_conn_frame hid]
  · rw [State.afterPublish_frame, State.published_frame]
    rfl
  · have hws' : s.written p = ws := hws.symm
    have hresults : (s.published p).engine = s.engine.results p ws := by rw [State.published_frame, hws']
    have hframe : (s.published p).afterPublish.attend.engine = _ := State.afterPublish_engine_frame (s.published p)
    have hengine : (s.published p).afterPublish.attend.engine = _ := State.afterPublish_engine (s.published p)
    have hnow : (s.published p).afterPublish.now = _ := congrArg State.now (State.afterPublish_frame (s.published p))
    have hwrites := congrArg State.now (State.published_frame s p)
    have hatt : ∀ c, (s.published p).afterPublish.attend.att.isPending c = (s.published p).att.isPending c ∧
        (s.published p).afterPublish.attend.att.unitsOf c = (s.published p).att.unitsOf c := fun c => by
      rw [State.afterPublish_frame]
      exact ⟨rfl, rfl⟩
    have hbranches : (s.published p).afterPublish.attend.branches = (s.published p).branches := by
      rw [State.afterPublish_frame]
      rfl
    obtain ⟨hbranch, hpending, hunits, hother⟩ := State.published_results s p
    have hrerun : (s.engine.results p ws).rerun = (s.engine.rerun || decide (ws.length < p.recs.length)) := rfl
    rw [hresults, hrerun] at hengine
    rw [hresults] at hframe
    rw [hresults, hrerun, hwrites] at hnow
    refine ⟨congrArg Engine.headroom hframe, congrArg Engine.overcommit hframe, congrArg Engine.rampUnfinished hframe,
      congrArg Engine.passCount hframe, congrArg Engine.skipped hframe, (congrArg Engine.abandoned hframe).trans rfl,
      congrArg Engine.curtail hframe, fun b => ?_, fun c => ?_, fun b => ?_, fun c hc => ?_,
      (congrArg Engine.interval hframe).trans rfl, (congrArg Engine.rampPct hframe).trans rfl,
      (congrArg Engine.deadband hframe).trans rfl, (congrArg Engine.counter hframe).trans rfl, ?_, fun hc => ?_,
      fun hc => ?_, hnow⟩
    · rw [hbranches, hbranch]
      rfl
    · have hlist : (s.published p).engine.curtail = (s.published p).afterPublish.attend.engine.curtail :=
        (congrArg Engine.curtail hresults).trans (congrArg Engine.curtail hframe).symm
      refine (hatt c).1.trans ((hpending c).trans ?_)
      cases c with
      | headroomZero => exact congrArg (fun es : List CurtailEntry =>
          s.att.isPending .headroomZero || (p.headroom == 0 && !es.isEmpty)) hlist
      | _ => rfl
    · rw [(hatt _).2, hunits]
    · rw [(hatt c).2, hother c hc]
    · rw [State.computing, hengine, ← decide_eq_true_iff (p := s.engine.rerun = true ∨ _)]
      rw [Bool.decide_or, Bool.decide_eq_true]
      split
      next h => simp only [h, Option.isSome_some]
      next h => simp only [h, Option.isSome_none, Bool.false_eq_true]
    · rw [State.computing, hengine] at hc
      rw [hengine]
      split
      · exact ⟨rfl, rfl⟩
      next h => rw [if_neg h] at hc; cases hc
    · rw [State.computing, hengine] at hc
      rw [hengine]
      split
      next h => rw [if_pos h] at hc; cases hc
      next h => exact ⟨rfl, Bool.eq_false_iff.mpr h⟩
  · show Host.Outcome.next s.publish.finish = _
    rw [State.publish, hsnap]
    exact congrArg _ (State.finish_of_settled h)

end Sys2Proof.Machine
end

section
/-! PROOFS. SET PASS PARAMETERS and the interval tick (O22). -/

namespace Sys2Proof.Machine

/-! ## The bytes of a field command -/

/-- A parameter byte of an open field command (09 R184). -/
theorem State.paramByte_field {s : State} {c : Cmd} (hl : s.port.listening = true) (hp : s.port.phase = .collecting)
    (hc : s.port.cmd = some c) (hk : c.kind = .field) (b : Byte) (home : Bool) : s.paramByte b home =
      (({ s with port := s.port.period 0 } : State).collectField c (s.port.field ++ [b])).finish := by
  rw [State.paramByte_collecting hl hp, State.collect, show (s.port.period 0).cmd = some c from hc]
  dsimp only
  rw [hk]
  rfl

/-- A byte inside a field is held (09 R184). -/
theorem State.collectField_none {s : State} {c : Cmd} {f : List Byte} (hf : fieldOf c (s.port.pos + 1) f s = none) :
    s.collectField c f = s.modPort (fun p => { p with pos := p.pos + 1, field := f }) := by
  rw [State.collectField, hf]

/-- A field applied (09 R184). -/
theorem State.collectField_applied {s t : State} {c : Cmd} {f : List Byte} {k : Bool}
    (hf : fieldOf c (s.port.pos + 1) f s = some (t, .applied k)) :
    s.collectField c f = t.nextField c (s.port.pos + 1) k := by
  rw [State.collectField, hf]

section parameters
variable {s : State} (h : s.Ready) (e : Engine) (pos : Nat) (held : List Byte) (cl : Bool) (b : Byte)
include h

/-- A parameter byte of an open SET PASS PARAMETERS, the earlier fields having left the engine as it is (02 R37). -/
theorem State.paramByte_pass :
    ({ s with engine := e, port := s.port.opened .setPassParameters pos held 0 cl } : State).paramByte b false =
      (({ s with engine := e, port := (s.port.opened .setPassParameters pos held 0 cl).period 0 } : State).collectField
        .setPassParameters (held ++ [b])).finish := by
  have hl : s.port.selLow = true ∧ s.port.seenHigh = true := (Port.listening_iff _).mp h.1
  refine (State.paramByte_field (c := .setPassParameters) ?_ rfl rfl rfl b false).trans rfl
  exact (Port.listening_iff _).mpr hl

/-- The interval field, which restarts the counter. -/
theorem State.paramByte_pass_interval :
    ({ s with engine := e, port := s.port.opened .setPassParameters 0 [] 0 cl } : State).paramByte b false = { s with
      engine := { e with interval := clampNat 1 60 b.toNat, counter := 0 }
      port := s.port.opened .setPassParameters 1 [] 0 (cl || (clampNat 1 60 b.toNat != b.toNat)) } := by
  rw [State.paramByte_pass h, State.collectField_applied rfl, State.nextField,
    if_neg (by exact (by decide : ¬ 0 + 1 = 4))]
  exact State.finish_of_settled h.2.2

/-- The ramp percent field. -/
theorem State.paramByte_pass_ramp :
    ({ s with engine := e, port := s.port.opened .setPassParameters 1 [] 0 cl } : State).paramByte b false = { s with
      engine := { e with rampPct := clampNat 1 100 b.toNat }
      port := s.port.opened .setPassParameters 2 [] 0 (cl || (clampNat 1 100 b.toNat != b.toNat)) } := by
  rw [State.paramByte_pass h, State.collectField_applied rfl, State.nextField,
    if_neg (by exact (by decide : ¬ 1 + 1 = 4))]
  exact State.finish_of_settled h.2.2

/-- The deadband field, the last of the command. -/
theorem State.paramByte_pass_deadband (l : Byte) :
    (({ s with engine := e, port := s.port.opened .setPassParameters 2 [] 0 cl } : State).paramByte b false).paramByte l
      false = { s with
      engine := { e with deadband := min 1000 (b.toNat * 256 + l.toNat) }
      port := s.port.closed (clampResult
        (cl || (min 1000 (b.toNat * 256 + l.toNat) != b.toNat * 256 + l.toNat))) } := by
  have hheld : ({ s with engine := e, port := s.port.opened .setPassParameters 2 [] 0 cl } : State).paramByte b false =
      { s with engine := e, port := s.port.opened .setPassParameters 3 [b] 0 cl } := by
    rw [State.paramByte_pass h, State.collectField_none rfl]
    exact State.finish_of_settled h.2.2
  rw [hheld, State.paramByte_pass h, State.collectField_applied rfl, State.nextField, if_pos (by rfl)]
  exact State.finish_of_settled h.2.2

end parameters

/-- SET PASS PARAMETERS opened (09 R181). -/
theorem State.send_pass_nil {s : State} (h : s.Ready) : s.send .setPassParameters [] false =
    { s with engine := s.engine, port := s.port.opened .setPassParameters 0 [] 0 false } := by
  show s.commandByte (Cmd.code .setPassParameters) = _
  rw [State.commandByte_ready h, Cmd.ofCode_code]
  dsimp only
  rw [State.openCmd_params s .setPassParameters (by decide)]
  exact State.finish_of_settled h.2.2

/-- SET PASS PARAMETERS field by field (02 R37). -/
theorem setPassParametersActs {s : State} (hs : s.Ready) (i r h l : Byte) {w : Nat} (hw : w = max 1 (min 60 i.toNat)) :
    exec (.setPassParameters [i]) s = .next { s with
      port := s.port.opened .setPassParameters 1 [] 0 (w ≠ i.toNat)
      engine := { s.engine with interval := w, counter := 0 } } ∧
    exec (.setPassParameters [i, r]) s = .next { s with
      port := s.port.opened .setPassParameters 2 [] 0 (!(1 ≤ i.toNat && i.toNat ≤ 60 && 1 ≤ r.toNat && r.toNat ≤ 100))
      engine := { s.engine with interval := w, counter := 0, rampPct := max 1 (min 100 r.toNat) } } ∧
    exec (.setPassParameters [i, r, h, l]) s = .next { s with
      port := s.port.closed (okOrClamped (!(1 ≤ i.toNat && i.toNat ≤ 60 && 1 ≤ r.toNat && r.toNat ≤ 100 &&
        h.toNat * 256 + l.toNat ≤ 1000)))
      engine := { s.engine with
        interval := w, counter := 0, rampPct := max 1 (min 100 r.toNat)
        deadband := min 1000 (h.toNat * 256 + l.toNat) } } := by
  subst hw
  have hdead : (min 1000 (h.toNat * 256 + l.toNat) != h.toNat * 256 + l.toNat) =
      !decide (h.toNat * 256 + l.toNat ≤ 1000) := by
    by_cases hle : h.toNat * 256 + l.toNat ≤ 1000
    · rw [min_eq_right hle, bne_self_eq_false, decide_eq_true hle, Bool.not_true]
    · rw [min_eq_left (by omega), decide_eq_false hle, Bool.not_false, bne_iff_ne]
      omega
  have hsend1 : s.send .setPassParameters [i] false = _ :=
    (congrArg (State.paramByte · i false) (State.send_pass_nil hs)).trans (State.paramByte_pass_interval hs _ _ _)
  have hsend2 : s.send .setPassParameters [i, r] false = _ :=
    (congrArg (State.paramByte · r false) hsend1).trans (State.paramByte_pass_ramp hs _ _ _)
  have hsend4 : s.send .setPassParameters [i, r, h, l] false = _ :=
    (congrArg (fun t => (State.paramByte t h false).paramByte l false) hsend2).trans
      (State.paramByte_pass_deadband hs _ _ _ _)
  refine ⟨?_, ?_, ?_⟩
  · refine (congrArg Host.Outcome.next hsend1).trans ?_
    rw [Bool.false_or, show (clampNat 1 60 i.toNat != i.toNat) = decide (clampNat 1 60 i.toNat ≠ i.toNat) by
      rw [bne, beq_eq_decide, decide_not]]
    rfl
  · refine (congrArg Host.Outcome.next hsend2).trans ?_
    rw [Bool.false_or, clampNat_bne (by decide), clampNat_bne (by decide), ← Bool.not_and, ← Bool.and_assoc]
    rfl
  · refine (congrArg Host.Outcome.next hsend4).trans ?_
    rw [Bool.false_or, clampNat_bne (by decide), clampNat_bne (by decide), hdead, ← Bool.not_and,
      ← Bool.not_and, ← Bool.and_assoc]
    rfl

/-! ## The interval tick -/

/-- An interval tick (02 R31, R35). -/
theorem exec_intervalTick {s : State} (h : s.Settled) {u : State} (hu : u = { s with
      engine := { s.engine with counter := 0 }, now := { s.now with pendTaken := false } }) :
    exec .intervalTick s = .next (if s.engine.pend = true ∨ s.engine.rampUnfinished = true ∨ s.now.pendTaken = true
      then u.answered else u) := by
  have hwant : (s.engine.pend || s.engine.rampUnfinished || s.now.pendTaken) = true ↔
      s.engine.pend = true ∨ s.engine.rampUnfinished = true ∨ s.now.pendTaken = true := by
    rw [Bool.or_eq_true, Bool.or_eq_true, or_assoc]
  subst hu
  show Host.Outcome.next s.intervalTick.finish = _
  rw [State.intervalTick]
  simp only [hwant]
  split
  · exact congrArg _ (State.finish_of_quiet ((State.startOrRerun_urgent _).trans h.1))
  · exact congrArg _ (State.finish_of_settled h)

/-- The engine and the mark of the moment after a publication: the rerun pass is in flight, or pending is as it was. -/
theorem State.published_end (s : State) (p : Snapshot) {t : State} (ht : t = (s.published p).afterPublish.attend)
    {rerun : Bool} (hr : rerun = (s.engine.rerun || decide ((s.written p).length < p.recs.length))) :
    t.computing = rerun ∧ (rerun = true → t.engine.rerun = false) ∧ (rerun = false → t.engine.pend = s.engine.pend) ∧
      t.now.pendTaken = (rerun && s.engine.pend) := by
  have hresults := congrArg State.engine (State.published_frame s p)
  have hengine := State.afterPublish_engine (s.published p)
  have hnow := congrArg State.now (State.afterPublish_frame (s.published p))
  rw [hresults, show (s.engine.results p (s.written p)).rerun = rerun from hr.symm] at hengine hnow
  subst ht
  have hpend : (s.engine.results p (s.written p)).pend = s.engine.pend := rfl
  rw [State.computing, State.attend_engine, State.attend_now, hnow, hengine]
  cases rerun
  · exact ⟨rfl, nofun, fun _ => hpend, rfl⟩
  · exact ⟨rfl, fun _ => rfl, nofun, rfl⟩

/-- An interval tick and then a publication, pending being set (12 R209, row 1). -/
theorem tick_then_publication {s : State} {p : Snapshot} (h : s.Settled) (hsnap : s.engine.snap = some p)
    (hpend : s.engine.pend = true) : ∃ t u, exec .intervalTick s = .next t ∧ t.engine.rerun = true ∧
      t.engine.snap = some p ∧ exec .publication t = .next u ∧ u.computing = true ∧ u.engine.rerun = false := by
  have hcomputing : s.computing = true := by rw [State.computing, hsnap]; rfl
  have htick := exec_intervalTick h rfl
  rw [if_pos (Or.inl hpend), State.answered_computing (by exact h.2) (by exact hcomputing)] at htick
  obtain ⟨t, htick, hrerun, hsnap, hurgent⟩ : ∃ t, exec .intervalTick s = .next t ∧ t.engine.rerun = true ∧
      t.engine.snap = some p ∧ t.urgent = false := ⟨_, htick, rfl, hsnap, h.1⟩
  obtain ⟨hc, hr, -, -⟩ := State.published_end t p rfl (rerun := true) (by rw [hrerun, Bool.true_or])
  exact ⟨t, _, htick, hrerun, hsnap, exec_publication hurgent hsnap, hc, hr rfl⟩

/-- A publication and then an interval tick, pending having been set (12 R209, row 1; log 36). -/
theorem publication_then_tick {s : State} {p : Snapshot} (h : s.Settled) (hsnap : s.engine.snap = some p)
    (hpend : s.engine.pend = true) : ∃ t u, exec .publication s = .next t ∧ exec .intervalTick t = .next u ∧
      u.computing = true ∧ u.engine.rerun = t.computing := by
  have hpublish := exec_publication h.1 hsnap
  generalize ht : (s.published p).afterPublish.attend = t at hpublish
  have hset : t.Settled := by
    obtain rfl : t = s.publish.finish := (Host.Outcome.next.inj hpublish).symm
    exact State.finish_settled _
  have htick := exec_intervalTick hset rfl
  obtain ⟨hc, hr, hp, hn⟩ := State.published_end s p ht.symm rfl
  generalize (s.engine.rerun || decide ((s.written p).length < p.recs.length)) = rerun at hc hr hp hn
  cases rerun with
  | true =>
    have hn' : t.now.pendTaken = true := hn.trans hpend
    rw [if_pos (Or.inr (Or.inr hn')), State.answered_computing (by exact hset.2) (by exact hc)] at htick
    exact ⟨t, _, hpublish, htick, hc, hc.symm⟩
  | false =>
    rw [if_pos (Or.inl ((hp rfl).trans hpend)), State.answered_idle (by exact hset.2) (by exact hc)] at htick
    exact ⟨t, _, hpublish, htick, rfl, hc.symm⟩

/-- Settles O22. -/
theorem passParametersAndIntervalTick : Obligations.PassParametersAndIntervalTick :=
  ⟨fun _ i r h l _ hs hw => setPassParametersActs hs i r h l hw, fun _ h _ hu => exec_intervalTick h hu,
    fun _ _ h hsnap hpend => ⟨tick_then_publication h hsnap hpend, publication_then_tick h hsnap hpend⟩⟩

end Sys2Proof.Machine
end

section
/-! PROOFS. A quantity shared out in proportion: rounded-down parts and the units left over, dealt in an order (02 R46,
R50). -/

namespace Sys2Proof.Machine

section parts
variable {α : Type} (ms : List α) (f : α → Nat) (w : Nat)

/-- The rounded-down parts take no more than the whole. -/
theorem parts_mul_le (total : Nat) : (ms.map (fun r => f r * w / total)).sum * total ≤ (ms.map f).sum * w := by
  induction ms with
  | nil => exact Nat.le_of_eq (by simp only [List.map_nil, List.sum_nil, Nat.zero_mul])
  | cons r ms ih =>
    simp only [List.map_cons, List.sum_cons, Nat.add_mul]
    exact Nat.add_le_add (Nat.div_mul_le_self _ _) ih

/-- One unit more for every member that asks for something takes the whole. -/
theorem le_parts_mul {total : Nat} (ht : 0 < total) : (ms.map f).sum * w ≤
    ((ms.map (fun r => f r * w / total)).sum + (ms.filter (fun r => 0 < f r)).length) * total := by
  induction ms with
  | nil => exact Nat.le_of_eq (by simp only [List.map_nil, List.sum_nil, List.filter_nil, List.length_nil, Nat.zero_mul,
      Nat.add_zero])
  | cons r ms ih =>
    have hone : f r * w ≤ (f r * w / total + if 0 < f r then 1 else 0) * total := by
      split
      · rw [Nat.mul_comm _ total]
        exact (Nat.lt_mul_div_succ _ ht).le
      next h => rw [Nat.eq_zero_of_not_pos h, Nat.zero_mul]; exact Nat.zero_le _
    have hlen : ((r :: ms).filter (fun r => 0 < f r)).length =
        (if 0 < f r then 1 else 0) + (ms.filter (fun r => 0 < f r)).length := by
      rw [List.filter_cons]
      simp only [decide_eq_true_iff]
      split
      · rw [List.length_cons, Nat.add_comm]
      · rw [Nat.zero_add]
    simp only [List.map_cons, List.sum_cons, Nat.add_mul] at ih hone ⊢
    rw [hlen, Nat.add_mul]
    omega

variable (total : Nat) (ht : total = (ms.map f).sum) (hw : w < total)
include ht hw

/-- The rounded-down parts sum to no more than the quantity shared out. -/
theorem parts_le : (ms.map (fun r => f r * w / total)).sum ≤ w := by
  have hmul := parts_mul_le ms f w total
  rw [← ht, Nat.mul_comm total w] at hmul
  exact Nat.le_of_mul_le_mul_right hmul (Nat.zero_lt_of_lt hw)

/-- What is left over is no more than one unit for every member that asks for something. -/
theorem residue_le : w - (ms.map (fun r => f r * w / total)).sum ≤ (ms.filter (fun r => 0 < f r)).length := by
  have hmul := le_parts_mul ms f w (Nat.zero_lt_of_lt hw)
  rw [← ht, Nat.mul_comm total w] at hmul
  have hle := Nat.le_of_mul_le_mul_right hmul (Nat.zero_lt_of_lt hw)
  omega

end parts

/-- Units dealt to distinct ids of a list are as many as those ids. -/
theorem dealt_count {ms : List SnapRec} (hid : (ms.map (·.id)).Nodup) {lucky : List (Fin 96)} (hl : lucky.Nodup)
    (hsub : ∀ id ∈ lucky, id ∈ ms.map (·.id)) :
    (ms.map (fun r => if lucky.contains r.id then 1 else 0)).sum = lucky.length := by
  have hsum : (ms.map (fun r => if lucky.contains r.id then 1 else 0)).sum =
      ((ms.map (·.id)).filter lucky.contains).length := by
    clear hid hsub
    induction ms with
    | nil => rfl
    | cons r ms ih =>
      rw [List.map_cons, List.sum_cons, ih, List.map_cons, List.filter_cons]
      split
      · rw [List.length_cons, Nat.add_comm]
      · rw [Nat.zero_add]
  rw [hsum]
  refine ((List.perm_ext_iff_of_nodup (hid.filter _) hl).mpr fun id => ?_).length_eq
  rw [List.mem_filter, List.contains_iff_mem]
  exact ⟨fun h => h.2, fun h => ⟨hsub id h, h⟩⟩

/-- A quantity below what is asked is shared out to the last unit, the units left over going to the first of an order of
all who ask for something. -/
theorem dealt_sum {ms : List SnapRec} (hid : (ms.map (·.id)).Nodup) (f : SnapRec → Nat) {w total : Nat}
    (ht : total = (ms.map f).sum) (hw : w < total) {order : List (Fin 96)} (hn : order.Nodup)
    (hperm : order.Perm ((ms.filter (fun r => 0 < f r)).map (·.id))) :
    (ms.map (fun r => f r * w / total +
      if (order.take (w - (ms.map (fun r => f r * w / total)).sum)).contains r.id then 1 else 0)).sum = w := by
  have hle := parts_le ms f w total ht hw
  have hres := residue_le ms f w total ht hw
  have hlen := hperm.length_eq
  rw [List.length_map] at hlen
  rw [List.sum_map_add, dealt_count hid (hn.sublist (List.take_sublist _ _)), List.length_take, hlen]
  · omega
  · intro id hmem
    obtain ⟨r, hr, rfl⟩ := List.mem_map.mp (hperm.mem_iff.mp (List.mem_of_mem_take hmem))
    exact List.mem_map_of_mem (List.mem_of_mem_filter hr)

/-! ## Who comes first -/

/-- Of two who stand in an order, one dealt a unit stands before one who is not. -/
theorem before_of_take {l : List (Fin 96)} {n : Nat} {i j : Fin 96} (hj : j ∈ l.take n) (hi : i ∈ l)
    (hni : i ∉ l.take n) : [j, i].Sublist l := by
  have hdrop : i ∈ l.drop n := by
    rw [← List.take_append_drop n l] at hi
    exact (List.mem_append.mp hi).resolve_left hni
  have happ := (List.singleton_sublist.mpr hj).append (List.singleton_sublist.mpr hdrop)
  rwa [List.take_append_drop] at happ

/-- In a list without repetitions whoever stands first has the lower place. -/
theorem idxOf_lt_of_before {l : List (Fin 96)} (hl : l.Nodup) {i j : Fin 96} (h : [j, i].Sublist l) :
    l.idxOf j < l.idxOf i := by
  have hpair : l.Pairwise (fun a b => l.idxOf a < l.idxOf b) := by
    rw [List.pairwise_iff_getElem]
    intro a b ha hb hab
    rwa [hl.idxOf_getElem, hl.idxOf_getElem]
  exact List.rel_of_pairwise_cons (hpair.sublist h) List.mem_cons_self

/-- Two who stand one before the other in two lists joined, the second of them not in the latter. -/
theorem before_of_append_left {a b : List (Fin 96)} {i j : Fin 96} (h : [j, i].Sublist (a ++ b)) (hi : i ∉ b) :
    [j, i].Sublist a := by
  obtain ⟨l1, l2, he, h1, h2⟩ := List.sublist_append_iff.mp h
  cases l2 using List.reverseRecOn with
  | nil => rwa [he, List.append_nil]
  | append_singleton l x =>
    have hx : i = x := by
      simpa only [List.getLast?_append, List.getLast?_singleton, List.getLast?_cons_cons, Option.some_or,
        Option.some.injEq] using congrArg List.getLast? he
    exact absurd (h2.subset (List.mem_append_right _ (hx ▸ List.mem_singleton_self i))) hi

/-- Two who stand one before the other in two lists joined: the first of them in the former, or both in the latter. -/
theorem before_of_append_right {a b : List (Fin 96)} {i j : Fin 96} (h : [j, i].Sublist (a ++ b)) :
    j ∈ a ∨ [j, i].Sublist b := by
  obtain ⟨l1, l2, he, h1, h2⟩ := List.sublist_append_iff.mp h
  cases l1 with
  | nil => exact .inr (by rwa [he, List.nil_append])
  | cons x l =>
    have hx : j = x := by simpa only [List.cons_append, List.cons.injEq] using (List.cons.inj he).1
    exact .inl (h1.subset (hx ▸ List.mem_cons_self))

end Sys2Proof.Machine
end

section
/-! PROOFS. The class fill of a pass (O23, O24). -/

namespace Sys2Proof.Machine

/-! ## Reservations -/

/-- A record without a reservation is served by the class fill (02 R43). -/
theorem SnapRec.reserve_isNone_iff {r : SnapRec} : r.reserve.isNone = true ↔ r.state ≠ .suspended ∧ r.hold = none := by
  unfold SnapRec.reserve
  cases r.state <;> simp

/-- A reserving record is granted its reservation (02 R43). -/
theorem Snapshot.power_of_reserve {p : Snapshot} {r : SnapRec} {x : Nat} (h : r.reserve = some x) : p.power r = x := by
  unfold Snapshot.power
  rw [h]

/-! ## One class -/

section oneClass
variable (p : Snapshot) (k rem : Nat)

/-- The ids that are dealt 1 kW of the residue of a scaled class (02 R46). -/
def Snapshot.luckyIn : List (Fin 96) :=
  (p.dealOrder k).take (rem - ((p.members k).map (fun r => r.ramped p.ramp * rem / p.classSum k)).sum)

/-- What a class that finds a power grants a member (02 R45, R46). -/
def Snapshot.grantIn (r : SnapRec) : Nat :=
  if p.classSum k ≤ rem then r.ramped p.ramp
  else r.ramped p.ramp * rem / p.classSum k + if (p.luckyIn k rem).contains r.id then 1 else 0

theorem Snapshot.classGrants_eq : p.classGrants k rem = (p.members k).map (fun r => (r.id, p.grantIn k rem r)) := by
  unfold Snapshot.classGrants Snapshot.grantIn Snapshot.luckyIn
  dsimp only
  split
  · rfl
  · rw [List.map_map, List.map_map]
    refine List.map_congr_left fun r _ => Prod.ext rfl ?_
    simp only [Function.comp_apply, Function.comp_def]
    split <;> rfl

variable {p} (hid : (p.recs.map (·.id)).Nodup)
include hid

theorem Snapshot.members_nodup : ((p.members k).map (·.id)).Nodup :=
  hid.sublist (List.filter_sublist.map _)

/-- The entry of a member in its class is its own. -/
theorem Snapshot.eq_grantIn {r : SnapRec} (hr : r ∈ p.members k) {g : Nat} (hg : (r.id, g) ∈ p.classGrants k rem) :
    g = p.grantIn k rem r := by
  rw [Snapshot.classGrants_eq] at hg
  obtain ⟨q, hq, he⟩ := List.mem_map.mp hg
  obtain ⟨hqid, rfl⟩ := Prod.mk.inj he
  rw [eq_of_id_eq (Snapshot.members_nodup k hid) hq hr hqid]

omit hid in
theorem Snapshot.grantIn_mem {r : SnapRec} (hr : r ∈ p.members k) :
    (r.id, p.grantIn k rem r) ∈ p.classGrants k rem := by
  rw [Snapshot.classGrants_eq]
  exact List.mem_map_of_mem hr

/-- A class grants a member no more than its ramped request (02 R45, R46). -/
theorem Snapshot.grantIn_le {r : SnapRec} (hr : r ∈ p.members k) : p.grantIn k rem r ≤ r.ramped p.ramp := by
  obtain ⟨q, hq, hqid, hle⟩ := Snapshot.classGrants_le hid (Snapshot.grantIn_mem k rem hr)
  rwa [eq_of_id_eq hid hq (mem_of_mem_members hr) hqid] at hle

variable (hlisted : p.listed.Nodup)
include hlisted

/-- The residue is dealt among the members that ask for something, each once (02 R46). -/
theorem Snapshot.dealOrder_perm :
    (p.dealOrder k).Perm (((p.members k).filter (fun r => 0 < r.ramped p.ramp)).map (·.id)) ∧
      (p.dealOrder k).Nodup := by
  unfold Snapshot.dealOrder
  dsimp only
  generalize hable : ((p.members k).filter (fun r => 0 < r.ramped p.ramp)).map (·.id) = able
  have hn : able.Nodup := hable ▸ (Snapshot.members_nodup k hid).sublist (List.filter_sublist.map _)
  have horder : (p.listed.filter (fun id => able.contains id) ++
      able.filter (fun id => !p.listed.contains id)).Nodup := by
    refine (hlisted.filter _).append (hn.filter _) fun id h1 h2 => ?_
    have hin := (List.mem_filter.mp h1).1
    have hout := (List.mem_filter.mp h2).2
    rw [List.contains_iff_mem.mpr hin] at hout
    cases hout
  refine ⟨(List.perm_ext_iff_of_nodup horder hn).mpr fun id => ?_, horder⟩
  simp only [List.mem_append, List.mem_filter, Bool.not_eq_true', List.contains_eq_mem, decide_eq_true_iff,
    decide_eq_false_iff_not]
  tauto

/-- A scaled class gives out exactly the power it found (02 R46). -/
theorem Snapshot.grantIn_sum_scaled (h : rem < p.classSum k) : ((p.members k).map (p.grantIn k rem)).sum = rem := by
  obtain ⟨hperm, hn⟩ := Snapshot.dealOrder_perm k hid hlisted
  have hsum := dealt_sum (Snapshot.members_nodup k hid) (fun r => r.ramped p.ramp) rfl h hn hperm
  refine Eq.trans (congrArg List.sum (List.map_congr_left fun r _ => ?_)) hsum
  exact if_neg (Nat.not_le.mpr h)

/-- What a class gives out and what it leaves make up what it found (02 R45). -/
theorem Snapshot.grantIn_sum : ((p.members k).map (p.grantIn k rem)).sum + p.classRest k rem = rem := by
  unfold Snapshot.classRest
  split
  next h =>
    have hwhole : (p.members k).map (p.grantIn k rem) = (p.members k).map (fun r => r.ramped p.ramp) :=
      List.map_congr_left fun r _ => if_pos h
    rw [hwhole]
    exact Nat.add_sub_cancel' h
  next h => rw [Snapshot.grantIn_sum_scaled k rem hid hlisted (Nat.not_le.mp h), Nat.add_zero]

end oneClass

/-! ## The power of a pass -/

theorem Snapshot.mem_members {p : Snapshot} {k : Nat} {r : SnapRec} :
    r ∈ p.members k ↔ r ∈ p.recs ∧ r.reserve = none ∧ r.eff = k := by
  rw [Snapshot.members, List.mem_filter, Bool.and_eq_true, beq_iff_eq, Option.isNone_iff_eq_none]

theorem Snapshot.mem_fillGrants {p : Snapshot} {g : Fin 96 × Nat} :
    g ∈ p.fillGrants ↔ ∃ k < 3, g ∈ p.classGrants k (p.remBefore k) := by
  rw [Snapshot.fillGrants, List.mem_append, List.mem_append]
  constructor
  · rintro ((h | h) | h)
    · exact ⟨0, by decide, h⟩
    · exact ⟨1, by decide, h⟩
    · exact ⟨2, by decide, h⟩
  · rintro ⟨k, hk, h⟩
    match k, hk, h with
    | 0, _, h => exact .inl (.inl h)
    | 1, _, h => exact .inl (.inr h)
    | 2, _, h => exact .inr h

section power
variable {p : Snapshot} (hid : (p.recs.map (·.id)).Nodup) {r : SnapRec}
include hid

/-- An entry of the class fill under a record's id is that of its class. -/
theorem Snapshot.eff_of_fillGrants (hr : r ∈ p.recs) {g : Nat} (hg : (r.id, g) ∈ p.fillGrants) :
    r.reserve = none ∧ r.eff < 3 ∧ (r.id, g) ∈ p.classGrants r.eff (p.remBefore r.eff) := by
  obtain ⟨k, hk, hmem⟩ := Snapshot.mem_fillGrants.mp hg
  have hids : r.id ∈ (p.members k).map (·.id) := by
    rw [← Snapshot.classGrants_ids p k (p.remBefore k)]
    exact List.mem_map_of_mem hmem
  obtain ⟨q, hq, hqid⟩ := List.mem_map.mp hids
  obtain ⟨hqr, hres, heff⟩ := Snapshot.mem_members.mp hq
  obtain rfl := eq_of_id_eq hid hqr hr hqid
  subst heff
  exact ⟨hres, hk, hmem⟩

omit hid in
/-- The entry found under an id is an entry of that id. -/
theorem Snapshot.find_fillGrants {id : Fin 96} {g : Fin 96 × Nat}
    (h : p.fillGrants.find? (fun g => g.1 == id) = some g) :
    (id, g.2) ∈ p.fillGrants := by
  have hid : g.1 = id := beq_iff_eq.mp (List.find?_some h :)
  exact hid ▸ List.mem_of_find?_eq_some h

/-- A record the class fill serves is granted its entry in its class (02 R45). -/
theorem Snapshot.power_of_member {k : Nat} (hk : k < 3) (hr : r ∈ p.members k) :
    p.power r = p.grantIn k (p.remBefore k) r := by
  obtain ⟨hmem, hres, rfl⟩ := Snapshot.mem_members.mp hr
  have hin : (r.id, p.grantIn r.eff (p.remBefore r.eff) r) ∈ p.fillGrants :=
    Snapshot.mem_fillGrants.mpr ⟨r.eff, hk, Snapshot.grantIn_mem _ _ hr⟩
  unfold Snapshot.power
  rw [hres]
  dsimp only
  cases hf : p.fillGrants.find? (fun g => g.1 == r.id) with
  | none => exact absurd (List.find?_eq_none.mp hf _ hin) (by simp only [beq_self_eq_true, not_true, not_false_eq_true])
  | some g =>
    obtain ⟨-, -, hg⟩ := Snapshot.eff_of_fillGrants hid hmem (Snapshot.find_fillGrants hf)
    exact Snapshot.eq_grantIn _ _ hid hr hg

/-- A record of no class is granted nothing. -/
theorem Snapshot.power_of_unserved (hr : r ∈ p.recs) (hres : r.reserve = none) (heff : ¬ r.eff < 3) :
    p.power r = 0 := by
  unfold Snapshot.power
  rw [hres]
  dsimp only
  cases hf : p.fillGrants.find? (fun g => g.1 == r.id) with
  | none => rfl
  | some g =>
    obtain ⟨-, hlt, -⟩ := Snapshot.eff_of_fillGrants hid hr (Snapshot.find_fillGrants hf)
    exact absurd hlt heff

end power

/-- The records of a pass are those with a reservation, the members of the three classes and those of no class. -/
theorem Snapshot.power_sum {p : Snapshot} (hid : (p.recs.map (·.id)).Nodup) : (p.recs.map p.power).sum =
    p.reserved + (((p.members 0).map p.power).sum + ((p.members 1).map p.power).sum +
      ((p.members 2).map p.power).sum) := by
  have hsplit : ∀ rs : List SnapRec, (∀ r ∈ rs, r ∈ p.recs) → (rs.map p.power).sum =
      (rs.map (fun r => r.reserve.getD 0)).sum +
        (((rs.filter (fun r => r.reserve.isNone && r.eff == 0)).map p.power).sum +
          ((rs.filter (fun r => r.reserve.isNone && r.eff == 1)).map p.power).sum +
          ((rs.filter (fun r => r.reserve.isNone && r.eff == 2)).map p.power).sum) := by
    intro rs
    induction rs with
    | nil => exact fun _ => rfl
    | cons r rs ih =>
      intro hrs
      have hrest := ih fun q hq => hrs q (List.mem_cons_of_mem _ hq)
      have hr := hrs r List.mem_cons_self
      rw [List.map_cons, List.sum_cons, hrest, List.map_cons, List.sum_cons]
      cases hres : r.reserve with
      | some x =>
        rw [Snapshot.power_of_reserve hres]
        simp only [List.filter_cons, hres, Option.isNone_some, Bool.false_and, Bool.false_eq_true, if_false,
          Option.getD_some]
        omega
      | none =>
        by_cases heff : r.eff < 3
        · have hclass : r.eff = 0 ∨ r.eff = 1 ∨ r.eff = 2 := by omega
          rcases hclass with h | h | h <;> simp [hres, h] <;> omega
        · have h0 : r.eff ≠ 0 ∧ r.eff ≠ 1 ∧ r.eff ≠ 2 := by omega
          rw [Snapshot.power_of_unserved hid hr hres heff]
          simp [hres, h0]
  exact hsplit p.recs fun _ h => h

/-- What a class is granted and what it leaves make up what it found (02 R45). -/
theorem Snapshot.class_sum {p : Snapshot} (hid : (p.recs.map (·.id)).Nodup) (hlisted : p.listed.Nodup) {k : Nat}
    (hk : k < 3) : ((p.members k).map p.power).sum + p.remBefore (k + 1) = p.remBefore k := by
  rw [List.map_congr_left fun r hr => Snapshot.power_of_member hid hk hr]
  exact Snapshot.grantIn_sum k (p.remBefore k) hid hlisted

/-- The power found falls from class to class. -/
theorem Snapshot.remBefore_le (p : Snapshot) (k : Nat) : p.remBefore k ≤ p.afterReserve := by
  induction k with
  | zero => exact Nat.le_refl _
  | succ k ih =>
    refine Nat.le_trans ?_ ih
    rw [Snapshot.remBefore, Snapshot.classRest]
    split <;> omega

/-- The grants of a pass and its headroom make up its reservations and what they leave of the offer (02 R45, R47). -/
theorem Snapshot.power_sum_headroom {p : Snapshot} (hid : (p.recs.map (·.id)).Nodup) (hlisted : p.listed.Nodup) :
    (p.recs.map p.power).sum + p.headroom = p.reserved + p.afterReserve := by
  have h0 : _ + p.remBefore 1 = p.afterReserve := Snapshot.class_sum hid hlisted (k := 0) (by decide)
  have h1 : _ + p.remBefore 2 = p.remBefore 1 := Snapshot.class_sum hid hlisted (k := 1) (by decide)
  have h2 : _ + p.headroom = p.remBefore 2 := Snapshot.class_sum hid hlisted (k := 2) (by decide)
  rw [Snapshot.power_sum hid]
  omega

/-- The reservations of a pass are above its offer (02 R43). -/
theorem Snapshot.over_iff {p : Snapshot} : p.over = true ↔ p.offer < p.reserved := decide_eq_true_iff

/-- Settles O23. -/
theorem reservationsAndGrantBounds : Obligations.ReservationsAndGrantBounds := by
  refine ⟨fun p r => ⟨fun hst hexp => ?_, fun hst hexp => ?_, fun h hst hhold => ?_, Snapshot.over_iff, rfl,
    decide_eq_true_iff⟩, fun p hid hlisted => ⟨fun hover => ?_, fun hover => ?_, fun r hr hres => ?_⟩⟩
  · exact Snapshot.power_of_reserve (by rw [SnapRec.reserve, hst]; exact congrArg some (if_neg (by rw [hexp]; decide)))
  · refine (Snapshot.power_of_reserve (x := fallbackPower r.sub r.dt r.fallback) ?_).trans ?_
    · rw [SnapRec.reserve, hst]
      exact congrArg some (if_pos hexp)
    · cases r.fallback <;> rfl
  · exact Snapshot.power_of_reserve (by rw [SnapRec.reserve, hst, hhold]; rfl)
  · have hle : ¬ p.offer < p.reserved := mt Snapshot.over_iff.mpr (by rw [hover]; decide)
    have hsum := Snapshot.power_sum_headroom hid hlisted
    have hafter : p.afterReserve = p.offer - p.reserved := rfl
    omega
  · have hlt := Snapshot.over_iff.mp hover
    have hafter : p.afterReserve = 0 := Nat.sub_eq_zero_of_le hlt.le
    have hzero (k : Nat) : p.remBefore k = 0 := Nat.le_zero.mp (hafter ▸ p.remBefore_le k)
    refine ⟨hzero 3, fun r hr hres => ?_⟩
    by_cases heff : r.eff < 3
    · have hsum := Snapshot.class_sum hid hlisted heff
      have hmem := List.mem_map_of_mem (f := p.power) (Snapshot.mem_members.mpr ⟨hr, hres, rfl⟩)
      have hle := List.le_sum_of_mem hmem
      have hfound := hzero r.eff
      omega
    · exact Snapshot.power_of_unserved hid hr hres heff
  · by_cases heff : r.eff < 3
    · have hmem := Snapshot.mem_members.mpr ⟨hr, hres, rfl⟩
      rw [Snapshot.power_of_member hid heff hmem]
      exact Snapshot.grantIn_le _ _ hid hmem
    · rw [Snapshot.power_of_unserved hid hr hres heff]
      exact Nat.zero_le _

/-! ## Classes in turn and the order of the residue -/

theorem Snapshot.remBefore_succ (p : Snapshot) (k : Nat) : p.remBefore (k + 1) = p.remBefore k - p.classSum k := by
  rw [Snapshot.remBefore, Snapshot.classRest]
  split <;> omega

/-- The members of a class, in the words of the record (02 R43, R45). -/
theorem Snapshot.members_eq (p : Snapshot) (k : Nat) :
    p.members k = p.recs.filter (fun r => r.state != .suspended && r.hold == none && r.eff == k) := by
  refine List.filter_congr fun r _ => congrArg (· && r.eff == k) ?_
  rw [Bool.eq_iff_iff, SnapRec.reserve_isNone_iff, Bool.and_eq_true, bne_iff_ne, beq_iff_eq]

/-- Of two members that ask for something, one dealt 1 kW stands in the deal order before one that is not (02 R46). -/
theorem Snapshot.dealt_before {p : Snapshot} {k rem : Nat} (hid : (p.recs.map (·.id)).Nodup) (hlisted : p.listed.Nodup)
    (h : rem < p.classSum k) {r q : SnapRec} (hr : r ∈ p.members k) (hpos : 0 < r.ramped p.ramp)
    (hg : p.grantIn k rem r = r.ramped p.ramp * rem / p.classSum k)
    (hq : p.grantIn k rem q = q.ramped p.ramp * rem / p.classSum k + 1) : [q.id, r.id].Sublist (p.dealOrder k) := by
  unfold Snapshot.grantIn at hg hq
  rw [if_neg (Nat.not_le.mpr h)] at hg hq
  have hin : q.id ∈ p.luckyIn k rem := by
    refine List.contains_iff_mem.mp ?_
    by_contra hc
    rw [if_neg hc] at hq
    omega
  have hout : r.id ∉ p.luckyIn k rem := by
    intro hc
    rw [if_pos (List.contains_iff_mem.mpr hc)] at hg
    omega
  have hmem : r.id ∈ p.dealOrder k := by
    refine (Snapshot.dealOrder_perm k hid hlisted).1.mem_iff.mpr (List.mem_map_of_mem ?_)
    exact List.mem_filter.mpr ⟨hr, decide_eq_true hpos⟩
  exact before_of_take hin hmem hout

/-- The deal order: the listed in list order, then ascending id (02 R46, 03 R62). -/
theorem Snapshot.dealOrder_before {p : Snapshot} {k : Nat} (hid : (p.recs.map (·.id)).Pairwise (· < ·))
    (hlisted : p.listed.Nodup) {i j : Fin 96} (h : [j, i].Sublist (p.dealOrder k)) :
    (i ∈ p.listed → j ∈ p.listed ∧ p.listed.idxOf j < p.listed.idxOf i) ∧ (i ∉ p.listed → j ∈ p.listed ∨ j < i) := by
  refine ⟨fun hi => ?_, fun hi => ?_⟩
  · have hnot : i ∉ (((p.members k).filter (fun r => 0 < r.ramped p.ramp)).map (·.id)).filter
        (fun id => !p.listed.contains id) := fun hmem => by
      have hc := (List.mem_filter.mp hmem).2
      rw [List.contains_iff_mem.mpr hi] at hc
      cases hc
    have hsub := (before_of_append_left h hnot).trans List.filter_sublist
    exact ⟨hsub.subset List.mem_cons_self, idxOf_lt_of_before hlisted hsub⟩
  · rcases before_of_append_right h with hj | hsub
    · exact .inl (List.mem_filter.mp hj).1
    · have hable : ((p.members k).filter (fun r => 0 < r.ramped p.ramp)).Sublist p.recs :=
        List.filter_sublist.trans List.filter_sublist
      have hids := hsub.trans (List.filter_sublist.trans (hable.map (·.id)))
      exact .inr (List.rel_of_pairwise_cons (hid.sublist hids) List.mem_cons_self)

/-- Settles O24. -/
theorem classFillSharesOut : Obligations.ClassFillSharesOut := by
  refine ⟨fun p r0 r1 r2 hid h0 h1 h2 => ?_, fun p k rem hid hlisted => ⟨fun hfit r hr => ?_, fun hover => ⟨?_,
    fun r hr => ⟨p.grantIn k rem r, Snapshot.grantIn_mem k rem hr, Snapshot.grantIn_le k rem hid hr, ?_⟩⟩⟩,
    fun p k rem i j g h r q hid hlisted hover hr hq hi hj hposr hposq hg hh hgr hhq => ?_⟩
  · have hr0 : p.remBefore 0 = r0 := h0.symm
    have hr1 : p.remBefore 1 = r1 := by rw [h1, ← hr0, ← Snapshot.remBefore_succ]
    have hr2 : p.remBefore 2 = r2 := by rw [h2, ← hr1, ← Snapshot.remBefore_succ]
    have hpower (k : Nat) (hk : k < 3) (r : SnapRec) (hr : r ∈ p.members k) :
        (r.id, p.power r) ∈ p.classGrants k (p.remBefore k) := by
      rw [Snapshot.power_of_member hid hk hr]
      exact Snapshot.grantIn_mem _ _ hr
    refine ⟨fun k => ⟨p.members_eq k, rfl⟩, hr0 ▸ hpower 0 (by decide), hr1 ▸ hpower 1 (by decide),
      hr2 ▸ hpower 2 (by decide), ?_, fun r _ => ⟨?_, ?_⟩⟩
    · rw [Snapshot.headroom, Snapshot.remBefore_succ, hr2]
    · rw [Snapshot.curtailedIn, Bool.and_eq_true, SnapRec.reserve_isNone_iff, decide_eq_true_iff, and_assoc]
    · rw [Snapshot.rampIn, Bool.and_eq_true, SnapRec.reserve_isNone_iff, SnapRec.rampLimited, decide_eq_true_iff,
        and_assoc]
      rfl
  · rw [Snapshot.classGrants_fit _ _ _ hfit]
    exact List.mem_map_of_mem hr
  · rw [Snapshot.classGrants_eq, List.map_map]
    exact Snapshot.grantIn_sum_scaled k rem hid hlisted hover
  · rw [Snapshot.grantIn, if_neg (Nat.not_le.mpr hover)]
    split
    · exact .inr rfl
    · exact .inl rfl
  · subst hi hj
    have hnodup : (p.recs.map (·.id)).Nodup := hid.imp fun hlt => ne_of_lt hlt
    rw [Snapshot.eq_grantIn k rem hnodup hr hg] at hgr
    rw [Snapshot.eq_grantIn k rem hnodup hq hh] at hhq
    exact Snapshot.dealOrder_before hid hlisted (Snapshot.dealt_before hnodup hlisted hover hr hposr hgr hhq)

end Sys2Proof.Machine
end

section
/-! PROOFS. Flow ceilings within the branch limits (O25). -/

namespace Sys2Proof.Machine

theorem Snapshot.mem_actives {p : Snapshot} {b : Fin 8} {r : SnapRec} :
    r ∈ p.actives b ↔ r ∈ p.recs ∧ r.line = b ∧ r.state ≠ .suspended := by
  simp only [Snapshot.actives, List.mem_filter, Bool.and_eq_true, beq_iff_eq, Bool.not_eq_true', beq_eq_false_iff_ne,
    ne_eq]

/-- The ceiling a record without a held flow asks for (02 R48). -/
theorem Snapshot.flow_active {p : Snapshot} {r : SnapRec} (h : r.state ≠ .suspended) :
    p.flow r = min r.maxFlow (p.power r * 10000 / (419 * r.dt)) := by
  unfold Snapshot.flow
  cases hst : r.state with
  | suspended => exact absurd hst h
  | _ => rfl

/-- The ceiling of a SUSPENDED record is its held flow (02 R48). -/
theorem Snapshot.ceilingOf_suspended {p : Snapshot} {r : SnapRec} (h : r.state = .suspended) :
    p.ceilingOf r = if r.expired then r.fallback.getD 0 else r.ceiling := by
  rw [Snapshot.ceilingOf, if_pos h, Snapshot.flow, h]

/-- A branch is scaled when its ACTIVE ceilings ask more than is available (02 R49). -/
theorem Snapshot.limitedIn_iff {p : Snapshot} {b : Fin 8} : p.limitedIn b = true ↔ p.available b < p.wanted b :=
  decide_eq_true_iff

section branch
variable {p : Snapshot} {b : Fin 8}

/-- The ceilings of a branch that is not scaled (02 R49). -/
theorem Snapshot.ceilingOf_whole (h : p.limitedIn b = false) {r : SnapRec} (hr : r ∈ p.actives b) :
    p.ceilingOf r = p.flow r := by
  obtain ⟨-, rfl, hst⟩ := Snapshot.mem_actives.mp hr
  rw [Snapshot.ceilingOf, if_neg hst, if_neg (by rw [h]; decide)]

/-- The ceilings of a scaled branch: the rounded-down part, and a tenth more for the lucky (02 R49, R50). -/
theorem Snapshot.ceilingOf_scaled (h : p.limitedIn b = true) {r : SnapRec} (hr : r ∈ p.actives b) : p.ceilingOf r =
    p.flow r * p.available b / p.wanted b + if (p.luckyOn b).contains r.id then 1 else 0 := by
  obtain ⟨-, rfl, hst⟩ := Snapshot.mem_actives.mp hr
  rw [Snapshot.ceilingOf, if_neg hst, if_pos h, Snapshot.scaled]

/-- The ids that can receive a tenth of the residue, in the order they do (02 R50). -/
def Snapshot.askers (p : Snapshot) (b : Fin 8) : List (Fin 96) :=
  ((p.actives b).filter (fun r => 0 < p.flow r)).map (·.id)

theorem Snapshot.luckyOn_eq (p : Snapshot) (b : Fin 8) : p.luckyOn b = (p.askers b).take
    (p.available b - ((p.actives b).map (fun r => p.flow r * p.available b / p.wanted b)).sum) := by
  have hscaled : (p.actives b).map p.scaled = (p.actives b).map (fun r => p.flow r * p.available b / p.wanted b) := by
    refine List.map_congr_left fun r hr => ?_
    obtain ⟨-, rfl, -⟩ := Snapshot.mem_actives.mp hr
    rfl
  rw [← hscaled]
  rfl

variable (hid : (p.recs.map (·.id)).Nodup)
include hid

theorem Snapshot.actives_nodup (b : Fin 8) : ((p.actives b).map (·.id)).Nodup :=
  hid.sublist (List.filter_sublist.map _)

/-- A record dealt a tenth asks for some flow. -/
theorem Snapshot.flow_pos_of_lucky {r : SnapRec} (hr : r ∈ p.actives b) (h : (p.luckyOn b).contains r.id = true) :
    0 < p.flow r := by
  rw [Snapshot.luckyOn_eq] at h
  obtain ⟨q, hq, hqid⟩ := List.mem_map.mp (List.mem_of_mem_take (List.contains_iff_mem.mp h))
  obtain ⟨hmem, hpos⟩ := List.mem_filter.mp hq
  rw [← eq_of_id_eq (Snapshot.actives_nodup hid b) hmem hr hqid]
  exact of_decide_eq_true hpos

/-- No ACTIVE ceiling is above what the record asks (02 R49). -/
theorem Snapshot.ceilingOf_le_flow {r : SnapRec} (hr : r ∈ p.actives b) : p.ceilingOf r ≤ p.flow r := by
  cases h : p.limitedIn b with
  | false => exact (Snapshot.ceilingOf_whole h hr).le
  | true =>
    rw [Snapshot.ceilingOf_scaled h hr]
    exact mul_div_add_le (Snapshot.flow_pos_of_lucky hid hr) (Snapshot.limitedIn_iff.mp h)

/-- A scaled branch gives out exactly what is available (02 R50). -/
theorem Snapshot.ceilingOf_sum (h : p.limitedIn b = true) : ((p.actives b).map p.ceilingOf).sum = p.available b := by
  have hsum := dealt_sum (Snapshot.actives_nodup hid b) p.flow rfl (Snapshot.limitedIn_iff.mp h)
    ((Snapshot.actives_nodup hid b).sublist (List.filter_sublist.map _)) (order := p.askers b) (List.Perm.refl _)
  refine Eq.trans (congrArg List.sum (List.map_congr_left fun r hr => ?_)) hsum
  rw [Snapshot.ceilingOf_scaled h hr, Snapshot.luckyOn_eq]
  rfl

omit hid in
/-- The tenths left over go out in ascending id (02 R50). -/
theorem Snapshot.lucky_of_lucky (hasc : (p.recs.map (·.id)).Pairwise (· < ·)) {r q : SnapRec} (hr : r ∈ p.actives b)
    (hpos : 0 < p.flow r) (hlt : r.id < q.id) (hq : (p.luckyOn b).contains q.id = true) :
    (p.luckyOn b).contains r.id = true := by
  rw [List.contains_iff_mem, Snapshot.luckyOn_eq] at hq ⊢
  by_contra hr'
  have hmem : r.id ∈ p.askers b := List.mem_map_of_mem (List.mem_filter.mpr ⟨hr, decide_eq_true hpos⟩)
  have haskers : (p.askers b).Sublist (p.recs.map (·.id)) :=
    (List.filter_sublist.trans List.filter_sublist).map _
  have hbefore := (before_of_take hq hmem hr').trans haskers
  exact absurd (List.rel_of_pairwise_cons (hasc.sublist hbefore) List.mem_cons_self) (not_lt.mpr hlt.le)

end branch

/-- Settles O25. -/
theorem ceilingsWithinBranchLimit : Obligations.CeilingsWithinBranchLimit := by
  intro p b hid
  have hflow : ∀ r ∈ p.actives b, p.flow r = min r.maxFlow (p.power r * 10000 / (419 * r.dt)) := fun r hr =>
    Snapshot.flow_active (Snapshot.mem_actives.mp hr).2.2
  have hwanted : p.wanted b = ((p.actives b).map (fun r => min r.maxFlow (p.power r * 10000 / (419 * r.dt)))).sum :=
    congrArg List.sum (List.map_congr_left hflow)
  have havail : p.available b = p.limits[b] - p.heldFlow b := rfl
  refine ⟨?_, fun h => Snapshot.ceilingOf_sum hid h, fun h r hr => ?_, fun r hr => ?_,
    fun r => Snapshot.ceilingOf_suspended,
    ?_, fun A N F hA hF hN => ?_, ?_⟩
  · cases h : p.limitedIn b with
    | true => exact (Snapshot.ceilingOf_sum hid h).le
    | false =>
      have hle : ¬ p.available b < p.wanted b := mt Snapshot.limitedIn_iff.mpr (by rw [h]; decide)
      exact (List.sum_le_sum fun r hr => Snapshot.ceilingOf_le_flow hid hr).trans (not_lt.mp hle)
  · rw [Snapshot.ceilingOf_whole h hr, hflow r hr]
  · exact (Snapshot.ceilingOf_le_flow hid hr).trans (hflow r hr).le
  · refine congrArg List.sum (List.map_congr_left fun r hr => ?_)
    have hst : r.state = .suspended := by
      simpa only [Bool.and_eq_true, beq_iff_eq] using ((Bool.and_eq_true _ _).mp (List.mem_filter.mp hr).2).2
    rw [Snapshot.ceilingOf, if_pos hst]
  · subst hF
    rw [← hwanted] at hN
    rw [← havail] at hA
    subst hA hN
    refine ⟨Snapshot.limitedIn_iff, fun hlt => ?_⟩
    have hlim := Snapshot.limitedIn_iff.mpr hlt
    refine ⟨fun r hr => ?_, fun hasc r hr q hq hpos hrq hqone => ?_⟩
    · rw [Snapshot.ceilingOf_scaled hlim hr, hflow r hr]
      split
      · exact .inr rfl
      · exact .inl rfl
    · rw [Snapshot.ceilingOf_scaled hlim hq, hflow q hq] at hqone
      have hlucky : (p.luckyOn b).contains q.id = true := by
        by_contra hc
        rw [if_neg hc] at hqone
        dsimp only at hqone
        omega
      rw [Snapshot.ceilingOf_scaled hlim hr,
        if_pos (Snapshot.lucky_of_lucky hasc hr (by rw [hflow r hr]; exact hpos) hrq hlucky), hflow r hr]
  · rw [Snapshot.strandedIn, ← hwanted, ← havail]
    split
    · rfl
    next h => rw [Nat.sub_eq_zero_of_le (not_lt.mp (mt Snapshot.limitedIn_iff.mpr h)), Nat.min_zero]

end Sys2Proof.Machine
end

section
/-! PROOFS. The split of a ceiling among drops (O26). -/

namespace Sys2Proof.Machine

/-! ## The drop of the largest demand -/

/-- The drop of the largest demand is of the list, no drop of it asks more, and in ascending address it is the lowest
of its equals (02 R51). -/
theorem largestDemand_spec {ds : List Drop} {x : Drop} (h : largestDemand ds = some x) :
    x ∈ ds ∧ (∀ e ∈ ds, e.demand ≤ x.demand) ∧
      (ds.Pairwise (fun d e => d.addr < e.addr) → ∀ e ∈ ds, e.demand = x.demand → x.addr ≤ e.addr) := by
  induction ds generalizing x with
  | nil => cases h
  | cons d ds ih =>
    simp only [List.mem_cons, List.pairwise_cons, forall_eq_or_imp]
    cases hm : largestDemand ds with
    | none =>
      have hnil : ds = [] := by
        cases ds with
        | nil => rfl
        | cons e es =>
          simp only [largestDemand] at hm
          split at hm
          · cases hm
          · split at hm <;> cases hm
      simp only [largestDemand, hm, Option.some.injEq] at h
      subst h hnil
      exact ⟨.inl rfl, ⟨Nat.le_refl _, nofun⟩, fun _ => ⟨fun _ => Nat.le_refl _, nofun⟩⟩
    | some y =>
      obtain ⟨hy, hmax, hlow⟩ := ih hm
      simp only [largestDemand, hm] at h
      split at h <;> cases h
      next hlt =>
        exact ⟨.inr hy, ⟨Nat.le_of_lt hlt, hmax⟩, fun ⟨_, hds⟩ => ⟨fun he => absurd he (Nat.ne_of_lt hlt), hlow hds⟩⟩
      next hge =>
        exact ⟨.inl rfl, ⟨Nat.le_refl _, fun e he => Nat.le_trans (hmax e he) (Nat.not_lt.mp hge)⟩,
          fun ⟨hd, _⟩ => ⟨fun _ => Nat.le_refl _, fun e he _ => Nat.le_of_lt (hd e he)⟩⟩

/-- A list that is not empty has a drop of the largest demand. -/
theorem largestDemand_isSome {ds : List Drop} (h : ds ≠ []) : ∃ x, largestDemand ds = some x := by
  cases ds with
  | nil => exact absurd rfl h
  | cons d ds =>
    unfold largestDemand
    split
    · exact ⟨_, rfl⟩
    · split <;> exact ⟨_, rfl⟩

theorem mem_liveDrops {ds : List Drop} {d : Drop} : d ∈ liveDrops ds ↔ d ∈ ds ∧ d.state = .live := by
  simp only [liveDrops, List.mem_filter, beq_iff_eq]

/-! ## The drop that takes the remainder -/

section split

variable {live : List Drop}

/-- With demand, the remainder goes to the drop of the largest demand. -/
theorem liveTaker_of_demand (h : 0 < demandSum live) : ∃ x, largestDemand live = some x ∧ liveTaker live = x.addr := by
  have hne : live ≠ [] := fun hnil => by rw [hnil] at h; exact absurd h (by decide)
  obtain ⟨x, hx⟩ := largestDemand_isSome hne
  exact ⟨x, hx, by rw [liveTaker, if_pos h, hx]; rfl⟩

/-- With no demand, the remainder goes to the first drop. -/
theorem liveTaker_of_no_demand {d : Drop} (h : demandSum (d :: live) = 0) : liveTaker (d :: live) = d.addr := by
  rw [liveTaker, if_neg (Nat.not_lt.mpr (Nat.le_of_eq h))]
  rfl

/-- The remainder goes to a drop of the list. -/
theorem liveTaker_mem (h : live ≠ []) : liveTaker live ∈ live.map (·.addr) := by
  rcases Nat.eq_zero_or_pos (demandSum live) with hz | hpos
  · cases live with
    | nil => exact absurd rfl h
    | cons d ds =>
      rw [liveTaker_of_no_demand hz]
      exact List.mem_cons_self
  · obtain ⟨x, hx, ht⟩ := liveTaker_of_demand hpos
    rw [ht]
    exact List.mem_map_of_mem (largestDemand_spec hx).1

/-! ## The shares before the remainder -/

theorem liveBase_of_demand {ceiling : Nat} (h : 0 < demandSum live) (d : Drop) :
    liveBase ceiling live d = ceiling * d.demand / demandSum live := if_pos h

theorem liveBase_of_no_demand {ceiling : Nat} (h : demandSum live = 0) (d : Drop) :
    liveBase ceiling live d = ceiling / live.length := if_neg (Nat.not_lt.mpr (Nat.le_of_eq h))

/-- The sum of the shares of an equal split, before the remainder. -/
theorem equal_sum {α : Type} (l : List α) (n : Nat) : (l.map (fun _ => n)).sum = l.length * n := by
  rw [List.map_const', List.sum_replicate, smul_eq_mul]

/-- The shares before the remainder give out no more than the ceiling. -/
theorem liveBase_sum_le (ceiling : Nat) : (live.map (liveBase ceiling live)).sum ≤ ceiling := by
  rcases Nat.eq_zero_or_pos (demandSum live) with hz | hpos
  · simp only [funext (liveBase_of_no_demand hz), equal_sum]
    exact Nat.mul_div_le _ _
  · have hmul := parts_mul_le live (·.demand) ceiling (demandSum live)
    simp only [funext (liveBase_of_demand hpos), Nat.mul_comm ceiling]
    refine Nat.le_of_mul_le_mul_right (Nat.le_trans hmul (Nat.le_of_eq ?_)) hpos
    exact Nat.mul_comm _ _

end split

/-! ## The whole split -/

/-- Of the drops of a list with different addresses, what is given to one address is given once. -/
theorem sum_at_addr {ds : List Drop} (hn : (ds.map (·.addr)).Nodup) {a : Nat} (ha : a ∈ ds.map (·.addr)) (n : Nat) :
    (ds.map (fun d => if d.addr = a then n else 0)).sum = n := by
  induction ds with
  | nil => cases ha
  | cons d ds ih =>
    obtain ⟨hd, hn⟩ := List.nodup_cons.mp hn
    rw [List.map_cons, List.sum_cons]
    by_cases heq : d.addr = a
    · have hzero : ds.map (fun d => if d.addr = a then n else 0) = ds.map (fun _ => 0) :=
        List.map_congr_left fun e he => if_neg fun hea =>
          hd (List.mem_map.mpr ⟨e, he, hea.trans heq.symm⟩)
      rw [if_pos heq, hzero, equal_sum, Nat.mul_zero, Nat.add_zero]
    · rw [if_neg heq, Nat.zero_add]
      exact ih hn ((List.mem_cons.mp ha).resolve_left (Ne.symm heq))

section share

variable {ceiling : Nat} {ds : List Drop}

theorem activeShare_of_not_live {d : Drop} (h : d.state ≠ .live) : activeShare ceiling ds d = 0 := if_neg h

theorem activeShare_of_live {d : Drop} (h : d.state = .live) : activeShare ceiling ds d =
    liveBase ceiling (liveDrops ds) d + (if d.addr = liveTaker (liveDrops ds) then
      ceiling - ((liveDrops ds).map (liveBase ceiling (liveDrops ds))).sum else 0) := if_pos h

/-- A LIVE drop that does not take the remainder gets its part and no more. -/
theorem activeShare_of_not_taker {d : Drop} (h : d.state = .live) (ht : d.addr ≠ liveTaker (liveDrops ds)) :
    activeShare ceiling ds d = liveBase ceiling (liveDrops ds) d := by
  rw [activeShare_of_live h, if_neg ht, Nat.add_zero]

/-- Only the LIVE drops of a list share in a split. -/
theorem activeShare_sum_live : (ds.map (activeShare ceiling ds)).sum =
    ((liveDrops ds).map (activeShare ceiling ds)).sum := by
  have hpart : ∀ es : List Drop, (es.map (activeShare ceiling ds)).sum =
      ((liveDrops es).map (activeShare ceiling ds)).sum := fun es => by
    induction es with
    | nil => rfl
    | cons e es ih =>
      rw [List.map_cons, List.sum_cons, ih]
      by_cases he : e.state = .live
      · rw [show liveDrops (e :: es) = e :: liveDrops es from List.filter_cons_of_pos (beq_iff_eq.mpr he),
          List.map_cons, List.sum_cons]
      · rw [show liveDrops (e :: es) = liveDrops es from List.filter_cons_of_neg fun hc => he (beq_iff_eq.mp hc),
          activeShare_of_not_live he, Nat.zero_add]
  exact hpart ds

/-- With a LIVE drop a split gives out the whole ceiling (02 R51). -/
theorem activeShare_sum (hn : (ds.map (·.addr)).Nodup) (hl : liveDrops ds ≠ []) :
    (ds.map (activeShare ceiling ds)).sum = ceiling := by
  have hlive : (liveDrops ds).map (activeShare ceiling ds) = (liveDrops ds).map (fun d =>
      liveBase ceiling (liveDrops ds) d + (if d.addr = liveTaker (liveDrops ds) then
        ceiling - ((liveDrops ds).map (liveBase ceiling (liveDrops ds))).sum else 0)) :=
    List.map_congr_left fun d hd => activeShare_of_live (mem_liveDrops.mp hd).2
  have hnl : ((liveDrops ds).map (·.addr)).Nodup := hn.sublist (List.filter_sublist.map _)
  rw [activeShare_sum_live, hlive, List.sum_map_add, sum_at_addr hnl (liveTaker_mem hl)]
  exact Nat.add_sub_cancel' (liveBase_sum_le ceiling)

/-- With no demand the lowest of the LIVE drops gets its part and the remainder (02 R51). -/
theorem activeShare_lowest {d : Drop} (h : d.state = .live) (hz : demandSum (liveDrops ds) = 0)
    (ht : d.addr = liveTaker (liveDrops ds)) :
    activeShare ceiling ds d = ceiling / (liveDrops ds).length + ceiling % (liveDrops ds).length := by
  have hmod := Nat.mod_add_div ceiling (liveDrops ds).length
  rw [activeShare_of_live h, if_pos ht]
  simp only [funext (liveBase_of_no_demand hz), equal_sum]
  omega

/-- Of LIVE drops in ascending address with demand, the one of the largest demand, the lowest address taking a tie,
takes the remainder. -/
theorem liveTaker_eq_largest (hasc : (ds.map (·.addr)).Pairwise (· < ·)) {d : Drop} (hd : d ∈ ds) (h : d.state = .live)
    (hpos : 0 < demandSum (liveDrops ds))
    (hmax : ∀ e ∈ ds, e.state = .live → e.demand < d.demand ∨ (e.demand = d.demand ∧ d.addr ≤ e.addr)) :
    liveTaker (liveDrops ds) = d.addr := by
  obtain ⟨x, hx, ht⟩ := liveTaker_of_demand hpos
  obtain ⟨hxm, hge, hlow⟩ := largestDemand_spec hx
  obtain ⟨hxd, hxl⟩ := mem_liveDrops.mp hxm
  have hdm := mem_liveDrops.mpr ⟨hd, h⟩
  have hle := hlow ((List.pairwise_map.mp hasc).sublist List.filter_sublist) d hdm
  have hdx := hge d hdm
  have hxmax := hmax x hxd hxl
  omega

/-- Of LIVE drops in ascending address without demand, the one of the lowest address takes the remainder. -/
theorem liveTaker_eq_lowest (hasc : (ds.map (·.addr)).Pairwise (· < ·)) {d : Drop} (hd : d ∈ ds) (h : d.state = .live)
    (hz : demandSum (liveDrops ds) = 0) (hmin : ∀ e ∈ ds, e.state = .live → d.addr ≤ e.addr) :
    liveTaker (liveDrops ds) = d.addr := by
  have hasc' : (liveDrops ds).Pairwise (fun d e => d.addr < e.addr) :=
    (List.pairwise_map.mp hasc).sublist List.filter_sublist
  have hdm := mem_liveDrops.mpr ⟨hd, h⟩
  have hmem : ∀ e ∈ liveDrops ds, d.addr ≤ e.addr := fun e he =>
    hmin e (mem_liveDrops.mp he).1 (mem_liveDrops.mp he).2
  generalize liveDrops ds = live at hz hasc' hdm hmem
  cases live with
  | nil => cases hdm
  | cons x xs =>
    rw [liveTaker_of_no_demand hz]
    rcases List.mem_cons.mp hdm with heq | hxs
    · rw [heq]
    · exact absurd ((List.pairwise_cons.mp hasc').1 d hxs) (Nat.not_lt.mpr (hmem x List.mem_cons_self))

end share

/-! ## The equal split of a fallback flow -/

/-- The drops of an equal split after the first get its part and no more (02 R52, 06 R128). -/
theorem fallbackShare_of_tail {flow : Nat} {d e : Drop} {ds : List Drop} (h : e.addr ≠ d.addr) :
    fallbackShare flow (d :: ds) e = flow / (ds.length + 1) :=
  (congrArg _ (if_neg fun he => h (Option.some.inj he))).trans (Nat.add_zero _)

/-- The first drop of an equal split takes the remainder (02 R52, 06 R128). -/
theorem fallbackShare_head (flow : Nat) (d : Drop) (ds : List Drop) :
    fallbackShare flow (d :: ds) d = flow / (ds.length + 1) + flow % (ds.length + 1) := congrArg _ (if_pos rfl)

/-- Settles O26: a split gives out the ceiling because the parts never reach above it and one drop, the taker, gets what
they leave; who that is follows from the recursion of `largestDemand`. -/
theorem dropSplitsAreWhole : Obligations.DropSplitsAreWhole := by
  refine ⟨fun c ds hn => ⟨fun ⟨d, hd, hl⟩ => ?_, fun d _ => activeShare_of_not_live, fun d _ hl hpos => ?_,
    fun d hd e he hl hel hpos hlt => ?_⟩, fun c ds hasc d hd hl => ⟨fun hpos hmax e _ hel hne => ?_, fun hz hmin => ?_⟩,
    fun flow d ds hn => ?_⟩
  · exact activeShare_sum hn (List.ne_nil_of_mem (mem_liveDrops.mpr ⟨hd, hl⟩))
  · rw [activeShare_of_live hl, liveBase_of_demand hpos]
    exact Nat.le_add_right _ _
  · obtain ⟨x, hx, ht⟩ := liveTaker_of_demand hpos
    obtain ⟨hxm, hge, -⟩ := largestDemand_spec hx
    have hdx : d = x := by
      by_contra hne
      have haddr : d.addr ≠ liveTaker (liveDrops ds) := fun heq =>
        hne (List.inj_on_of_nodup_map hn hd (mem_liveDrops.mp hxm).1 (heq.trans ht))
      rw [activeShare_of_not_taker hl haddr, liveBase_of_demand hpos] at hlt
      exact absurd hlt (Nat.lt_irrefl _)
    rw [hdx]
    exact hge e (mem_liveDrops.mpr ⟨he, hel⟩)
  · rw [activeShare_of_not_taker hel (by rwa [liveTaker_eq_largest hasc hd hl hpos hmax]), liveBase_of_demand hpos]
  · have ht := liveTaker_eq_lowest hasc hd hl hz hmin
    refine ⟨activeShare_lowest hl hz ht.symm, fun e _ hel hne => ?_⟩
    rw [activeShare_of_not_taker hel (by rwa [ht]), liveBase_of_no_demand hz]
  · have htail : ∀ e ∈ ds, fallbackShare flow (d :: ds) e = flow / (ds.length + 1) := fun e he =>
      fallbackShare_of_tail fun heq => (List.nodup_cons.mp hn).1 (List.mem_map.mpr ⟨e, he, heq⟩)
    refine ⟨?_, htail⟩
    have hmod := Nat.mod_add_div flow (ds.length + 1)
    rw [List.map_cons, List.sum_cons, fallbackShare_head, List.map_congr_left htail, equal_sum]
    rw [Nat.add_mul, Nat.one_mul] at hmod
    omega

end Sys2Proof.Machine
end

section
/-! PROOFS. The bytes of the status reads (O11). -/

namespace Sys2Proof.Machine

/-! ## More bytes of an image -/

/-- Three bytes that carry a number, most significant first. -/
theorem arg3_of_b3 {d : List Byte} {i n : Nat} (hi : d.getD i 0 = BitVec.ofNat 8 (n / 65536))
    (mid : d.getD (i + 1) 0 = BitVec.ofNat 8 (n / 256)) (lo : d.getD (i + 2) 0 = BitVec.ofNat 8 n) :
    arg3 d i = n % 16777216 := by
  rw [arg3, arg_of_b1 hi, arg2_of_b2 mid lo]
  omega

/-- Three bytes that carry a signed value in two's complement. -/
theorem arg3_of_i3 {d : List Byte} {i : Nat} {v : Int}
    (hi : d.getD i 0 = BitVec.ofNat 8 ((v % 16777216).toNat / 65536))
    (mid : d.getD (i + 1) 0 = BitVec.ofNat 8 ((v % 16777216).toNat / 256))
    (lo : d.getD (i + 2) 0 = BitVec.ofNat 8 (v % 16777216).toNat) : (arg3 d i : Int) = v % 16777216 := by
  rw [arg3_of_b3 hi mid lo]
  omega

/-- The first two of four bytes that carry a number carry its upper half. -/
theorem arg2_of_upper {d : List Byte} {i n : Nat} (hi : d.getD i 0 = BitVec.ofNat 8 (n / 16777216))
    (lo : d.getD (i + 1) 0 = BitVec.ofNat 8 (n / 65536)) : arg2 d i = n / 65536 % 65536 :=
  arg2_of_b2 (hi.trans (congrArg _ (Nat.div_div_eq_div_mul n 65536 256).symm)) lo

/-- A byte of one flag. -/
theorem arg_of_flag {d : List Byte} {i : Nat} {b : Bool} (h : d.getD i 0 = BitVec.ofNat 8 (flagNumber [b])) :
    arg d i = if b then 1 else 0 := by
  rw [arg_of_b1 h]
  cases b <;> rfl

/-! ## The curtailment list -/

/-- The byte `j` of the entry `k` of the curtailment list stands four bytes on for every entry before it (03 R63). -/
theorem getD_curtailEntries (l : List CurtailEntry) (k : Nat) (h : k < l.length) (j : Nat) (hj : j < 4) :
    (l.map CurtailEntry.image).flatten.getD (4 * k + j) 0 = (l[k].image).getD j 0 := by
  induction l generalizing k with
  | nil => exact absurd h (Nat.not_lt_zero k)
  | cons e es ih =>
    rw [List.map_cons, List.flatten_cons]
    cases k with
    | zero => rw [Nat.mul_zero, Nat.zero_add, List.getD_append _ _ _ _ hj, List.getElem_cons_zero]
    | succ k =>
      have hlen : e.image.length = 4 := rfl
      rw [List.getD_append_right _ _ _ _ (by omega), show 4 * (k + 1) + j - e.image.length = 4 * k + j by omega,
        ih k (Nat.lt_of_succ_lt_succ h), List.getElem_cons_succ]

/-- The length of the curtailment list's entries. -/
theorem length_curtailEntries (l : List CurtailEntry) : (l.map CurtailEntry.image).flatten.length = 4 * l.length := by
  induction l with
  | nil => rfl
  | cons e es ih =>
    rw [List.map_cons, List.flatten_cons, List.length_append, ih, List.length_cons]
    show 4 + 4 * es.length = 4 * (es.length + 1)
    omega

/-- The bytes of one entry of READ CURTAILMENT LIST (03 R63). -/
theorem curtailImage_entry (s : State) (k : Nat) (h : k < s.engine.curtail.length) :
    arg s.curtailImage (1 + 4 * k) = s.engine.curtail[k].id.val ∧
      arg s.curtailImage (2 + 4 * k) = s.engine.curtail[k].cls % 256 ∧
      arg2 s.curtailImage (3 + 4 * k) = s.engine.curtail[k].pass % 65536 := by
  have hbyte : ∀ j < 4, s.curtailImage.getD (j + 1 + 4 * k) 0 = (s.engine.curtail[k].image).getD j 0 := fun j hj => by
    rw [← getD_curtailEntries _ k h j hj, show j + 1 + 4 * k = 4 * k + j + 1 by omega]
    rfl
  have hid : s.engine.curtail[k].id.val < 256 := s.engine.curtail[k].id.isLt.trans (by decide)
  refine ⟨arg_of_b1_lt (hbyte 0 (by decide)) hid, arg_of_b1 (hbyte 1 (by decide)), arg2_of_b2 (hbyte 2 (by decide)) ?_⟩
  rw [show 3 + 4 * k + 1 = 3 + 1 + 4 * k by omega]
  exact hbyte 3 (by decide)

/-! ## The selected group -/

/-- The group a read selects of some groups: none when none is pending, else one of the highest level, the lowest number
among equals (10 R198). -/
def Attention.SelectedOf (a : Attention) (gs : List (Fin 6)) : Option (Fin 6) → Prop
  | none => ∀ h ∈ gs, a.groupPending h = false
  | some g => g ∈ gs ∧ a.groupPending g = true ∧ ∀ h ∈ gs, a.groupPending h = true →
      a.levels[h] < a.levels[g] ∨ (a.levels[h] = a.levels[g] ∧ g ≤ h)

/-- The group selected so far, after one group more: a pending one of a level above its level (10 R198). -/
def Attention.better (a : Attention) (best : Option (Fin 6)) (g : Fin 6) : Option (Fin 6) :=
  if a.groupPending g then
    match best with
    | none => some g
    | some h => if a.levels[h] < a.levels[g] then some g else some h
  else best

theorem Attention.selected_eq (a : Attention) : a.selected = (List.finRange 6).foldl a.better none := rfl

/-- One group more, of a number above the others. -/
theorem Attention.selectedOf_append {a : Attention} {gs : List (Fin 6)} {best : Option (Fin 6)}
    (h : a.SelectedOf gs best) {g : Fin 6} (hlt : ∀ x ∈ gs, x < g) :
    a.SelectedOf (gs ++ [g]) (a.better best g) := by
  unfold Attention.better
  by_cases hp : a.groupPending g = true
  · rw [if_pos hp]
    cases best with
    | none =>
      refine ⟨List.mem_append_right _ List.mem_cons_self, hp, fun x hx hpx => ?_⟩
      rcases List.mem_append.mp hx with hx | hx
      · exact absurd hpx (by rw [h x hx]; decide)
      · rw [List.mem_singleton.mp hx]
        exact .inr ⟨rfl, Fin.le_refl g⟩
    | some b =>
      obtain ⟨hb, hpb, hmax⟩ := h
      simp only []
      split
      · next hl =>
        refine ⟨List.mem_append_right _ List.mem_cons_self, hp, fun x hx hpx => ?_⟩
        rcases List.mem_append.mp hx with hx | hx
        · exact .inl ((hmax x hx hpx).elim (fun h => Nat.lt_trans h hl) fun h => h.1 ▸ hl)
        · rw [List.mem_singleton.mp hx]
          exact .inr ⟨rfl, Fin.le_refl g⟩
      · next hl =>
        refine ⟨List.mem_append_left _ hb, hpb, fun x hx hpx => ?_⟩
        rcases List.mem_append.mp hx with hx | hx
        · exact hmax x hx hpx
        · rw [List.mem_singleton.mp hx]
          have hbg := Fin.le_of_lt (hlt b hb)
          exact (Nat.lt_or_ge _ _).imp id fun hge => ⟨Nat.le_antisymm (Nat.not_lt.mp hl) hge, hbg⟩
  · rw [if_neg hp]
    have hg := Bool.eq_false_iff.mpr hp
    cases best with
    | none =>
      intro x hx
      rcases List.mem_append.mp hx with hx | hx
      · exact h x hx
      · rwa [List.mem_singleton.mp hx]
    | some b =>
      obtain ⟨hb, hpb, hmax⟩ := h
      refine ⟨List.mem_append_left _ hb, hpb, fun x hx hpx => ?_⟩
      rcases List.mem_append.mp hx with hx | hx
      · exact hmax x hx hpx
      · exact absurd hpx (by rw [List.mem_singleton.mp hx]; exact hp)

/-- The selected group is the one R198 says. -/
theorem Attention.selectedOf_selected (a : Attention) : a.SelectedOf (List.finRange 6) a.selected := by
  have hasc : (List.finRange 6).Pairwise (· < ·) := by decide
  rw [Attention.selected_eq]
  generalize List.finRange 6 = gs at hasc
  induction gs using List.reverseRecOn with
  | nil => exact fun x hx => by cases hx
  | append_singleton gs g ih =>
    obtain ⟨hgs, -, hlt⟩ := List.pairwise_append.mp hasc
    rw [List.foldl_append]
    exact a.selectedOf_append (ih hgs) fun x hx => hlt x hx g List.mem_cons_self

/-- With no group pending none is selected. -/
theorem Attention.selected_none {a : Attention} (h : ∀ g, a.groupPending g = false) : a.selected = none := by
  have hsel := a.selectedOf_selected
  cases hs : a.selected with
  | none => rfl
  | some g =>
    rw [hs] at hsel
    exact absurd hsel.2.1 (by rw [h g]; decide)

/-- A pending group of the highest level, of the lowest number among equals, is the one selected. -/
theorem Attention.selected_some {a : Attention} {g : Fin 6} (hg : a.groupPending g = true)
    (hmax : ∀ h : Fin 6, a.groupPending h = true → a.levels[h] < a.levels[g] ∨ (a.levels[h] = a.levels[g] ∧ g ≤ h)) :
    a.selected = some g := by
  have hsel := a.selectedOf_selected
  cases hs : a.selected with
  | none =>
    rw [hs] at hsel
    exact absurd hg (by rw [hsel g (List.mem_finRange g)]; decide)
  | some b =>
    rw [hs] at hsel
    obtain ⟨-, hb, hbmax⟩ := hsel
    have hbg := hmax b hb
    have hgb := hbmax g (List.mem_finRange g) hg
    exact congrArg some (Fin.ext (by omega))

/-! ## Attention and the changed-connection set -/

/-- A cause's bit in its group's mask (10 R198). -/
theorem Attention.mask_bit {a : Attention} {g : Fin 6} {k : Nat} {q : Cause} (h : (groupCauses g)[k]? = some q)
    (hk : k < 8) : (BitVec.ofNat 8 (a.mask g)).getLsbD k = a.isPending q := by
  rw [BitVec.getLsbD_ofNat, decide_eq_true hk, Bool.true_and]
  refine (testBit_flagNumber ((groupCauses g).map a.isPending) k).trans ?_
  rw [List.getD_eq_getElem?_getD, List.getElem?_map, h]
  rfl

/-- A group has three causes at most. -/
theorem length_groupCauses (g : Fin 6) : (groupCauses g).length ≤ 3 := by
  revert g
  decide

theorem lt_of_groupCause {g : Fin 6} {k : Nat} {q : Cause} (h : (groupCauses g)[k]? = some q) : k < 3 :=
  Nat.lt_of_lt_of_le (List.getElem?_eq_some_iff.mp h).1 (length_groupCauses g)

/-- The unit sets of a group take three bytes. -/
theorem Attention.length_unitBytes (a : Attention) (g : Fin 6) : (a.unitBytes g).length = 3 := by
  simp only [Attention.unitBytes, List.length_take, List.length_append, List.length_cons, List.length_nil]
  omega

/-- A cause's unit set stands in the byte of its place. -/
theorem Attention.unitBytes_getD {a : Attention} {g : Fin 6} {k : Nat} {q : Cause}
    (h : (groupCauses g)[k]? = some q) : (a.unitBytes g).getD k 0 = a.unitsOf q := by
  have hlt : k < ((groupCauses g).map a.unitsOf).length := by
    rw [List.length_map]
    exact (List.getElem?_eq_some_iff.mp h).1
  rw [List.getD_eq_getElem?_getD, Attention.unitBytes, List.getElem?_take_of_lt (lt_of_groupCause h),
    List.getElem?_append_left hlt, List.getElem?_map, h]
  rfl

/-- READ ATTENTION with the group it selects: the six bytes of the group, then those of all (10 R198). -/
theorem Attention.image_some {a : Attention} {g : Fin 6} (h : a.selected = some g) : ∃ u v w : Byte,
    a.unitBytes g = [u, v, w] ∧ a.image = [BitVec.ofNat 8 g, BitVec.ofNat 8 a.levels[g], BitVec.ofNat 8 (a.mask g),
      u, v, w, BitVec.ofNat 8 (flagNumber ((List.finRange 6).map a.groupPending)), BitVec.ofNat 8 a.threshold,
      BitVec.ofNat 8 (flagNumber [a.atn])] := by
  obtain ⟨u, v, w, hu⟩ := List.length_eq_three.mp (a.length_unitBytes g)
  refine ⟨u, v, w, hu, ?_⟩
  rw [Attention.image, Attention.groupImage, h]
  simp only [hu]
  rfl

/-- READ ATTENTION with no group selected. -/
theorem Attention.image_none {a : Attention} (h : a.selected = none) : a.image =
    [255, 0, 0, 0, 0, 0, BitVec.ofNat 8 (flagNumber ((List.finRange 6).map a.groupPending)),
      BitVec.ofNat 8 a.threshold, BitVec.ofNat 8 (flagNumber [a.atn])] := by
  rw [Attention.image, Attention.groupImage, h]
  rfl

/-- The bytes of READ ATTENTION that do not depend on the selected group. -/
theorem Attention.image_tail (a : Attention) : a.image.length = 9 ∧
    a.image.getD 6 0 = BitVec.ofNat 8 (flagNumber ((List.finRange 6).map a.groupPending)) ∧
    a.image.getD 7 0 = BitVec.ofNat 8 a.threshold ∧ a.image.getD 8 0 = BitVec.ofNat 8 (flagNumber [a.atn]) := by
  cases h : a.selected with
  | none =>
    rw [Attention.image_none h]
    exact ⟨rfl, rfl, rfl, rfl⟩
  | some g =>
    obtain ⟨u, v, w, -, himg⟩ := Attention.image_some h
    rw [himg]
    exact ⟨rfl, rfl, rfl, rfl⟩

/-- A byte of the changed-connection set carries its first id in its most significant bit (11 R206). -/
theorem changedByte_bit (set : BitVec 96) (j i : Nat) (hi : i < 8) :
    (changedByte set j).getLsbD (7 - i) = set.getLsbD (8 * j + i) := by
  have hflags : changedByte set j =
      BitVec.ofNat 8 (flagNumber ((List.range 8).reverse.map (fun i => set.getLsbD (8 * j + i)))) := by
    unfold changedByte flagNumber
    rw [List.foldl_eq_foldr_reverse, List.foldr_map]
    simp only [Nat.add_comm]
  rw [hflags, BitVec.getLsbD_ofNat, testBit_flagNumber, decide_eq_true (by omega : 7 - i < 8), Bool.true_and,
    List.getD_eq_getElem?_getD, List.getElem?_map, List.getElem?_reverse (by simp only [List.length_range]; omega),
    List.length_range, List.getElem?_range (by omega), show 8 - 1 - (7 - i) = i by omega]
  rfl

/-- An id's bit in READ CHANGED SET (10 R202). -/
theorem changedImage_bit (set : BitVec 96) (id : Fin 96) :
    ((changedImage set).getD (id.val / 8) 0).getLsbD (7 - id.val % 8) = set.getLsbD id.val := by
  have hid := id.isLt
  rw [changedImage, List.getD_eq_getElem?_getD, List.getElem?_map, List.getElem?_range (by omega)]
  exact (changedByte_bit set _ _ (Nat.mod_lt _ (by decide))).trans (by rw [Nat.div_add_mod])

/-! ## The images, byte by byte -/

/-- READ PASS STATUS, byte by byte (11 R206). -/
theorem State.passStatus_eq (s : State) : s.passStatus =
    [BitVec.ofNat 8 (flagNumber [s.computing]), BitVec.ofNat 8 (flagNumber [s.engine.pend, s.engine.rerun,
      s.engine.rampUnfinished, s.engine.overcommit]), BitVec.ofNat 8 (s.engine.passCount / 256),
     BitVec.ofNat 8 s.engine.passCount, BitVec.ofNat 8 (s.engine.abandoned / 256), BitVec.ofNat 8 s.engine.abandoned,
     BitVec.ofNat 8 (s.engine.headroom / 65536), BitVec.ofNat 8 (s.engine.headroom / 256),
     BitVec.ofNat 8 s.engine.headroom, BitVec.ofNat 8 s.engine.snapCount, BitVec.ofNat 8 s.engine.skipped,
     BitVec.ofNat 8 s.engine.curtail.length, BitVec.ofNat 8 s.engine.interval, BitVec.ofNat 8 s.engine.rampPct,
     BitVec.ofNat 8 (s.engine.deadband / 256), BitVec.ofNat 8 s.engine.deadband,
     BitVec.ofNat 8 (s.engine.interval - s.engine.counter)] := by
  unfold State.passStatus flags b3 b2 b1
  simp only [List.cons_append, List.nil_append]
  rfl

/-- READ PLANT, byte by byte (11 R206). -/
theorem State.plantImage_eq (s : State) : s.plantImage =
    [BitVec.ofNat 8 (s.plant.offer / 65536), BitVec.ofNat 8 (s.plant.offer / 256), BitVec.ofNat 8 s.plant.offer,
     BitVec.ofNat 8 (s.plant.emergency / 65536), BitVec.ofNat 8 (s.plant.emergency / 256),
     BitVec.ofNat 8 s.plant.emergency, BitVec.ofNat 8 ((s.plant.setpoint % 65536).toNat / 256),
     BitVec.ofNat 8 (s.plant.setpoint % 65536).toNat,
     BitVec.ofNat 8 (flagNumber [s.plant.latch, s.plant.level, s.plant.raw, s.engine.overcommit]),
     BitVec.ofNat 8 (s.effectiveOffer / 65536), BitVec.ofNat 8 (s.effectiveOffer / 256),
     BitVec.ofNat 8 s.effectiveOffer, BitVec.ofNat 8 (s.plant.snapOffer / 65536),
     BitVec.ofNat 8 (s.plant.snapOffer / 256), BitVec.ofNat 8 s.plant.snapOffer,
     BitVec.ofNat 8 (s.engine.headroom / 65536), BitVec.ofNat 8 (s.engine.headroom / 256),
     BitVec.ofNat 8 s.engine.headroom] := by
  unfold State.plantImage flags i2 b3 b2
  simp only [List.cons_append, List.nil_append]
  rfl

/-- READ LINE, byte by byte (11 R207). -/
theorem State.lineImage_eq {s : State} {l : Fin 8} {x : Line} (h : s.lines[l] = x) : s.lineImage l =
    [BitVec.ofNat 8 x.state.code, BitVec.ofNat 8 (flagNumber [x.stop, x.latch]), BitVec.ofNat 8 x.rate,
     BitVec.ofNat 8 (x.spacing / 256), BitVec.ofNat 8 x.spacing, BitVec.ofNat 8 (x.timeout / 256),
     BitVec.ofNat 8 x.timeout, BitVec.ofNat 8 x.mode.code, BitVec.ofNat 8 x.phase.code, BitVec.ofNat 8 x.polled,
     BitVec.ofNat 8 x.walk, BitVec.ofNat 8 (x.rounds / 256), BitVec.ofNat 8 x.rounds,
     BitVec.ofNat 8 (s.lineDrops l).length, BitVec.ofNat 8 x.bad, BitVec.ofNat 8 (x.crcCount / 256),
     BitVec.ofNat 8 x.crcCount, BitVec.ofNat 8 (x.brokenCount / 256), BitVec.ofNat 8 x.brokenCount,
     BitVec.ofNat 8 (x.strayCount / 256), BitVec.ofNat 8 x.strayCount, BitVec.ofNat 8 (x.lateCount / 256),
     BitVec.ofNat 8 x.lateCount, BitVec.ofNat 8 (x.loopGood / 256), BitVec.ofNat 8 x.loopGood,
     BitVec.ofNat 8 (x.loopBad / 256), BitVec.ofNat 8 x.loopBad] := by
  subst h
  unfold State.lineImage flags b2 b1
  simp only [List.cons_append, List.nil_append]
  rfl

/-- READ BRANCH, byte by byte (11 R207). -/
theorem State.branchImage_eq {s : State} {n : Fin 8} {x : Branch} {total : Nat} (h : s.branches[n] = x)
    (ht : s.total n = total) : s.branchImage n =
    [BitVec.ofNat 8 x.mode.code, BitVec.ofNat 8 x.gate.code, BitVec.ofNat 8 (flagNumber [x.gate != .shut, x.divider,
      x.liveOver, x.lastOver, x.flowValid, x.cascade, x.overdrawn, x.limited]), BitVec.ofNat 8 x.elapsed,
     BitVec.ofNat 8 (x.k / 256), BitVec.ofNat 8 x.k, BitVec.ofNat 8 x.prescale, BitVec.ofNat 8 (x.live / 256),
     BitVec.ofNat 8 x.live, BitVec.ofNat 8 (x.last / 256), BitVec.ofNat 8 x.last, BitVec.ofNat 8 (x.flow / 256),
     BitVec.ofNat 8 x.flow, BitVec.ofNat 8 (total / 16777216), BitVec.ofNat 8 (total / 65536),
     BitVec.ofNat 8 (total / 256), BitVec.ofNat 8 total, BitVec.ofNat 8 x.overRun, BitVec.ofNat 8 (x.base / 256),
     BitVec.ofNat 8 x.base, BitVec.ofNat 8 x.trim, BitVec.ofNat 8 (x.limit / 256), BitVec.ofNat 8 x.limit,
     BitVec.ofNat 8 (x.stranded / 256), BitVec.ofNat 8 x.stranded] := by
  subst h ht
  unfold State.branchImage flags b4 b3 b2 b1
  simp only [List.cons_append, List.nil_append]
  rfl

/-- READ VALVE, byte by byte (11 R207). -/
theorem Drive.image_eq (d : Drive) : d.image =
    [BitVec.ofNat 8 d.state.code, BitVec.ofNat 8 d.reason.code, BitVec.ofNat 8 (d.position / 256),
     BitVec.ofNat 8 d.position, BitVec.ofNat 8 (flagNumber [d.known, d.coils, d.homeSample]),
     BitVec.ofNat 8 (d.target / 256), BitVec.ofNat 8 d.target, BitVec.ofNat 8 d.phase,
     BitVec.ofNat 8 ((d.encoder % 16777216).toNat / 65536), BitVec.ofNat 8 ((d.encoder % 16777216).toNat / 256),
     BitVec.ofNat 8 (d.encoder % 16777216).toNat, BitVec.ofNat 8 ((d.reported % 16777216).toNat / 65536),
     BitVec.ofNat 8 ((d.reported % 16777216).toNat / 256), BitVec.ofNat 8 (d.reported % 16777216).toNat,
     BitVec.ofNat 8 (d.homingSteps / 256), BitVec.ofNat 8 d.homingSteps, BitVec.ofNat 8 (d.travel / 256),
     BitVec.ofNat 8 d.travel, BitVec.ofNat 8 d.excitation.code, BitVec.ofNat 8 (d.rate / 256), BitVec.ofNat 8 d.rate,
     BitVec.ofNat 8 d.ratio, BitVec.ofNat 8 d.tolerance] := by
  unfold Drive.image flags i3 b3 b2 b1
  simp only [List.cons_append, List.nil_append]
  rfl

/-! ## Totals and deviations -/

/-- A branch that is odd or not cascaded has no total (07 R145). -/
theorem State.total_zero {s : State} {n : Fin 8} (h : n.val % 2 = 1 ∨ s.branches[n].cascade = false) :
    s.total n = 0 := by
  refine if_neg fun hc => ?_
  simp only [isEven, Bool.and_eq_true, beq_iff_eq] at hc
  obtain ⟨heven, hcas⟩ := hc
  rcases h with hodd | hno
  · omega
  · rw [hno] at hcas
    cases hcas

/-- The total of a cascaded even branch (07 R145). -/
theorem State.total_cascaded {s : State} {n : Fin 8} {x : Branch} (hx : s.branches[n] = x) (heven : n.val % 2 = 0)
    (hc : x.cascade = true) : s.total n = s.branches[n + 1].live * 65536 + x.live := by
  subst hx
  have hpartner : s.branches[partner n] = s.branches[n + 1] :=
    congrArg (fun m : Fin 8 => s.branches[m]) (if_pos heven)
  rw [State.total, if_pos (by rw [hc, isEven, heven]; rfl), hpartner]

/-- Settles O11, image by image: each byte is one of a number, of a part of one, or of flags. -/
theorem statusImages : Obligations.StatusImages := by
  refine ⟨fun s e p c he hp hc => ?_, fun s n d b hd hb => ?_, fun s n d a c hd ha hc => ?_⟩
  · have hpass : e = s.passStatus := he
    have hplant : p = s.plantImage := hp
    rw [State.passStatus_eq] at hpass
    rw [State.plantImage_eq] at hplant
    have hengine := fun k => bit_of_flags (d := e) (i := 1) (k := k)
      [s.engine.pend, s.engine.rerun, s.engine.rampUnfinished, s.engine.overcommit] (by rw [hpass]; rfl)
    have hlevels := fun k => bit_of_flags (d := p) (i := 8) (k := k)
      [s.plant.latch, s.plant.level, s.plant.raw, s.engine.overcommit] (by rw [hplant]; rfl)
    have hlen : c.length = 1 + 4 * s.engine.curtail.length := by
      rw [hc]
      exact (congrArg (· + 1) (length_curtailEntries _)).trans (Nat.add_comm _ _)
    have hentry : c = s.curtailImage := hc
    clear he hp hc
    subst hpass hplant hentry
    exact ⟨rfl, rfl, hlen, arg_of_flag rfl,
      hengine 0 (by decide), hengine 1 (by decide), hengine 2 (by decide), hengine 3 (by decide),
      arg_flags_lt [s.engine.pend, s.engine.rerun, s.engine.rampUnfinished, s.engine.overcommit] rfl,
      arg2_of_b2 rfl rfl, arg2_of_b2 rfl rfl, arg3_of_b3 rfl rfl rfl, arg_of_b1 rfl, arg_of_b1 rfl, arg_of_b1 rfl,
      arg_of_b1 rfl, arg_of_b1 rfl, arg2_of_b2 rfl rfl, arg_of_b1 rfl,
      arg3_of_b3 rfl rfl rfl, arg3_of_b3 rfl rfl rfl, arg2_of_i2 rfl rfl, hlevels 0 (by decide), hlevels 1 (by decide),
      hlevels 2 (by decide), hlevels 3 (by decide),
      arg_flags_lt [s.plant.latch, s.plant.level, s.plant.raw, s.engine.overcommit] rfl, arg3_of_b3 rfl rfl rfl,
      arg3_of_b3 rfl rfl rfl, arg3_of_b3 rfl rfl rfl, arg_of_b1 rfl, curtailImage_entry s⟩
  · have hline : d = s.lineImage n := hd.trans (congrArg s.lineImage (unitOfByte n []))
    have hbranch : b = s.branchImage n := hb.trans (congrArg s.branchImage (unitOfByte n []))
    have hdrops : (s.lineDrops n).length = s.drops.countP (fun x => x.line == n) := List.countP_eq_length_filter.symm
    have hzero := State.total_zero (s := s) (n := n)
    clear hd hb
    generalize hx : s.lines[n] = x
    generalize hy : s.branches[n] = y at hzero ⊢
    have htotal := State.total_cascaded hy
    generalize ht : s.total n = total at hzero htotal
    rw [State.lineImage_eq hx] at hline
    rw [State.branchImage_eq hy ht] at hbranch
    have hflags := fun k => bit_of_flags (d := d) (i := 1) (k := k) [x.stop, x.latch] (by rw [hline]; rfl)
    have hgate := fun k => bit_of_flags (d := b) (i := 2) (k := k)
      [y.gate != .shut, y.divider, y.liveOver, y.lastOver, y.flowValid, y.cascade, y.overdrawn, y.limited]
      (by rw [hbranch]; rfl)
    have hup : arg2 b 13 = total / 65536 % 65536 := arg2_of_upper (by rw [hbranch]; rfl) (by rw [hbranch]; rfl)
    have hlow : arg2 b 15 = total % 65536 := arg2_of_b2 (by rw [hbranch]; rfl) (by rw [hbranch]; rfl)
    rw [hdrops] at hline
    generalize s.drops.countP (fun x => x.line == n) = count at hline ⊢
    clear hx hy ht hdrops
    subst hline hbranch
    refine ⟨rfl, rfl, (arg_of_b1 rfl).trans ?_, hflags 0 (by decide), hflags 1 (by decide),
      arg_flags_lt [x.stop, x.latch] rfl, arg_of_b1 rfl, arg2_of_b2 rfl rfl, arg2_of_b2 rfl rfl,
      (arg_of_b1 rfl).trans ?_, (arg_of_b1 rfl).trans ?_, arg_of_b1 rfl, arg_of_b1 rfl, arg2_of_b2 rfl rfl,
      arg_of_b1 rfl, arg_of_b1 rfl, arg2_of_b2 rfl rfl, arg2_of_b2 rfl rfl, arg2_of_b2 rfl rfl,
      arg2_of_b2 rfl rfl, arg2_of_b2 rfl rfl, arg2_of_b2 rfl rfl,
      (arg_of_b1 rfl).trans ?_, (arg_of_b1 rfl).trans ?_, (hgate 0 (by decide)).trans ?_, hgate 1 (by decide),
      hgate 2 (by decide), hgate 3 (by decide), hgate 4 (by decide), hgate 5 (by decide), hgate 6 (by decide),
      hgate 7 (by decide), arg_of_b1 rfl, arg2_of_b2 rfl rfl, arg_of_b1 rfl, arg2_of_b2 rfl rfl, arg2_of_b2 rfl rfl,
      arg2_of_b2 rfl rfl, fun h => ?_, fun heven hcas hlive => ?_, arg_of_b1 rfl, arg2_of_b2 rfl rfl, arg_of_b1 rfl,
      arg2_of_b2 rfl rfl, arg2_of_b2 rfl rfl⟩
    · cases x.state <;> rfl
    · cases x.mode <;> rfl
    · cases x.phase <;> rfl
    · cases y.mode <;> rfl
    · cases y.gate <;> rfl
    · show (y.gate != .shut) = _
      cases y.gate <;> rfl
    · rw [hup, hlow, hzero h]
      exact ⟨rfl, rfl⟩
    · have := htotal heven hcas
      rw [hup, hlow]
      exact ⟨by omega, by omega⟩
  · have hdrive : d = s.drives[n].image := hd.trans (congrArg (fun m => (s.drives[m]).image) (unitOfByte n []))
    have hatt : a = s.att.image := ha
    have hset : c = changedImage s.att.changed := hc
    have hresult : s.readData .readResult [] = [BitVec.ofNat 8 s.port.result.code] := rfl
    obtain ⟨halen, hgroups, hthreshold, hatn⟩ := s.att.image_tail
    rw [hresult]
    clear hd ha hc hresult
    generalize s.drives[n] = x at hdrive ⊢
    rw [Drive.image_eq] at hdrive
    have hflags := fun k => bit_of_flags (d := d) (i := 4) (k := k) [x.known, x.coils, x.homeSample]
      (by rw [hdrive]; rfl)
    have hdev : (arg3 d 11 : Int) = x.reported % 16777216 :=
      arg3_of_i3 (by rw [hdrive]; rfl) (by rw [hdrive]; rfl) (by rw [hdrive]; rfl)
    subst hdrive hatt hset
    refine ⟨rfl, halen, rfl, (arg_of_b1 rfl).trans ?_, (arg_of_b1 rfl).trans ?_, arg2_of_b2 rfl rfl,
      hflags 0 (by decide), hflags 1 (by decide), hflags 2 (by decide),
      arg_flags_lt [x.known, x.coils, x.homeSample] rfl, arg2_of_b2 rfl rfl,
      arg_of_b1 rfl, arg3_of_i3 rfl rfl rfl, fun hk => ?_, fun hk => ?_, arg2_of_b2 rfl rfl, arg2_of_b2 rfl rfl,
      (arg_of_b1 rfl).trans ?_, arg2_of_b2 rfl rfl, arg_of_b1 rfl, arg_of_b1 rfl, fun hno k hk => ?_,
      fun g hg hmax => ?_, fun g => ?_, arg_of_b1 hthreshold, arg_of_flag hatn, changedImage_bit s.att.changed, ?_⟩
    · cases x.state <;> rfl
    · cases x.reason <;> rfl
    · refine Int.natCast_eq_zero.mp ?_
      rw [hdev, Drive.reported, hk]
      rfl
    · rw [hdev, Drive.reported, hk]
      simp only [if_true, clampInt, Drive.deviation, Nat.cast_mul]
    · cases x.excitation <;> rfl
    · rw [Attention.image_none (Attention.selected_none hno)]
      match k, hk with
      | 0, _ | 1, _ | 2, _ | 3, _ | 4, _ | 5, _ => rfl
    · obtain ⟨u, v, w, hunits, himage⟩ := Attention.image_some (Attention.selected_some hg hmax)
      rw [himage]
      refine ⟨arg_of_b1_lt rfl (g.isLt.trans (by decide)), arg_of_b1 rfl, fun k q hq => ?_⟩
      have hk := lt_of_groupCause hq
      refine ⟨Attention.mask_bit hq (by omega), Eq.trans ?_ (Attention.unitBytes_getD hq)⟩
      rw [hunits]
      match k, hk with
      | 0, _ | 1, _ | 2, _ => rfl
    · refine (bit_of_flags _ hgroups (by omega)).trans ?_
      rw [List.getD_eq_getElem?_getD, List.getElem?_map, List.getElem?_eq_getElem (by simp), List.getElem_finRange]
      rfl
    · cases s.port.result <;> rfl

end Sys2Proof.Machine
end

section
/-! PROOFS. The REPORT of a drop that is LIVE already (O45). -/

namespace Sys2Proof.Machine

/-! ## The frame of a REPORT -/

/-- The frame of a REPORT is complete, and its fields say whose it is and what it reports (05 R99 to R101, 11 R204). -/
theorem reportFrame_reads (l : Fin 8) {a : Nat} (ha : a ≤ 30) (dh dl th tl uh ul fh fl v f : Byte) {bytes : List Byte}
    (h : bytes = frameOf [13, 0x32, BitVec.ofNat 8 l.val, BitVec.ofNat 8 a, dh, dl, th, tl, uh, ul, fh, fl, v, f]) :
    completeFrame bytes = true ∧ isReportOf l a bytes = true ∧ reportOf bytes =
      { demand := dh.toNat * 256 + dl.toNat, supply := signed16 (th.toNat * 256 + tl.toNat)
        ret := signed16 (uh.toNat * 256 + ul.toNat), flow := fh.toNat * 256 + fl.toNat, valve := v.toNat
        localOverride := f.getLsbD 0, sensorFault := f.getLsbD 1 } := by
  have hl : l.val < 256 := l.isLt.trans (by decide)
  subst h
  exact ⟨rfl, isReportOf_iff.mpr ⟨rfl, rfl, arg_of_b1_lt rfl hl, arg_of_b1_lt rfl (by omega)⟩, rfl⟩

/-! ## The report stored, and the demand recomputed -/

/-- The state after a valid report of a LIVE drop has been stored and its connection's demand recomputed. -/
def State.measured (s : State) (id : Fin 96) (ds : List Drop) (demand : Nat) (noted : ConnState) : State :=
  { s with
    drops := ds
    conns := s.conns.set id { s.conns[id] with demand := demand }
    engine := { s.engine with
      pend := s.engine.pend || s.conns[id].demandMoves demand s.engine.deadband noted } }

/-- The demand of a connection that is not ACTIVE is not compared. -/
theorem State.measured_other {s : State} {id : Fin 96} (ds : List Drop) (demand : Nat) {noted : ConnState}
    (h : noted ≠ .active) : s.measured id ds demand noted =
      { s with drops := ds, conns := s.conns.set id { s.conns[id] with demand := demand } } := by
  rw [State.measured, Conn.demandMoves_other _ _ _ h, Bool.or_false]

/-- The demand and the standing of an ACTIVE connection after a report of one of its LIVE drops. -/
theorem State.measured_stands {s : State} {id : Fin 96} {c : Conn} (hc : c = s.conns[id]) (ds : List Drop)
    (demand score : Nat) (low : Bool) : (s.measured id ds demand .active).stands id score low = { s with
      drops := ds
      conns := s.conns.set id { c with demand := demand, score := score, lowDt := low }
      engine := { s.engine with pend := s.engine.pend || (low != c.lowDt) || decide (demand ≠ c.demand ∧
        (s.engine.deadband ≤ demand - c.demandSnap ∨ s.engine.deadband ≤ c.demandSnap - demand)) }
      att := if low = c.lowDt then s.att else s.att.raise .lowDtChanged } := by
  subst hc
  have hself : (s.measured id ds demand .active).conns[id] = { s.conns[id] with demand := demand } := by
    rw [State.measured, getElem_set_fin, if_pos rfl]
  have hpend : (s.engine.pend || s.conns[id].demandMoves demand s.engine.deadband .active ||
      (low != s.conns[id].lowDt)) = (s.engine.pend || (low != s.conns[id].lowDt) ||
        decide (demand ≠ s.conns[id].demand ∧ (s.engine.deadband ≤ demand - s.conns[id].demandSnap ∨
          s.engine.deadband ≤ s.conns[id].demandSnap - demand))) := by
    rw [Conn.demandMoves, Bool.or_right_comm]
    simp only [true_and, demandGap_le_iff]
  rw [← hpend, State.stands, hself]
  exact congrArg (fun v => ({ s with
    drops := ds
    conns := v
    engine := { s.engine with
      pend := s.engine.pend || s.conns[id].demandMoves demand s.engine.deadband .active || (low != s.conns[id].lowDt) }
    att := if low = s.conns[id].lowDt then s.att else s.att.raise .lowDtChanged } : State)) (Vector.set_set ..)

section
variable {s : State} {d : Drop} {r : Report}

/-- A valid report of a drop that is LIVE already: the demand, and the scoring of an ACTIVE connection (06 R117). -/
theorem State.applyReport_live (h : d.state = .live) (noted : ConnState) : s.applyReport d noted r =
    if noted = .active then (s.recompute d.conn noted).scoreReport d.conn r else s.recompute d.conn noted := by
  unfold State.applyReport
  rw [h]
  rfl

/-- A valid report of a LIVE drop whose connection is neither VACANT nor RETIRING (06 R117, R120). -/
theorem State.takeReport_live {ds : List Drop} {demand : Nat} (hfind : s.findDrop d.line d.addr = some d)
    (hc : s.conns[d.conn].refuses = false) (hlive : d.state = .live)
    (hds : ds = s.drops.map (fun e => if e.line = d.line ∧ e.addr = d.addr then e.store r else e))
    (hdemand : demand = min 65535 ((ds.filter (fun e => e.conn = d.conn ∧ e.state = .live)).map (·.demand)).sum) :
    s.takeReport d.line d.addr r =
      let t := s.measured d.conn ds demand s.conns[d.conn].state
      if s.conns[d.conn].state = .active then t.scoreReport d.conn r else t := by
  have hnot : s.conns[d.conn].state ≠ .retiring := fun k => by
    rw [Conn.refuses, k] at hc
    cases hc
  have hrec : ({ s with drops := ds } : State).recompute d.conn s.conns[d.conn].state =
      s.measured d.conn ds demand s.conns[d.conn].state :=
    (State.recompute_eq (s := { s with drops := ds }) hc _).trans
      (congrArg (fun n => s.measured d.conn ds n s.conns[d.conn].state) ((State.liveDemand_eq _ _).trans hdemand.symm))
  unfold State.takeReport
  rw [hfind]
  dsimp only
  rw [if_neg hnot, State.modDrop_eq, ← hds, State.applyReport_live hlive, hrec]

/-- A valid report of a RETIRING connection's drop that does not close is stored and does nothing more (06 R130). -/
theorem State.takeReport_retiring_open (hfind : s.findDrop d.line d.addr = some d)
    (hst : s.conns[d.conn].state = .retiring) (hmode : d.mode ≠ some .close) : s.takeReport d.line d.addr r =
      { s with drops := s.drops.map (fun e => if e.line = d.line ∧ e.addr = d.addr then e.store r else e) } := by
  unfold State.takeReport
  rw [hfind]
  dsimp only
  rw [if_pos hst, if_neg hmode, State.modDrop_eq]

end

/-- Settles O45: the frame is the polled drop's REPORT, and what it does is read off from the equation of its
connection's state. -/
theorem reportStoredAndScored : Obligations.ReportStoredAndScored := by
  rintro s l x d d' c r bytes ok skip short demand score low ds hset hpool hx hpoll hphase hstop hd rfl haddr hlive hc
    ⟨dh, dl, th, tl, uh, ul, fh, fl, v, f, hbytes, hr⟩ hok hd' hds hdemand hskip hshort hscore hlow u hu
  have hle : d.addr ≤ 30 := (hpool.2.2.1 d hd).2.1
  obtain ⟨hframe, hrep, hfields⟩ := reportFrame_reads d.line hle dh dl th tl uh ul fh fl v f hbytes
  have hcrc : crcGood bytes = true := hbytes ▸ crcGood_frameOf _
  rw [← hr] at hfields
  rw [← Report.plausible_eq] at hok
  let t : State := { s with lines := s.lines.set d.line { x.space with bad := 0, assembling := false } }
  have hexec : exec (.frameReceived d.line bytes) s = .next (t.takeReport d.line d.addr r).finish := by
    refine congrArg (fun t => Host.Outcome.next (State.finish t)) ?_
    rw [haddr, ← hfields]
    exact State.frameIn_report hx.symm hstop hphase hpoll hframe hcrc (haddr ▸ hrep)
  have hfind : t.findDrop d.line d.addr = some d := State.findDrop_of_mem hpool hd
  have hstored : d' = d.store r := by rw [hd', hok]; rfl
  have hds' : ds = s.drops.map (fun e => if e.line = d.line ∧ e.addr = d.addr then e.store r else e) := by
    rw [hds, hstored]
    refine List.map_congr_left fun e he => ?_
    by_cases hplace : e.line = d.line ∧ e.addr = d.addr
    · rw [hpool.eq_of_place hd he hplace.1 hplace.2]
    · rw [if_neg hplace, if_neg hplace]
  rw [hexec, hu]
  subst hc
  refine ⟨fun hst => ?_, fun hst => ?_, fun hst hmode => ?_⟩
  · have hrefuse : t.conns[d.conn].refuses = false := by
      show s.conns[d.conn].refuses = false
      rw [Conn.refuses, hst]
      rfl
    rw [State.takeReport_live hfind hrefuse hlive hds' hdemand]
    dsimp only
    rw [if_pos hst, State.scoreReport_eq (c := { s.conns[d.conn] with demand := demand }) (score := score) (low := low)
      ?_ ?_ ?_]
    · have hstands := (congrArg (fun n => (t.measured d.conn ds demand n).stands d.conn score low) hst).trans
        (State.measured_stands (s := t) (c := s.conns[d.conn]) rfl ds demand score low)
      exact congrArg _ ((State.finish_of_quiet (by exact hset.1)).trans (congrArg State.attend hstands))
    · rw [State.measured, getElem_set_fin, if_pos rfl]
    · rw [hscore, hskip, hshort, hok]
      rfl
    · rw [hlow, hskip, hshort, hok]
      rfl
  · have hne : s.conns[d.conn].state ≠ .active := fun k => by rcases hst with h | h <;> rw [h] at k <;> cases k
    have hrefuse : t.conns[d.conn].refuses = false := by
      show s.conns[d.conn].refuses = false
      rcases hst with h | h <;> rw [Conn.refuses, h] <;> rfl
    rw [State.takeReport_live hfind hrefuse hlive hds' hdemand]
    dsimp only
    rw [if_neg hne, State.measured_other _ _ hne]
    exact congrArg _ (State.finish_of_settled hset)
  · rw [State.takeReport_retiring_open hfind hst hmode]
    rw [hds']
    exact congrArg _ (State.finish_of_settled hset)

end Sys2Proof.Machine
end

section
/-! PROOFS. What the timed events leave alone: the queue, the port and the settings, and the lines and gates they are
not about (O2). -/

namespace Sys2Proof.Machine

/-! ## What is left alone -/

/-- The queue, the port, the tick count, the settings and the restart marks of the moment: what no timed event
changes. -/
structure Fixed where
  pending : List Instr
  port : Port
  ms : Nat
  demote : Nat
  holdSetting : Nat
  offer : Nat
  setpoint : Int
  emergency : Nat
  interval : Nat
  rampPct : Nat
  deadband : Nat
  levels : Vector Nat 6
  threshold : Nat
  /-- limit, meter constant, base and trim of each branch -/
  branches : Fin 8 → Nat × Nat × Nat × Nat
  restarted : Vector Bool 8

/-- The settings of a branch that `Fixed` holds. -/
def Branch.settings (b : Branch) : Nat × Nat × Nat × Nat := (b.limit, b.k, b.base, b.trim)

/-- The gate of a branch as the Timebase sees it. -/
def Branch.timing (b : Branch) : GateMode × GateState × Nat := (b.mode, b.gate, b.elapsed)

def State.fixed (s : State) : Fixed :=
  { pending := s.pending, port := s.port, ms := s.ms, demote := s.demote, holdSetting := s.holdSetting
    offer := s.plant.offer, setpoint := s.plant.setpoint, emergency := s.plant.emergency
    interval := s.engine.interval, rampPct := s.engine.rampPct, deadband := s.engine.deadband
    levels := s.att.levels, threshold := s.att.threshold, branches := fun n => s.branches[n].settings
    restarted := s.now.restarted }

/-- What an event of one line, or of none, and of one gate, or of none, leaves alone. -/
structure Beside where
  fixed : Fixed
  lines : Fin 8 → Option Line
  gates : Fin 8 → Option (Drive × GateMode × GateState × Nat)

def State.beside (s : State) (l n : Option (Fin 8)) : Beside :=
  { fixed := s.fixed
    lines := fun m => if l = some m then none else some s.lines[m]
    gates := fun m => if n = some m then none else some (s.drives[m], s.branches[m].timing) }

section
variable {s t : State} {l n : Option (Fin 8)}

theorem State.beside_fixed (h : t.beside l n = s.beside l n) : t.fixed = s.fixed := congrArg Beside.fixed h

/-- A line the event is not about. -/
theorem State.beside_line (h : t.beside l n = s.beside l n) {m : Fin 8} (hm : l ≠ some m) :
    t.lines[m] = s.lines[m] := by
  have hline := congrFun (congrArg Beside.lines h) m
  simpa only [State.beside, if_neg hm, Option.some.injEq] using hline

/-- A drive and a gate the event is not about. -/
theorem State.beside_gate (h : t.beside l n = s.beside l n) {m : Fin 8} (hm : n ≠ some m) :
    t.drives[m] = s.drives[m] ∧ t.branches[m].timing = s.branches[m].timing := by
  have hgate := congrFun (congrArg Beside.gates h) m
  simpa only [State.beside, if_neg hm, Option.some.injEq, Prod.mk.injEq] using hgate

/-- A line changed, which the event is about. -/
theorem State.modLine_beside (s : State) (l : Fin 8) (n : Option (Fin 8)) (f : Line → Line) :
    (s.modLine l f).beside (some l) n = s.beside (some l) n := by
  refine congrArg (fun v => ({ s.beside (some l) n with lines := v } : Beside)) (funext fun m => ?_)
  by_cases h : l = m
  · rw [if_pos (congrArg some h), if_pos (congrArg some h)]
  · rw [State.modLine_lines, getElem_set_fin, if_neg h]

/-- A branch changed in none of its settings; its gate is the event's, or is left alone too. -/
theorem State.modBranch_beside {m : Fin 8} {f : Branch → Branch}
    (hf : (f s.branches[m]).settings = s.branches[m].settings)
    (ht : n = some m ∨ (f s.branches[m]).timing = s.branches[m].timing) :
    (s.modBranch m f).beside l n = s.beside l n := by
  have hset : (fun j : Fin 8 => (s.modBranch m f).branches[j].settings) = fun j => s.branches[j].settings :=
    funext fun j => by
      rw [State.modBranch_branches, getElem_set_fin]
      split
      next e => rw [hf, e]
      next => rfl
  have htime : (s.modBranch m f).branches = s.branches.set m (f s.branches[m]) := rfl
  have hgates : (fun j : Fin 8 => if n = some j then none
      else some (s.drives[j], (s.modBranch m f).branches[j].timing)) = (s.beside l n).gates := funext fun j => by
    show _ = if n = some j then none else some (s.drives[j], s.branches[j].timing)
    rw [htime, getElem_set_fin]
    by_cases hj : m = j
    · subst hj
      rcases ht with ht | ht
      · rw [if_pos ht, if_pos ht]
      · rw [if_pos rfl, ht]
    · rw [if_neg hj]
  exact congrArg₂ (fun b g => ({ s.beside l n with fixed := { s.fixed with branches := b }, gates := g } : Beside)) hset
    hgates

/-- A drive changed, which the event is about. -/
theorem State.modDrive_beside (s : State) (l : Option (Fin 8)) (m : Fin 8) (f : Drive → Drive) :
    (s.modDrive m f).beside l (some m) = s.beside l (some m) := by
  refine congrArg (fun v => ({ s.beside l (some m) with gates := v } : Beside)) (funext fun j => ?_)
  by_cases h : m = j
  · rw [if_pos (congrArg some h), if_pos (congrArg some h)]
  · have hdrive : (s.modDrive m f).drives[j] = s.drives[j] := (getElem_set_fin ..).trans (if_neg h)
    rw [hdrive, State.modDrive_branches]

end

/-- A pass over lines, gates or records keeps what each of its steps keeps. -/
theorem foldl_invariant {ι : Type} {f : State → ι → State} {P : State → Prop} (hf : ∀ s i, P s → P (f s i))
    (is : List ι) {s : State} (hs : P s) : P (is.foldl f s) := by
  induction is generalizing s with
  | nil => exact hs
  | cons i is ih => exact ih (hf s i hs)

/-- A pass of whose steps only one touches a part: that step finds the part as it was and leaves it as it ends. -/
theorem foldl_at {ι α : Type} {f : State → ι → State} {part : State → α} {i : ι}
    (hother : ∀ s j, j ≠ i → part (f s j) = part s) {is : List ι} (hn : is.Nodup) (hi : i ∈ is) (s : State) :
    ∃ u, part u = part s ∧ part (is.foldl f s) = part (f u i) := by
  have hrest : ∀ (js : List ι) (t : State), i ∉ js → part (js.foldl f t) = part t := fun js => by
    induction js with
    | nil => exact fun _ _ => rfl
    | cons j js ih =>
      intro t hj
      obtain ⟨hne, hmem⟩ := not_or.mp (mt List.mem_cons.mpr hj)
      exact (ih _ hmem).trans (hother t j (Ne.symm hne))
  induction is generalizing s with
  | nil => cases hi
  | cons j is ih =>
    obtain ⟨hj, hn⟩ := List.nodup_cons.mp hn
    rcases List.mem_cons.mp hi with rfl | hi
    · exact ⟨s, rfl, hrest is _ hj⟩
    · obtain ⟨u, hu, hend⟩ := ih hn hi (f s j)
      exact ⟨u, hu.trans (hother s j fun e => hj (e ▸ hi)), hend⟩

section
variable (s : State) (l n : Option (Fin 8))

/-! ## The end of an event -/

theorem State.startOrRerun_beside : s.startOrRerun.beside l n = s.beside l n := by
  unfold State.startOrRerun
  split <;> rfl

theorem State.finish_beside : s.finish.beside l n = s.beside l n := by
  unfold State.finish
  dsimp only
  split
  · exact State.startOrRerun_beside { s with urgent := false } l n
  · rfl

/-! ## The qualifier -/

theorem State.tripAssertion_beside : s.tripAssertion.beside l n = s.beside l n := by
  unfold State.tripAssertion
  split <;> rfl

theorem State.sampleTrip_beside (asserted : Bool) : (s.sampleTrip asserted).beside l n = s.beside l n := by
  unfold State.sampleTrip
  split
  · rfl
  · split
    · rfl
    · split
      · exact State.tripAssertion_beside _ l n
      · rfl

theorem State.tickTrip_beside : s.tickTrip.beside l n = s.beside l n :=
  (State.finish_beside _ l n).trans (s.sampleTrip_beside l n _)

/-! ## Records and drops -/

theorem State.recompute_beside (id : Fin 96) (noted : ConnState) :
    (s.recompute id noted).beside l n = s.beside l n := by
  unfold State.recompute State.compareDemand
  split
  · dsimp only
    split
    · split <;> rfl
    · rfl
  · rfl

theorem State.gainCause_beside (id : Fin 96) (cause : SuspendCause) :
    (s.gainCause id cause).beside l n = s.beside l n := by
  unfold State.gainCause State.enterSuspended
  split
  · dsimp only
    split <;> rfl
  · rfl
  · rfl

theorem State.vacantIfClosed_beside (id : Fin 96) : (s.vacantIfClosed id).beside l n = s.beside l n := by
  unfold State.vacantIfClosed
  split <;> rfl

theorem State.lineLost_beside (m : Fin 8) (id : Fin 96) : (State.lineLost m s id).beside l n = s.beside l n := by
  unfold State.lineLost State.closeAll
  split
  · split
    · exact s.gainCause_beside l n id .line
    · exact s.gainCause_beside l n id .line
    · exact State.vacantIfClosed_beside _ l n id
    · rfl
  · rfl

theorem State.leavePolling_beside (m : Fin 8) : (s.leavePolling m).beside l n = s.beside l n :=
  State.leavePolling_keeps (P := fun t => t.beside l n = s.beside l n)
    (fun t id h => (t.lineLost_beside l n m id).trans h) s rfl

theorem State.takeMiss_beside (m : Fin 8) (addr : Nat) : (s.takeMiss m addr).beside l n = s.beside l n := by
  unfold State.takeMiss
  split
  · rfl
  · split
    · unfold State.closeMiss State.closeDrop
      split
      · dsimp only
        split
        · exact State.vacantIfClosed_beside _ l n _
        · rfl
      · rfl
    · unfold State.countMiss
      dsimp only
      split
      · split
        · exact (State.gainCause_beside _ l n _ _).trans (State.recompute_beside _ l n _ _)
        · exact State.recompute_beside _ l n _ _
      · rfl

end

/-! ## The timed events of a line -/

section
variable (s : State) (l : Fin 8) (n : Option (Fin 8))

theorem State.lineGoes_beside (st : LineState) : (s.lineGoes l st).beside (some l) n = s.beside (some l) n := by
  have hline := s.modLine_beside l n (fun x => { x.quiet with state := st })
  unfold State.lineGoes
  dsimp only
  split
  · exact (State.leavePolling_beside _ _ n l).trans hline
  · exact hline

theorem State.takeStop_beside : (s.takeStop l).beside (some l) n = s.beside (some l) n := by
  unfold State.takeStop
  split
  · exact s.lineGoes_beside l n .ready
  · rfl

theorem State.endMiss_beside (spoiled : Bool) : (s.endMiss l spoiled).beside (some l) n = s.beside (some l) n := by
  unfold State.endMiss
  dsimp only
  generalize (if spoiled then min 8 (s.lines[l].bad + 1) else 0) = bad
  have hmiss := (State.takeMiss_beside _ (some l) n l s.lines[l].polled).trans
    (s.modLine_beside l n (fun x => { x.space with bad := bad }))
  split
  · exact (State.lineGoes_beside _ l n .faulted).trans hmiss
  · exact (State.takeStop_beside _ l n).trans hmiss

theorem State.responseExpires_beside : (s.responseExpires l).beside (some l) n = s.beside (some l) n := by
  unfold State.responseExpires
  split
  · exact (State.endMiss_beside _ l n false).trans (s.modLine_beside l n _)
  · exact s.modLine_beside l n _
  · rfl

theorem State.pollDrop_beside (d : Drop) (wrap : Bool) :
    (s.pollDrop l d wrap).beside (some l) n = s.beside (some l) n :=
  State.modLine_beside _ l n _

theorem State.select_beside : (s.select l).beside (some l) n = s.beside (some l) n := by
  unfold State.select
  split
  · unfold State.selectPolling
    split
    · exact s.pollDrop_beside l n _ _
    · split
      · exact s.pollDrop_beside l n _ _
      · exact s.modLine_beside l n _
  · exact s.modLine_beside l n _
  · rfl

theorem State.selectOrWait_beside : (s.selectOrWait l).beside (some l) n = s.beside (some l) n := by
  unfold State.selectOrWait
  split
  · exact s.modLine_beside l n _
  · exact s.select_beside l n

theorem State.spacingEnds_beside : (s.spacingEnds l).beside (some l) n = s.beside (some l) n := by
  unfold State.spacingEnds
  split
  · exact (State.selectOrWait_beside _ l n).trans (s.modLine_beside l n _)
  · rfl

theorem State.idleSelects_beside : (s.idleSelects l).beside (some l) n = s.beside (some l) n := by
  unfold State.idleSelects
  split
  · exact s.selectOrWait_beside l n
  · rfl

/-- The 1 ms tick of a line touches no other line, no gate and nothing fixed. -/
theorem State.tickLine_beside : (s.tickLine l).beside (some l) n = s.beside (some l) n := by
  unfold State.tickLine
  dsimp only
  split
  · split
    · exact (State.finish_beside _ _ n).trans (s.responseExpires_beside l n)
    · exact s.modLine_beside l n _
  · split
    · split
      · exact (State.finish_beside _ _ n).trans (s.spacingEnds_beside l n)
      · exact s.modLine_beside l n _
    · exact (State.finish_beside _ _ n).trans (s.idleSelects_beside l n)

end

/-! ## The pass in flight -/

section
variable (s : State) (l n : Option (Fin 8))

theorem State.writeRec_beside (p : Snapshot) (r : SnapRec) : (State.writeRec p s r).beside l n = s.beside l n := by
  rw [State.writeRec_eq]
  rfl

theorem State.writeBranch_beside (p : Snapshot) (b : Fin 8) : (State.writeBranch p s b).beside l n = s.beside l n := by
  have hbranch : (s.modBranch b (fun x => { x with limited := p.limitedIn b, stranded := p.strandedIn b })).beside l n =
      s.beside l n := State.modBranch_beside rfl (.inr rfl)
  unfold State.writeBranch
  dsimp only
  split <;> exact hbranch

theorem State.publishCauses_beside (p : Snapshot) : (s.publishCauses p).beside l n = s.beside l n := by
  unfold State.publishCauses
  dsimp only
  split <;> split <;> rfl

theorem State.afterPublish_beside : s.afterPublish.beside l n = s.beside l n := by
  unfold State.afterPublish
  dsimp only
  split <;> rfl

theorem State.published_beside (p : Snapshot) : (s.published p).beside l n = s.beside l n := by
  have hrecs : ((s.written p).foldl (State.writeRec p) s).beside l n = s.beside l n :=
    foldl_invariant (P := fun t => t.beside l n = s.beside l n) (fun t r h => (t.writeRec_beside l n p r).trans h) _ rfl
  refine (State.publishCauses_beside _ l n p).trans ?_
  exact foldl_invariant (P := fun t => t.beside l n = s.beside l n)
    (fun t b h => (t.writeBranch_beside l n p b).trans h) _ hrecs

theorem State.publish_beside : s.publish.beside l n = s.beside l n := by
  cases hsnap : s.engine.snap with
  | none => rw [State.publish, hsnap]
  | some p =>
    rw [State.publish_eq hsnap]
    exact (State.afterPublish_beside _ l n).trans (s.published_beside l n p)

theorem State.tickPass_beside : s.tickPass.beside l n = s.beside l n := by
  unfold State.tickPass
  split
  · split
    · exact (State.finish_beside _ l n).trans (s.publish_beside l n)
    · rfl
  · rfl

/-! ## Holds and the interval counter -/

theorem State.holdExpires_beside (id : Fin 96) : (s.holdExpires id).beside l n = s.beside l n := by
  unfold State.holdExpires
  split <;> rfl

theorem State.tickHold_beside (id : Fin 96) : (s.tickHold id).beside l n = s.beside l n := by
  unfold State.tickHold
  split
  · split
    · exact (State.finish_beside _ l n).trans (s.holdExpires_beside l n id)
    · rfl
  · rfl

theorem State.tickInterval_beside : s.tickInterval.beside l n = s.beside l n := by
  unfold State.tickInterval State.intervalTick
  split
  · refine (State.finish_beside _ l n).trans ?_
    dsimp only
    split
    · exact State.startOrRerun_beside _ l n
    · rfl
  · rfl

end

/-! ## The timed events of a gate -/

section
variable (s : State) (l : Option (Fin 8)) (n : Fin 8)

theorem State.raiseUnit_beside (k : Option (Fin 8)) (c : Cause) (u : Fin 8) :
    (s.raiseUnit c u).beside l k = s.beside l k := rfl

theorem State.overrange_beside (k : Option (Fin 8)) : (s.overrange n).beside l k = s.beside l k := by
  unfold State.overrange
  split
  · rfl
  · rw [State.raiseUnit_beside]
    exact State.modBranch_beside rfl (.inr rfl)

theorem State.countEdge_beside (k : Option (Fin 8)) : (s.countEdge n).beside l k = s.beside l k := by
  have hcount (t : State) (m : Fin 8) (live : Branch → Nat) :
      (t.modBranch m (fun b => { b with live := live b })).beside l k = t.beside l k :=
    State.modBranch_beside rfl (.inr rfl)
  unfold State.countEdge State.countCascade State.countPlain
  split
  · split
    · exact hcount s n _
    · split
      · exact (hcount _ (partner n) _).trans (hcount s n _)
      · exact s.overrange_beside l n k
  · split
    · exact hcount s n _
    · exact s.overrange_beside l n k

theorem State.edge_beside (k : Option (Fin 8)) : (s.edge n).beside l k = s.beside l k := by
  have hdivide : (s.modBranch n Branch.divide).beside l k = s.beside l k := by
    refine State.modBranch_beside ?_ (.inr ?_) <;> unfold Branch.divide <;> split <;> rfl
  unfold State.edge
  dsimp only
  split
  · exact (State.countEdge_beside _ l n k).trans hdivide
  · exact hdivide

theorem State.gateStart_beside (high : Bool) : (s.gateStart n high).beside l (some n) = s.beside l (some n) := by
  have hstart : (s.modBranch n (fun b => { b with gate := .counting, elapsed := 0, live := 0 })).beside l (some n) =
      s.beside l (some n) := State.modBranch_beside rfl (.inl rfl)
  unfold State.gateStart
  split
  · dsimp only
    split
    · exact (State.edge_beside _ l n (some n)).trans hstart
    · exact hstart
  · rfl

theorem State.trimClosed_beside : (s.trimClosed n).beside l (some n) = s.beside l (some n) := by
  have hdrive := s.modDrive_beside l n (fun d => d.storeTarget (d.target - s.branches[n].trim))
  unfold State.trimClosed
  dsimp only
  split
  · exact hdrive
  · rw [State.raiseUnit_beside, ← hdrive]
    exact State.modBranch_beside rfl (.inl rfl)

theorem State.relax_beside : (s.relax n).beside l (some n) = s.beside l (some n) :=
  (State.modBranch_beside rfl (.inl rfl)).trans (s.modDrive_beside l n _)

theorem State.regulate_beside : (s.regulate n).beside l (some n) = s.beside l (some n) := by
  have hrun : (s.modBranch n (fun b => { b with overRun := b.runAfter b.flow })).beside l (some n) =
      s.beside l (some n) := State.modBranch_beside rfl (.inl rfl)
  unfold State.regulate
  dsimp only
  split
  · split
    · exact (State.trimClosed_beside _ l n).trans hrun
    · exact hrun
  · split
    · exact hrun
    · split
      · exact (State.relax_beside _ l n).trans hrun
      · exact hrun

theorem State.gateClose_beside : (s.gateClose n).beside l (some n) = s.beside l (some n) := by
  unfold State.gateClose
  split
  · exact (State.regulate_beside _ l n).trans (State.modBranch_beside rfl (.inl rfl))
  · rfl

/-- The 1 s tick of a gate touches no line, no other gate and nothing fixed. -/
theorem State.tickGate_beside : (s.tickGate n).beside l (some n) = s.beside l (some n) := by
  unfold State.tickGate
  dsimp only
  split
  · exact (State.finish_beside _ l _).trans (State.gateStart_beside { s with free := s.free + 1 } l n _)
  · split
    · exact (State.finish_beside _ l _).trans (s.gateClose_beside l n)
    · exact State.modBranch_beside rfl (.inl rfl)
  · rfl

end

end Sys2Proof.Machine
end

section
/-! PROOFS. The step on an empty queue, one tick of the Timebase (O2). -/

namespace Sys2Proof.Machine

/-! ## Comms holds -/

/-- What the comms hold timer of a record depends on, and its count (06 R126). -/
def Conn.holdTimer (c : Conn) : ConnState × Bool × Bool × Nat := (c.state, c.supervisor, c.expired, c.holdLeft)

section
variable (s : State) (id : Fin 96)

theorem State.snapshot_holdTimer : s.snapshot.conns[id].holdTimer = s.conns[id].holdTimer := by
  rw [State.snapshot_conn]
  split <;> rfl

theorem State.startOrRerun_holdTimer : s.startOrRerun.conns[id].holdTimer = s.conns[id].holdTimer := by
  unfold State.startOrRerun
  split
  · rfl
  · exact s.snapshot_holdTimer id

theorem State.finish_holdTimer : s.finish.conns[id].holdTimer = s.conns[id].holdTimer := by
  unfold State.finish
  dsimp only
  split
  · exact State.startOrRerun_holdTimer { s with urgent := false } id
  · rfl

theorem State.tickTrip_holdTimer : s.tickTrip.conns[id].holdTimer = s.conns[id].holdTimer := by
  refine (State.finish_holdTimer _ id).trans ?_
  unfold State.sampleTrip
  split
  · rfl
  · split
    · rfl
    · split
      · unfold State.assertTrip State.tripAssertion
        dsimp only
        split <;> exact State.snapshot_holdTimer _ id
      · rfl

theorem State.published_holdTimer (p : Snapshot) : (s.published p).conns[id].holdTimer = s.conns[id].holdTimer := by
  rw [State.published_frame]
  exact foldl_invariant (P := fun t => t.conns[id].holdTimer = s.conns[id].holdTimer) (fun t r h => by
    rw [State.writeRec_eq, getElem_set_fin]
    split
    next e => rw [← h, ← e]; rfl
    next => exact h) _ rfl

theorem State.tickPass_holdTimer : s.tickPass.conns[id].holdTimer = s.conns[id].holdTimer := by
  unfold State.tickPass
  split
  · split
    · refine (State.finish_holdTimer _ id).trans ?_
      cases hsnap : s.engine.snap with
      | none => rw [State.publish, hsnap]
      | some p =>
        obtain ⟨moved, demandSnap, hend⟩ := State.afterPublish_conn (s.published p) id
        rw [State.publish_eq hsnap, hend]
        exact s.published_holdTimer id p
    · rfl
  · rfl

theorem State.tickGate_holdTimer (n : Fin 8) : (s.tickGate n).conns[id].holdTimer = s.conns[id].holdTimer := by
  unfold State.tickGate
  dsimp only
  split
  · refine (State.finish_holdTimer _ id).trans ?_
    rw [(State.gateStart_same _ n _).1]
  · split
    · refine (State.finish_holdTimer _ id).trans ?_
      rw [(State.gateClose_same s n).1]
    · rfl
  · rfl

theorem State.tickInterval_holdTimer : s.tickInterval.conns[id].holdTimer = s.conns[id].holdTimer := by
  unfold State.tickInterval State.intervalTick
  split
  · refine (State.finish_holdTimer _ id).trans ?_
    dsimp only
    split
    · exact State.startOrRerun_holdTimer _ id
    · rfl
  · rfl

/-- The second of one hold leaves another record's hold alone. -/
theorem State.tickHold_holdTimer_other {j : Fin 96} (h : j ≠ id) :
    (s.tickHold j).conns[id].holdTimer = s.conns[id].holdTimer := by
  have hset (c : Conn) : (s.conns.set j c)[id] = s.conns[id] := (getElem_set_fin ..).trans (if_neg h)
  unfold State.tickHold State.holdExpires
  split
  · split
    · exact (State.finish_holdTimer _ id).trans (congrArg Conn.holdTimer (hset _))
    · exact congrArg Conn.holdTimer (hset _)
  · rfl

/-- The second of a running hold: it counts down, and expires at 0 (06 R126, R127). -/
theorem State.tickHold_holdTimer_self (h : s.conns[id].holdRuns = true) : (s.tickHold id).conns[id].holdTimer =
    (s.conns[id].state, s.conns[id].supervisor, decide (s.conns[id].holdLeft ≤ 1), s.conns[id].holdLeft - 1) := by
  have hself (c : Conn) : (s.conns.set id c)[id] = c := (getElem_set_fin ..).trans (if_pos rfl)
  unfold State.tickHold State.holdExpires
  rw [if_pos h]
  split
  next hle =>
    refine (State.finish_holdTimer _ id).trans ?_
    rw [decide_eq_true hle, Nat.sub_eq_zero_of_le hle]
    exact congrArg Conn.holdTimer (hself _)
  next hgt =>
    have hexp : s.conns[id].expired = false := by
      simp only [Conn.holdRuns, Bool.and_eq_true, Bool.not_eq_true'] at h
      exact h.2
    rw [decide_eq_false hgt, ← hexp]
    exact congrArg Conn.holdTimer (hself _)

end

/-! ## The millisecond and the second of a tick -/

/-- The state of a tick before the time moves on: the qualifier, the lines and the pass in flight. -/
def State.milli (s : State) : State :=
  ((List.finRange 8).foldl State.tickLine ({ s with now := Moment.start } : State).tickTrip).tickPass

section
variable (s : State)

/-- No line's tick, nor the qualifier's or the pass's, changes anything fixed or a gate. -/
theorem State.milli_beside : s.milli.fixed = { s.fixed with restarted := Moment.start.restarted } ∧
    ∀ n : Fin 8, s.milli.drives[n] = s.drives[n] ∧ s.milli.branches[n].timing = s.branches[n].timing := by
  let u : State := ({ s with now := Moment.start } : State).tickTrip
  have htrip : u.beside none none = ({ s with now := Moment.start } : State).beside none none :=
    State.tickTrip_beside _ none none
  obtain ⟨hfixed, hgates⟩ := foldl_invariant (f := State.tickLine)
    (P := fun t => t.fixed = u.fixed ∧
      ∀ n : Fin 8, t.drives[n] = u.drives[n] ∧ t.branches[n].timing = u.branches[n].timing)
    (fun t l ⟨hf, hg⟩ => by
      have hline := t.tickLine_beside l none
      refine ⟨(State.beside_fixed hline).trans hf, fun n => ?_⟩
      obtain ⟨hdrive, htiming⟩ := State.beside_gate hline (m := n) nofun
      exact ⟨hdrive.trans (hg n).1, htiming.trans (hg n).2⟩)
    (List.finRange 8) ⟨rfl, fun _ => ⟨rfl, rfl⟩⟩
  have hpass := ((List.finRange 8).foldl State.tickLine u).tickPass_beside none none
  refine ⟨(State.beside_fixed hpass).trans (hfixed.trans (State.beside_fixed htrip)), fun n => ?_⟩
  obtain ⟨hdrive, htiming⟩ := State.beside_gate hpass (m := n) nofun
  obtain ⟨hdrive', htiming'⟩ := State.beside_gate htrip (m := n) nofun
  exact ⟨hdrive.trans ((hgates n).1.trans hdrive'), htiming.trans ((hgates n).2.trans htiming')⟩

theorem State.fixed_ms : s.fixed.ms = s.ms := rfl

theorem State.milli_ms : s.milli.ms = s.ms := by
  rw [← State.fixed_ms, s.milli_beside.1]
  rfl

/-- What a millisecond does to a line is the tick of that line. -/
theorem State.milli_line (l : Fin 8) :
    ∃ u : State, u.lines[l] = s.lines[l] ∧ s.milli.lines[l] = (u.tickLine l).lines[l] := by
  obtain ⟨u, hu, hend⟩ := foldl_at (f := State.tickLine) (part := fun t => t.lines[l]) (i := l)
    (fun t m hm => State.beside_line (t.tickLine_beside m none) fun e => hm (Option.some.inj e))
    (List.nodup_finRange 8) (List.mem_finRange l) ({ s with now := Moment.start } : State).tickTrip
  have htrip (t : State) : t.tickTrip.lines[l] = t.lines[l] := State.beside_line (t.tickTrip_beside none none) nofun
  have hpass (t : State) : t.tickPass.lines[l] = t.lines[l] := State.beside_line (t.tickPass_beside none none) nofun
  exact ⟨u, hu.trans (htrip _), (hpass _).trans hend⟩

/-- A tick, cut into its millisecond and its second. -/
theorem State.tick_eq : s.tick =
    if 1000 ≤ s.ms + 1 then { s.milli with ms := 0 }.tickSecond else { s.milli with ms := s.ms + 1 } := by
  rw [← s.milli_ms]
  rfl

theorem State.tickSecond_fixed : s.tickSecond.fixed = s.fixed := by
  refine (State.beside_fixed (State.tickInterval_beside _ none none)).trans ?_
  refine foldl_invariant (P := fun t => t.fixed = s.fixed)
    (fun t n h => (State.beside_fixed (t.tickGate_beside none n)).trans h) _ ?_
  exact foldl_invariant (P := fun t => t.fixed = s.fixed)
    (fun t id h => (State.beside_fixed (t.tickHold_beside none none id)).trans h) _ rfl

theorem State.tickSecond_line (l : Fin 8) : s.tickSecond.lines[l] = s.lines[l] := by
  refine (State.beside_line (State.tickInterval_beside _ none none) nofun).trans ?_
  refine foldl_invariant (P := fun t => t.lines[l] = s.lines[l])
    (fun t n h => (State.beside_line (t.tickGate_beside none n) nofun).trans h) _ ?_
  exact foldl_invariant (P := fun t => t.lines[l] = s.lines[l])
    (fun t id h => (State.beside_line (t.tickHold_beside none none id) nofun).trans h) _ rfl

/-- What a second does to a gate's time is the tick of that gate. -/
theorem State.tickSecond_gate (n : Fin 8) : ∃ u : State, u.branches[n].timing = s.branches[n].timing ∧
    s.tickSecond.branches[n].timing = (u.tickGate n).branches[n].timing := by
  obtain ⟨u, hu, hend⟩ := foldl_at (f := State.tickGate) (part := fun t => t.branches[n].timing) (i := n)
    (fun t m hm => (State.beside_gate (t.tickGate_beside none m) fun e => hm (Option.some.inj e)).2)
    (List.nodup_finRange 8) (List.mem_finRange n) ((List.finRange 96).foldl State.tickHold s)
  refine ⟨u, hu.trans ?_, Eq.trans ?_ hend⟩
  · exact foldl_invariant (P := fun t => t.branches[n].timing = s.branches[n].timing)
      (fun t id h => (State.beside_gate (t.tickHold_beside none none id) nofun).2.trans h) _ rfl
  · exact (State.beside_gate (State.tickInterval_beside _ none none) nofun).2

/-- What a second does to a record's hold is the tick of that hold. -/
theorem State.tickSecond_holdTimer (id : Fin 96) : ∃ u : State, u.conns[id].holdTimer = s.conns[id].holdTimer ∧
    s.tickSecond.conns[id].holdTimer = (u.tickHold id).conns[id].holdTimer := by
  obtain ⟨u, hu, hend⟩ := foldl_at (f := State.tickHold) (part := fun t => t.conns[id].holdTimer) (i := id)
    (fun t j hj => t.tickHold_holdTimer_other id hj) (List.nodup_finRange 96) (List.mem_finRange id) s
  refine ⟨u, hu, Eq.trans ?_ hend⟩
  refine (State.tickInterval_holdTimer _ id).trans ?_
  exact foldl_invariant (P := fun t => t.conns[id].holdTimer = _)
    (fun t n h => (t.tickGate_holdTimer id n).trans h) _ rfl

end

/-! ## Lines at rest -/

/-- No line is timed, and none that is idle in POLLING has a drop to poll (05 R94). -/
def State.LinesRest (s : State) : Prop :=
  (∀ l : Fin 8, s.lines[l].phase = .none ∨ s.lines[l].phase = .sending) ∧
    ∀ l : Fin 8, s.lines[l].state = .polling → s.lines[l].phase = .none → s.pollable l = []

section
variable {s : State}

/-- Lines are at rest by what lines and drops hold. -/
theorem State.LinesRest.of_same {t : State} (h : s.LinesRest) (hl : ∀ l : Fin 8, t.lines[l] = s.lines[l])
    (hd : t.drops = s.drops) : t.LinesRest := by
  have hpollable (l : Fin 8) : t.pollable l = s.pollable l := by
    rw [State.pollable, State.lineDrops, hd]
    rfl
  exact ⟨fun l => hl l ▸ h.1 l, fun l hst hph => (hpollable l).trans (h.2 l (hl l ▸ hst) (hl l ▸ hph))⟩

/-- The tick of a line at rest ends the event and does nothing else. -/
theorem State.LinesRest.tickLine_eq (h : s.LinesRest) (l : Fin 8) : s.tickLine l = s.finish := by
  have hphase : s.lines[l].inExchange = false ∧ s.lines[l].phase ≠ .spacing := by
    unfold Line.inExchange
    rcases h.1 l with hp | hp <;> rw [hp] <;> exact ⟨rfl, nofun⟩
  have hidle : s.idleSelects l = s := if_neg fun ⟨hpoll, hnone, hsome⟩ => hsome (h.2 l (beq_iff_eq.mp hpoll) hnone)
  unfold State.tickLine
  dsimp only
  rw [if_neg (by rw [hphase.1]; decide), if_neg hphase.2, hidle]

/-- A millisecond over lines at rest changes no comms hold. -/
theorem State.LinesRest.milli_holdTimer (h : s.LinesRest) (id : Fin 96) :
    s.milli.conns[id].holdTimer = s.conns[id].holdTimer := by
  let u : State := ({ s with now := Moment.start } : State).tickTrip
  have hrest : u.LinesRest := by
    refine h.of_same (fun l => State.beside_line (State.tickTrip_beside _ none none) nofun) ?_
    refine (State.finish_drops_lines _).1.trans ?_
    unfold State.sampleTrip
    split
    · rfl
    · split
      · rfl
      · split
        · unfold State.assertTrip State.tripAssertion
          dsimp only
          split <;> rfl
        · rfl
  obtain ⟨-, hend⟩ := foldl_invariant (f := State.tickLine)
    (P := fun t => t.LinesRest ∧ t.conns[id].holdTimer = u.conns[id].holdTimer) (fun t l ⟨hr, ht⟩ => by
      obtain ⟨hdrops, hlines⟩ := t.finish_drops_lines
      rw [hr.tickLine_eq l]
      exact ⟨hr.of_same (fun m => by rw [hlines]) hdrops, (t.finish_holdTimer id).trans ht⟩)
    (List.finRange 8) ⟨hrest, rfl⟩
  exact (State.tickPass_holdTimer _ id).trans (hend.trans (State.tickTrip_holdTimer _ id))

/-- A pass whose steps do nothing does nothing. -/
theorem foldl_same {ι : Type} {f : State → ι → State} (h : ∀ i, f s i = s) (is : List ι) : is.foldl f s = s :=
  foldl_invariant (P := fun t => t = s) (fun t i ht => by rw [ht]; exact h i) is rfl

/-- A millisecond in which nothing is due. -/
theorem State.milli_quiet (hset : s.Settled) (hraw : s.plant.raw = s.plant.level) (hidle : s.computing = false)
    (hrest : s.LinesRest) : s.milli = { s with plant := { s.plant with run := 0 }, now := Moment.start } := by
  have htrip : ({ s with now := Moment.start } : State).tickTrip =
      { s with plant := { s.plant with run := 0 }, now := Moment.start } := by
    refine (congrArg State.finish (if_pos hraw)).trans ?_
    exact State.finish_of_settled hset
  generalize hu : ({ s with plant := { s.plant with run := 0 }, now := Moment.start } : State) = u at htrip ⊢
  have hrest' : u.LinesRest := hrest.of_same (by rw [← hu]; exact fun _ => rfl) (by rw [← hu])
  have hset' : u.Settled := by
    rw [← hu]
    exact hset
  have hlines := foldl_same (f := State.tickLine)
    (fun l => (hrest'.tickLine_eq l).trans (State.finish_of_settled hset')) (List.finRange 8)
  rw [State.milli, htrip, hlines, ← hu]
  exact if_neg (by
    show ¬ s.computing = true
    rw [hidle]
    decide)

/-- A second in which nothing is due counts the interval counter on (02 R35). -/
theorem State.tickSecond_quiet
    (hhold : ∀ id : Fin 96, s.conns[id].state = .suspended → s.conns[id].supervisor = true ∨ s.conns[id].expired = true)
    (hgate : ∀ n : Fin 8, s.branches[n].gate = .shut ∨ s.branches[n].gate = .totalizing)
    (hcounter : s.engine.counter + 1 < s.engine.interval) :
    s.tickSecond = { s with engine := { s.engine with counter := s.engine.counter + 1 } } := by
  have hholds : (List.finRange 96).foldl State.tickHold s = s := foldl_same (fun id => if_neg fun hr => by
    simp only [Conn.holdRuns, Bool.and_eq_true, beq_iff_eq, Bool.not_eq_true'] at hr
    obtain ⟨⟨hst, hsup⟩, hexp⟩ := hr
    rcases hhold id hst with k | k
    · rw [hsup] at k
      cases k
    · rw [hexp] at k
      cases k) _
  have hgates : (List.finRange 8).foldl State.tickGate s = s := foldl_same (fun n => by
    unfold State.tickGate
    dsimp only
    rcases hgate n with k | k <;> rw [k]) _
  unfold State.tickSecond
  dsimp only
  rw [hholds, hgates]
  exact if_neg (Nat.not_le.mpr hcounter)

end

/-! ## The timers of a tick -/

section
variable {s : State}

/-- A line after a tick is the line after its own tick. -/
theorem State.tick_line (s : State) (l : Fin 8) :
    ∃ u : State, u.lines[l] = s.lines[l] ∧ s.tick.lines[l] = (u.tickLine l).lines[l] := by
  obtain ⟨u, hu, hend⟩ := s.milli_line l
  refine ⟨u, hu, ?_⟩
  rw [State.tick_eq]
  generalize s.milli = m at hend ⊢
  split
  · exact (State.tickSecond_line _ l).trans hend
  · exact hend

/-- The response timer counts down (05 R95). -/
theorem State.tick_response {l : Fin 8} (h : s.lines[l].phase = .awaiting ∨ s.lines[l].phase = .receiving)
    (hne : s.lines[l].respLeft ≠ 1) :
    s.tick.lines[l] = { s.lines[l] with respLeft := s.lines[l].respLeft - 1 } := by
  obtain ⟨u, hu, hend⟩ := s.tick_line l
  rw [← hu] at h hne ⊢
  rw [hend, State.tickLine]
  dsimp only
  rw [if_pos (Line.inExchange_of h), if_neg hne, State.modLine_lines, getElem_set_fin, if_pos rfl]

/-- The poll spacing counts down (05 R98). -/
theorem State.tick_spacing {l : Fin 8} (h : s.lines[l].phase = .spacing) (hne : s.lines[l].spaceLeft ≠ 1) :
    s.tick.lines[l] = { s.lines[l] with spaceLeft := s.lines[l].spaceLeft - 1 } := by
  obtain ⟨u, hu, hend⟩ := s.tick_line l
  rw [← hu] at h hne ⊢
  have hout : ¬ u.lines[l].inExchange = true := by
    rw [Line.inExchange, h]
    decide
  rw [hend, State.tickLine]
  dsimp only
  rw [if_neg hout, if_pos h, if_neg hne, State.modLine_lines, getElem_set_fin, if_pos rfl]

/-- The second of a counting gate that does not close (07 R137). -/
theorem State.tickGate_counting {n : Fin 8} (h : s.branches[n].gate = .counting)
    (hlt : s.branches[n].elapsed + 1 < s.branches[n].mode.seconds) :
    s.tickGate n = s.modBranch n (fun b => { b with elapsed := b.elapsed + 1 }) := by
  unfold State.tickGate
  dsimp only
  rw [h]
  exact if_neg (Nat.not_le.mpr hlt)

/-- The elapsed seconds of a counting gate count up (07 R137). -/
theorem State.tick_gate {n : Fin 8} (hms : 1000 ≤ s.ms + 1) (h : s.branches[n].gate = .counting)
    (hlt : s.branches[n].elapsed + 1 < s.branches[n].mode.seconds) :
    s.tick.branches[n].gate = .counting ∧ s.tick.branches[n].elapsed = s.branches[n].elapsed + 1 := by
  have hmilli := (s.milli_beside.2 n).2
  rw [State.tick_eq, if_pos hms]
  generalize s.milli = m at hmilli ⊢
  obtain ⟨u, hu, hend⟩ := State.tickSecond_gate { m with ms := 0 } n
  have hsame : u.branches[n].timing = s.branches[n].timing := hu.trans hmilli
  simp only [Branch.timing, Prod.mk.injEq] at hsame
  obtain ⟨hmode, hgate, helapsed⟩ := hsame
  rw [← hgate] at h
  rw [← helapsed, ← hmode] at hlt
  rw [State.tickGate_counting h hlt, State.modBranch_branches, getElem_set_fin, if_pos rfl] at hend
  simp only [Branch.timing, Prod.mk.injEq] at hend
  obtain ⟨-, hgate', helapsed'⟩ := hend
  rw [hgate', helapsed', helapsed]
  exact ⟨h, rfl⟩

/-- On lines at rest the comms hold remaining counts down, and expires at 0 (06 R126). -/
theorem State.tick_hold {id : Fin 96} (hms : 1000 ≤ s.ms + 1) (hrest : s.LinesRest)
    (hst : s.conns[id].state = .suspended) (hsup : s.conns[id].supervisor = false)
    (hexp : s.conns[id].expired = false) :
    s.tick.conns[id].state = .suspended ∧ s.tick.conns[id].holdLeft = s.conns[id].holdLeft - 1 ∧
      s.tick.conns[id].expired = decide (s.conns[id].holdLeft ≤ 1) := by
  have hmilli := hrest.milli_holdTimer id
  rw [State.tick_eq, if_pos hms]
  generalize s.milli = m at hmilli ⊢
  obtain ⟨u, hu, hend⟩ := State.tickSecond_holdTimer { m with ms := 0 } id
  have hsame : u.conns[id].holdTimer = s.conns[id].holdTimer := hu.trans hmilli
  simp only [Conn.holdTimer, Prod.mk.injEq] at hsame
  obtain ⟨hust, husup, huexp, huleft⟩ := hsame
  have hruns : u.conns[id].holdRuns = true := by
    rw [Conn.holdRuns, hust, husup, huexp, hst, hsup, hexp]
    rfl
  rw [u.tickHold_holdTimer_self id hruns, hust, huleft, hst] at hend
  simp only [Conn.holdTimer, Prod.mk.injEq] at hend
  obtain ⟨hstate, -, hexpired, hleft⟩ := hend
  exact ⟨hstate, hleft, hexpired⟩

/-- What no tick changes, with the tick count and the marks it sets (00 section 1.6.7). -/
theorem State.tick_fixed (s : State) : s.tick.fixed =
    { s.fixed with ms := if s.ms + 1 < 1000 then s.ms + 1 else 0, restarted := Moment.start.restarted } := by
  have hmilli := s.milli_beside.1
  rw [State.tick_eq]
  generalize s.milli = m at hmilli ⊢
  by_cases h : 1000 ≤ s.ms + 1
  · rw [if_pos h, if_neg (Nat.not_lt.mpr h), State.tickSecond_fixed]
    exact congrArg (fun f => ({ f with ms := 0 } : Fixed)) hmilli
  · rw [if_neg h, if_pos (Nat.not_le.mp h)]
    exact congrArg (fun f => ({ f with ms := s.ms + 1 } : Fixed)) hmilli

/-- Drives move only at a 1 s tick. -/
theorem State.tick_drives (h : s.ms + 1 < 1000) : s.tick.drives = s.drives := by
  have hmilli := s.milli_beside.2
  rw [State.tick_eq, if_neg (Nat.not_le.mpr h)]
  generalize s.milli = m at hmilli ⊢
  exact Vector.ext fun i hi => (hmilli ⟨i, hi⟩).1

end

/-- A step on an empty queue is a tick. -/
theorem step_of_empty {s : State} (h : s.pending = []) : step s = .next s.tick := by
  unfold step
  rw [h]

/-- Settles O2: what a tick leaves alone is read off from `tick_fixed`, the quiet ticks from those of their parts, and
each timer from the tick of its own line, gate or hold. -/
theorem idleStepIsTick : Obligations.IdleStepIsTick := by
  refine ⟨fun s hp => ⟨_, step_of_empty hp, ?_⟩, fun s hp hset hraw hidle hms hphase hpoll => ?_,
    fun s hp hset hraw hidle hms hphase hpoll hhold hgate hcounter => ?_, fun s hp => ⟨_, step_of_empty hp,
    fun l => State.tick_response, fun l => State.tick_spacing, fun hms n => State.tick_gate hms,
    fun hms hphase hpoll id => State.tick_hold hms ⟨hphase, hpoll⟩⟩⟩
  · have hfixed := s.tick_fixed
    simp only [State.fixed, Fixed.mk.injEq] at hfixed
    obtain ⟨hpending, hport, hmsec, hdemote, hhold, hoffer, hsetpoint, hemergency, hinterval, hramp, hdeadband, hlevels,
      hthreshold, hbranches, hrestarted⟩ := hfixed
    refine ⟨hpending.trans hp, hport, hmsec, hdemote, hhold, hoffer, hsetpoint, hemergency, hinterval, hramp, hdeadband,
      hlevels, hthreshold, fun n => ?_, State.tick_drives, hrestarted⟩
    have hbranch := congrFun hbranches n
    simpa only [Branch.settings, Prod.mk.injEq] using hbranch
  · rw [step_of_empty hp, State.tick_eq, if_neg (Nat.not_le.mpr hms), State.milli_quiet hset hraw hidle ⟨hphase, hpoll⟩]
  · rw [step_of_empty hp, State.tick_eq, if_pos hms, State.milli_quiet hset hraw hidle ⟨hphase, hpoll⟩]
    exact congrArg _ (State.tickSecond_quiet (s := { s with
      ms := 0, plant := { s.plant with run := 0 }, now := Moment.start }) hhold hgate hcounter)

end Sys2Proof.Machine
end

section
/-! PROOFS. The curtailment list (O55): what the operations on a connection, its drops and its line do to the list. Only
a publication puts a connection on it; an event that takes a listed record out of service, or gives it a hold value,
takes it off in the same event (03 R58, R61). -/

namespace Sys2Proof.Machine

/-! ## The claim -/

/-- A connection that may stand on the list: ACTIVE with no hold value (03 R58). -/
def Conn.Listable (c : Conn) : Prop := c.state = .active ∧ c.hold = none

/-- What `State.ListRight` says of the list itself. It looks at the records and at the list alone. -/
def State.ListServes (s : State) : Prop :=
  (s.engine.curtail.map (·.id)).Nodup ∧ ∀ e ∈ s.engine.curtail, s.conns[e.id].Listable

theorem State.listRight_iff {s : State} : s.ListRight ↔ s.ListServes ∧ s.SnapRight := and_assoc.symm

theorem Conn.not_listable_of_state {c : Conn} (h : c.state ≠ .active) : ¬ c.Listable := fun k => h k.1

namespace State.ListServes

variable {s t : State} {id : Fin 96} {l : Fin 8} {addr : Nat}

/-- Records changed, none of them so that it may no longer stand on the list; the list as it was. -/
theorem of_conns (hs : s.ListServes) (hlist : t.engine.curtail = s.engine.curtail)
    (hconns : ∀ j : Fin 96, s.conns[j].Listable → t.conns[j].Listable) : t.ListServes := by
  obtain ⟨hnodup, hserve⟩ := hs
  rw [ListServes, hlist]
  exact ⟨hnodup, fun e he => hconns e.id (hserve e he)⟩

/-- One record changed in any way, and its connection taken off the list (03 R61). -/
theorem of_left (hs : s.ListServes) (hlist : t.engine.curtail = s.engine.curtail.filter (fun e => !(e.id == id)))
    (hconns : ∀ j : Fin 96, id ≠ j → t.conns[j] = s.conns[j]) : t.ListServes := by
  obtain ⟨hnodup, hserve⟩ := hs
  rw [ListServes, hlist]
  refine ⟨hnodup.sublist (List.filter_sublist.map _), fun e he => ?_⟩
  obtain ⟨hmem, hne⟩ := List.mem_filter.1 he
  have hid : e.id ≠ id := fun h => by simp [h] at hne
  rw [hconns e.id hid.symm]
  exact hserve e hmem

theorem modConn (hs : s.ListServes) {f : Conn → Conn} (hf : s.conns[id].Listable → (f s.conns[id]).Listable) :
    (s.modConn id f).ListServes := by
  refine hs.of_conns rfl fun j hj => ?_
  rw [State.modConn_conns, getElem_set_fin]
  split
  · next e => exact hf (e ▸ hj)
  · exact hj

/-- Any change of a record that is not on the list. -/
theorem modConn_unlisted (hs : s.ListServes) {f : Conn → Conn} (h : s.conns[id].state ≠ .active) :
    (s.modConn id f).ListServes :=
  hs.modConn fun k => absurd k (Conn.not_listable_of_state h)

/-- Any change of a record whose connection leaves the list. -/
theorem modConn_leaveList (hs : s.ListServes) (f : Conn → Conn) : ((s.modConn id f).leaveList id).ListServes :=
  hs.of_left rfl fun _ => State.modConn_other f

theorem modLine (hs : s.ListServes) {f : Line → Line} : (s.modLine l f).ListServes := hs

theorem modDrop (hs : s.ListServes) {f : Drop → Drop} : (s.modDrop l addr f).ListServes := hs

/-! ## The life of a connection -/

theorem setLowDt (hs : s.ListServes) {b : Bool} : (s.setLowDt id b).ListServes :=
  hs.modConn (f := fun c => { c with lowDt := b }) fun k => k

theorem clearStanding (hs : s.ListServes) : (s.clearStanding id).ListServes := by
  unfold State.clearStanding
  dsimp only
  split
  · exact hs.setLowDt.modConn fun k => k
  · exact hs.modConn fun k => k

theorem expireHold (hs : s.ListServes) : (s.expireHold id).ListServes :=
  hs.modConn (f := fun c => { c with expired := true, holdLeft := 0, moved := true }) fun k => k

theorem enterSuspended (hs : s.ListServes) {cause : SuspendCause} : (s.enterSuspended id cause).ListServes := by
  have ht := hs.modConn_leaveList (id := id) (fun c => c.suspendedBy cause s.holdSetting)
  unfold State.enterSuspended
  dsimp only
  split
  · exact ht.expireHold
  · exact ht

theorem gainCause (hs : s.ListServes) {cause : SuspendCause} : (s.gainCause id cause).ListServes := by
  unfold State.gainCause
  split
  · exact hs.enterSuspended
  · next hst => exact hs.modConn_unlisted (by rw [hst]; decide)
  · exact hs

theorem loseCause (hs : s.ListServes) {cause : SuspendCause} : (s.loseCause id cause).ListServes := by
  by_cases hst : s.conns[id].state = .suspended
  · have hnot : s.conns[id].state ≠ .active := by rw [hst]; decide
    cases hc : (s.conns[id].dropCause cause).noCause with
    | false =>
      rw [State.loseCause_left hst hc]
      exact hs.modConn_unlisted (f := fun c => c.dropCause cause) hnot
    | true =>
      rw [State.loseCause_last hst hc]
      exact hs.modConn_unlisted (f := fun c => (c.dropCause cause).returned) hnot
  · rw [State.loseCause_other s id cause hst]
    exact hs

theorem enterActive (hs : s.ListServes) (hst : s.conns[id].state = .pending) : (s.enterActive id).ListServes := by
  have ht := hs.modConn_unlisted (f := fun c => { c with state := .active, granted := 0, ceiling := 0, moved := true })
    (by rw [hst]; decide)
  unfold State.enterActive
  dsimp only
  split
  · exact ht
  · refine gainCause ?_
    exact ht

theorem testService (hs : s.ListServes) : (s.testService id).ListServes := by
  unfold State.testService
  split
  · next h => exact hs.enterActive h.1
  · exact hs

theorem testComms (hs : s.ListServes) : (s.testComms id).ListServes := by
  unfold State.testComms
  split
  · exact hs
  · exact hs.loseCause

theorem vacantIfClosed (hs : s.ListServes) (hst : s.conns[id].state = .retiring) : (s.vacantIfClosed id).ListServes := by
  unfold State.vacantIfClosed
  split
  · exact modConn_unlisted (s := s.freeSlotsOf id) (id := id) (f := fun c => Conn.vacant c.gen) hs (by
      rw [State.freeSlotsOf_conns, hst]; decide)
  · exact hs

theorem closeDrop (hs : s.ListServes) (hst : s.conns[id].state = .retiring) : (s.closeDrop l addr id).ListServes :=
  hs.modDrop.vacantIfClosed hst

theorem closeAll (hs : s.ListServes) (hst : s.conns[id].state = .retiring) : (s.closeAll id).ListServes :=
  vacantIfClosed (s := s.modDropsOf id fun d => { d with closed := true }) hs hst

theorem retire (hs : s.ListServes) : (s.retire id).ListServes := by
  have ht : (((s.clearStanding id).leaveList id).modConn id Conn.retired).ListServes :=
    hs.clearStanding.modConn_leaveList Conn.retired
  unfold State.retire
  dsimp only
  split
  · exact ht
  · refine closeAll ht ?_
    simp [State.reportChange, State.modDropsOf]

theorem lineLost (hs : s.ListServes) : (State.lineLost l s id).ListServes := by
  unfold State.lineLost
  split
  · split
    · exact hs.gainCause
    · exact hs.gainCause
    · next hst => exact hs.closeAll hst
    · exact hs
  · exact hs

theorem lineBack (hs : s.ListServes) : (State.lineBack l s id).ListServes := by
  unfold State.lineBack
  split
  · exact hs.loseCause
  · exact hs

theorem leavePolling (hs : s.ListServes) : (s.leavePolling l).ListServes :=
  State.leavePolling_keeps (fun _ _ => lineLost) s hs

theorem enterPolling (hs : s.ListServes) : (s.enterPolling l).ListServes :=
  State.enterPolling_keeps (fun _ _ => lineBack) s hs

/-! ## Reports and misses -/

theorem recompute (hs : s.ListServes) {noted : ConnState} : (s.recompute id noted).ListServes := by
  have ht := hs.modConn (id := id) (f := fun c => { c with demand := s.liveDemand id }) fun k => k
  unfold State.recompute State.compareDemand
  split
  · dsimp only
    split
    · split
      · exact ht
      · exact ht
    · exact ht
  · exact hs

theorem scoreReport (hs : s.ListServes) {r : Report} : (s.scoreReport id r).ListServes := by
  unfold State.scoreReport
  dsimp only
  split
  · exact hs
  · split
    · have ht := hs.modConn (id := id) (f := fun c => { c with score := satSucc 255 c.score }) fun k => k
      split
      · exact ht.setLowDt
      · exact ht
    · have ht := hs.modConn (id := id) (f := fun c => { c with score := c.score - 1 }) fun k => k
      split
      · exact ht.setLowDt
      · exact ht

theorem dropBecomes (hs : s.ListServes) {st : DropState} : (s.dropBecomes l addr id st).ListServes := hs

theorem applyReport (hs : s.ListServes) {d : Drop} {noted : ConnState} {r : Report} :
    (s.applyReport d noted r).ListServes := by
  have hlive : ((if d.state != .live then s.dropBecomes d.line d.addr d.conn .live else s).recompute d.conn
      noted).ListServes := by
    split
    · exact hs.dropBecomes.recompute
    · exact hs.recompute
  unfold State.applyReport
  dsimp only
  generalize (if d.state != .live then s.dropBecomes d.line d.addr d.conn .live else s).recompute d.conn noted = t at hlive
  have hscore : (if noted = .active then t.scoreReport d.conn r else t).ListServes := by
    split
    · exact hlive.scoreReport
    · exact hlive
  split
  · split
    · exact hscore.testService
    · split
      · exact hscore.testComms
      · exact hscore
  · exact hscore

theorem takeReport (hs : s.ListServes) {r : Report} : (s.takeReport l addr r).ListServes := by
  unfold State.takeReport
  split
  · exact hs
  · dsimp only
    split
    · next hst =>
      split
      · exact hs.modDrop.closeDrop hst
      · exact hs.modDrop
    · exact hs.modDrop.applyReport

theorem closeMiss (hs : s.ListServes) {d : Drop} (hst : s.conns[d.conn].state = .retiring) :
    (s.closeMiss d).ListServes := by
  unfold State.closeMiss
  split
  · dsimp only
    split
    · exact hs.modDrop.closeDrop hst
    · exact hs.modDrop
  · exact hs

theorem countMiss (hs : s.ListServes) {d : Drop} {noted : ConnState} : (s.countMiss d noted).ListServes := by
  unfold State.countMiss
  dsimp only
  split
  · split
    · exact hs.modDrop.dropBecomes.recompute.gainCause
    · exact hs.modDrop.dropBecomes.recompute
  · exact hs.modDrop

theorem takeMiss (hs : s.ListServes) : (s.takeMiss l addr).ListServes := by
  unfold State.takeMiss
  split
  · exact hs
  · split
    · next hst => exact hs.closeMiss hst
    · exact hs.countMiss

/-! ## Lines -/

theorem lineGoes (hs : s.ListServes) {st : LineState} : (s.lineGoes l st).ListServes := by
  unfold State.lineGoes
  dsimp only
  split
  · exact hs.modLine.leavePolling
  · exact hs.modLine

theorem lineFaults (hs : s.ListServes) : (s.lineFaults l).ListServes := hs.lineGoes (l := l) (st := .faulted)

theorem takeStop (hs : s.ListServes) : (s.takeStop l).ListServes := by
  unfold State.takeStop
  split
  · exact hs.lineGoes
  · exact hs

theorem select (hs : s.ListServes) : (s.select l).ListServes := by
  unfold State.select
  split
  · unfold State.selectPolling
    split
    · exact hs
    · split <;> exact hs
  · exact hs
  · exact hs

theorem selectOrWait (hs : s.ListServes) : (s.selectOrWait l).ListServes := by
  unfold State.selectOrWait
  split
  · exact hs.modLine
  · exact hs.select

theorem selectIfDue (hs : s.ListServes) : (s.selectIfDue l).ListServes := by
  unfold State.selectIfDue
  split
  · exact hs.select
  · exact hs

theorem endReport (hs : s.ListServes) {r : Report} : (s.endReport l r).ListServes := hs.modLine.takeReport.takeStop

theorem endMiss (hs : s.ListServes) {spoiled : Bool} : (s.endMiss l spoiled).ListServes := by
  unfold State.endMiss
  dsimp only
  generalize (if spoiled then min 8 (s.lines[l].bad + 1) else 0) = bad
  split
  · exact hs.modLine.takeMiss.lineFaults
  · exact hs.modLine.takeMiss.takeStop

theorem cutExchange (hs : s.ListServes) : (s.cutExchange l addr).ListServes := by
  unfold State.cutExchange
  dsimp only
  split
  · split
    · exact hs.modLine
    · split
      · exact hs.modLine.takeStop
      · exact hs
  · exact hs

theorem setLatch (hs : s.ListServes) : (s.setLatch l).ListServes := by
  unfold State.setLatch
  dsimp only
  split <;> exact hs

theorem crcFailure (hs : s.ListServes) : (s.crcFailure l).ListServes := by
  unfold State.crcFailure
  dsimp only
  split
  · exact hs.modLine.setLatch.endMiss
  · exact hs.modLine.setLatch.selectIfDue

theorem strayInExchange (hs : s.ListServes) : (s.strayInExchange l).ListServes := by
  unfold State.strayInExchange
  dsimp only
  split
  · exact hs.modLine.modLine
  · exact hs.modLine.endMiss

theorem frameIn (hs : s.ListServes) {bytes : List Byte} : (s.frameIn l bytes).ListServes := by
  unfold State.frameIn
  split
  · dsimp only
    split
    · exact hs.modLine.crcFailure
    · split
      · split
        · exact hs.modLine.endReport
        · exact hs.modLine.strayInExchange
      · exact hs.modLine.modLine.selectIfDue
  · exact hs

theorem frameBreaks (hs : s.ListServes) : (s.frameBreaks l).ListServes := by
  unfold State.frameBreaks
  dsimp only
  split
  · exact hs.modLine.endMiss
  · exact hs.modLine.selectIfDue

theorem checkEcho (hs : s.ListServes) {echo : Option (List Byte)} : (s.checkEcho l echo).ListServes := by
  unfold State.checkEcho
  dsimp only
  split
  · exact hs.modLine.modLine.takeStop
  · refine takeStop ?_
    exact hs.modLine.setLatch (l := l)

theorem pollOut (hs : s.ListServes) : (s.pollOut l).ListServes := by
  unfold State.pollOut
  split
  · exact hs.modLine.takeStop
  · exact hs.modLine

theorem startLine (hs : s.ListServes) : (s.startLine l).ListServes := by
  unfold State.startLine
  dsimp only
  split
  · refine (enterPolling ?_).select
    exact hs
  · refine select ?_
    exact hs

theorem stopLine (hs : s.ListServes) : (s.stopLine l).ListServes := by
  unfold State.stopLine
  dsimp only
  split
  · exact hs.modLine
  · exact hs.lineGoes

theorem resetLine (hs : s.ListServes) : (s.resetLine l).ListServes := by
  unfold State.resetLine
  dsimp only
  split
  · exact hs.modLine.leavePolling
  · exact hs.modLine

theorem responseExpires (hs : s.ListServes) : (s.responseExpires l).ListServes := by
  unfold State.responseExpires
  split
  · exact hs.modLine.endMiss
  · exact hs.modLine
  · exact hs

theorem spacingEnds (hs : s.ListServes) : (s.spacingEnds l).ListServes := by
  unfold State.spacingEnds
  split
  · exact hs.modLine.selectOrWait
  · exact hs

theorem idleSelects (hs : s.ListServes) : (s.idleSelects l).ListServes := by
  unfold State.idleSelects
  split
  · exact hs.selectOrWait
  · exact hs

end State.ListServes
end Sys2Proof.Machine
end

section
/-! PROOFS. The curtailment list (O55): publication, which alone puts connections on the list (02 R53, 03 R59, R60). -/

namespace Sys2Proof.Machine

/-! ## The list after a publication -/

/-- An entry of the new list stood on the old one or is that of a written record the pass finds curtailed. -/
theorem mem_updateList {p : Snapshot} {ws : List SnapRec} {count : Nat} {list : List CurtailEntry} {e : CurtailEntry}
    (he : e ∈ updateList p ws count list) : e ∈ list ∨ ∃ r ∈ ws, p.curtailedIn r = true ∧ r.id = e.id := by
  rcases List.mem_append.1 he with hkept | hjoin
  · exact .inl (List.mem_filter.1 hkept).1
  · obtain ⟨r, hr, rfl⟩ := List.mem_map.1 hjoin
    obtain ⟨hw, hc⟩ := List.mem_filter.1 hr
    exact .inr ⟨r, hw, (Bool.and_eq_true_iff.1 hc).1, rfl⟩

/-- A connection already on the list does not join it again (03 R60). -/
theorem updateList_nodup {p : Snapshot} {ws : List SnapRec} {count : Nat} {list : List CurtailEntry}
    (hws : (ws.map (·.id)).Nodup) (hlist : (list.map (·.id)).Nodup) :
    ((updateList p ws count list).map (·.id)).Nodup := by
  unfold updateList
  rw [List.map_append, List.map_map]
  refine (hlist.sublist (List.filter_sublist.map _)).append (hws.sublist (List.filter_sublist.map _)) ?_
  intro id hkept hjoin
  obtain ⟨e, he, rfl⟩ := List.mem_map.1 hkept
  obtain ⟨r, hr, hid⟩ := List.mem_map.1 hjoin
  have hmem : list.any (fun e => e.id == r.id) = true :=
    List.any_eq_true.2 ⟨e, (List.mem_filter.1 he).1, beq_iff_eq.2 hid.symm⟩
  simp [hmem] at hr

/-- A record that the pass writes and finds curtailed is ACTIVE with no hold value (02 R43, R47, R53). -/
theorem State.SnapRight.listable {s : State} (h : s.SnapRight) {p : Snapshot} (hp : s.engine.snap = some p) {r : SnapRec}
    (hr : r ∈ s.written p) (hc : p.curtailedIn r = true) : s.conns[r.id].Listable := by
  obtain ⟨hmem, hmatch⟩ := List.mem_filter.1 hr
  obtain ⟨hst, _, hcontract⟩ := (h p hp).2 r hmem
  obtain ⟨_, _, hhold⟩ := hcontract hmatch
  obtain ⟨hnot, hnone⟩ := SnapRec.reserve_isNone_iff.1 (Bool.and_eq_true_iff.1 hc).1
  simp only [Conn.matches, Bool.and_eq_true, beq_iff_eq] at hmatch
  exact ⟨hmatch.1.2.trans (hst.resolve_right hnot), hhold.trans hnone⟩

/-- The results of a pass change neither state nor hold value. -/
theorem State.published_listable {s : State} (p : Snapshot) {id : Fin 96} (h : s.conns[id].Listable) :
    (s.published p).conns[id].Listable := by
  rw [State.published_frame]
  refine foldl_invariant (P := fun t => t.conns[id].Listable) (fun t r ht => ?_) _ h
  rw [State.writeRec_conns, getElem_set_fin]
  split
  · next e => exact (e ▸ ht : t.conns[r.id].Listable)
  · exact ht

namespace State.ListServes

variable {s t : State} {id : Fin 96} {l : Fin 8}

theorem published (hs : s.ListServes) (hsnap : s.SnapRight) {p : Snapshot} (hp : s.engine.snap = some p) :
    (s.published p).ListServes := by
  obtain ⟨hnodup, hserve⟩ := hs
  have hlist : (s.published p).engine.curtail =
      updateList p (s.written p) (wrapSucc16 s.engine.passCount) s.engine.curtail := by
    rw [State.published_frame]
    rfl
  rw [ListServes, hlist]
  have hws : ((s.written p).map (·.id)).Nodup := (hsnap p hp).1.sublist (List.filter_sublist.map _)
  refine ⟨updateList_nodup hws hnodup, fun e he => State.published_listable p ?_⟩
  rcases mem_updateList he with hold | ⟨r, hr, hc, hid⟩
  · exact hserve e hold
  · exact hid ▸ hsnap.listable hp hr hc

/-! ## The engine and the plant -/

theorem snapshot (hs : s.ListServes) : s.snapshot.ListServes := by
  refine hs.of_conns rfl fun j hj => ?_
  rw [State.snapshot_conn]
  split
  · exact hj
  · exact hj

theorem publish (hs : s.ListServes) (hsnap : s.SnapRight) : s.publish.ListServes := by
  cases hp : s.engine.snap with
  | none => rwa [State.publish, hp]
  | some p =>
    have ht := hs.published hsnap hp
    rw [State.publish_eq hp]
    unfold State.afterPublish
    dsimp only
    split
    · refine snapshot ?_
      exact ht
    · exact ht

theorem startOrRerun (hs : s.ListServes) : s.startOrRerun.ListServes := by
  unfold State.startOrRerun
  split
  · exact hs
  · exact hs.snapshot

theorem finish (hs : s.ListServes) : s.finish.ListServes := by
  unfold State.finish
  dsimp only
  split
  · exact startOrRerun (s := { s with urgent := false }) hs
  · exact hs

theorem assertTrip (hs : s.ListServes) : s.assertTrip.ListServes := by
  unfold State.assertTrip State.tripAssertion
  refine snapshot ?_
  split <;> exact hs

theorem sampleTrip (hs : s.ListServes) {asserted : Bool} : (s.sampleTrip asserted).ListServes := by
  unfold State.sampleTrip
  split
  · exact hs
  · split
    · exact hs
    · split
      · exact hs.assertTrip
      · exact hs

theorem intervalTick (hs : s.ListServes) : s.intervalTick.ListServes := by
  unfold State.intervalTick
  dsimp only
  split
  · refine startOrRerun ?_
    exact hs
  · exact hs

theorem offerTrigger (hs : s.ListServes) {old new : Nat} : (s.offerTrigger old new).ListServes := by
  unfold State.offerTrigger
  split
  · exact hs
  · split <;> exact hs

theorem setOffer (hs : s.ListServes) {v : Nat} : (s.setOffer v).ListServes := by
  refine offerTrigger ?_
  exact hs

theorem setEmergency (hs : s.ListServes) {v : Nat} : (s.setEmergency v).ListServes := by
  refine offerTrigger ?_
  exact hs

end State.ListServes
end Sys2Proof.Machine
end

section
/-! PROOFS. The curtailment list (O55): branches, drives and the port leave it alone, and so do the records. -/

namespace Sys2Proof.Machine
namespace State.ListServes

variable {s t : State} {n : Fin 8}

/-! ## Branches -/

theorem modBranch (hs : s.ListServes) {f : Branch → Branch} : (s.modBranch n f).ListServes := hs

theorem overrange (hs : s.ListServes) : (s.overrange n).ListServes := by
  unfold State.overrange
  split <;> exact hs

theorem countEdge (hs : s.ListServes) : (s.countEdge n).ListServes := by
  unfold State.countEdge State.countCascade State.countPlain
  split
  · split
    · exact hs
    · split
      · exact hs
      · exact hs.overrange
  · split
    · exact hs
    · exact hs.overrange

theorem edge (hs : s.ListServes) : (s.edge n).ListServes := by
  unfold State.edge
  dsimp only
  split
  · exact hs.modBranch.countEdge
  · exact hs

theorem meterEdge (hs : s.ListServes) : (s.meterEdge n).ListServes := by
  unfold State.meterEdge
  split
  · exact hs
  · split
    · exact hs.edge
    · exact hs.edge
    · exact hs

theorem gateStart (hs : s.ListServes) {high : Bool} : (s.gateStart n high).ListServes := by
  unfold State.gateStart
  split
  · dsimp only
    split
    · exact hs.modBranch.edge
    · exact hs
  · exact hs

theorem trimClosed (hs : s.ListServes) : (s.trimClosed n).ListServes := by
  unfold State.trimClosed
  dsimp only
  split <;> exact hs

theorem regulate (hs : s.ListServes) : (s.regulate n).ListServes := by
  unfold State.regulate
  dsimp only
  split
  · split
    · exact hs.modBranch.trimClosed
    · exact hs
  · split
    · exact hs
    · split <;> exact hs

theorem gateClose (hs : s.ListServes) : (s.gateClose n).ListServes := by
  unfold State.gateClose
  split
  · exact hs.modBranch.regulate
  · exact hs

theorem setMeter (hs : s.ListServes) {k prescale : Nat} {mode : GateMode} :
    (s.setMeter n k prescale mode).ListServes := by
  unfold State.setMeter
  dsimp only
  split
  · split <;> exact hs
  · exact hs

theorem setLimit (hs : s.ListServes) {limit : Nat} : (s.setLimit n limit).ListServes := by
  unfold State.setLimit
  dsimp only
  split <;> exact hs

/-! ## Drives -/

theorem stepExpires (hs : s.ListServes) : (s.stepExpires n).ListServes := by
  unfold State.stepExpires
  split
  · split <;> exact hs
  · exact hs

theorem encoderSample (hs : s.ListServes) {a b : Bool} : (s.encoderSample n a b).ListServes := by
  unfold State.encoderSample
  dsimp only
  split
  · exact hs
  · split
    · split <;> exact hs
    · split <;> exact hs

theorem homingExpires (hs : s.ListServes) {home : Bool} : (s.homingExpires n home).ListServes := by
  unfold State.homingExpires
  split
  · dsimp only
    split
    · exact hs
    · split <;> exact hs
  · exact hs

theorem homeValve (hs : s.ListServes) {home : Bool} : (s.homeValve n home).ListServes := by
  unfold State.homeValve
  dsimp only
  split <;> exact hs

/-! ## The port between its commands -/

theorem modPort (hs : s.ListServes) {f : Port → Port} : (s.modPort f).ListServes := hs

theorem closeWith (hs : s.ListServes) {r : Result} : (s.closeWith r).ListServes := hs

theorem capture (hs : s.ListServes) : s.capture.ListServes := by
  unfold State.capture
  split <;> exact hs

theorem placeMsb (hs : s.ListServes) : s.placeMsb.ListServes := by
  unfold State.placeMsb
  split
  · exact hs
  · split
    · exact hs.capture.modPort
    · exact hs

theorem byteDone (hs : s.ListServes) : s.byteDone.ListServes := hs.placeMsb.modPort

theorem endOpen (hs : s.ListServes) : s.endOpen.ListServes := by
  unfold State.endOpen
  split <;> exact hs

theorem selectPort (hs : s.ListServes) : s.selectPort.ListServes := by
  unfold State.selectPort
  split
  · exact hs
  · exact hs.modPort.placeMsb.modPort

theorem fallingEdge (hs : s.ListServes) {rose : Option Bool} : (s.fallingEdge rose).ListServes := by
  unfold State.fallingEdge
  split
  · split
    · exact hs.placeMsb.modPort
    · split
      · exact hs.placeMsb.modPort.modPort
      · exact hs
  · exact hs

end State.ListServes
end Sys2Proof.Machine
end

section
/-! PROOFS. The curtailment list (O55): the commands of the host, byte by byte. -/

namespace Sys2Proof.Machine

/-- An applied field of EDIT CONNECTION leaves the other records. -/
theorem State.edited_other {s : State} {i j : Fin 96} {f : Conn → Conn} (h : i ≠ j) :
    (s.edited i f).conns[j] = s.conns[j] :=
  State.modConn_other (s := s) (fun c => { f c with moved := true }) h

namespace State.ListServes

variable {s t : State} {id : Fin 96}

/-! ## Whole commands -/

theorem withId (hs : s.ListServes) {n : Nat} {k : Fin 96 → State × Result} (hk : ∀ id, (k id).1.ListServes) :
    (withId s n k).1.ListServes := by
  unfold Machine.withId
  split
  · exact hk _
  · exact hs

theorem withUnit (hs : s.ListServes) {n : Nat} {k : Fin 8 → State × Result} (hk : ∀ u, (k u).1.ListServes) :
    (withUnit s n k).1.ListServes := by
  unfold Machine.withUnit
  split
  · exact hk _
  · exact hs

theorem withGroup (hs : s.ListServes) {n : Nat} {k : Fin 6 → State × Result} (hk : ∀ g, (k g).1.ListServes) :
    (withGroup s n k).1.ListServes := by
  unfold Machine.withGroup
  split
  · exact hk _
  · exact hs

/-- A record that is created was VACANT, so not on the list (01 R11). -/
theorem create (hs : s.ListServes) {a : List Byte} {l : Fin 8} (hc : createRefused s a id = none) :
    (s.create a id l).ListServes := by
  have hst : s.conns[id].state = .vacant := by
    by_contra h
    rw [createRefused, if_pos h] at hc
    cases hc
  rw [State.create_eq]
  exact hs.modConn_unlisted (f := fun c => createRecord a l c.gen) (by rw [hst]; decide)

theorem doCreateConnection (hs : s.ListServes) {a : List Byte} : (doCreateConnection a s).1.ListServes := by
  refine hs.withId fun id => ?_
  split
  · exact hs
  · next hc => exact hs.withUnit fun l => hs.create hc

theorem suspendConn (hs : s.ListServes) : (s.suspendConn id).ListServes := by
  unfold State.suspendConn
  split
  · exact hs.gainCause
  · next hst =>
    have ht := hs.modConn_unlisted (f := fun c => { c.addCause .supervisor with moved := true }) (id := id)
      (by rw [hst]; decide)
    split
    · exact hs
    · dsimp only
      split
      · exact ht
      · exact ht.expireHold
  · exact hs

theorem doSuspend (hs : s.ListServes) {a : List Byte} : (doSuspend a s).1.ListServes := by
  refine hs.withId fun id => ?_
  split
  · exact hs.suspendConn
  · exact hs

theorem doResume (hs : s.ListServes) {a : List Byte} : (doResume a s).1.ListServes := by
  refine hs.withId fun id => ?_
  split
  · dsimp only
    split
    · exact hs.loseCause
    · exact hs
  · exact hs

theorem doRetireConnection (hs : s.ListServes) {a : List Byte} : (doRetireConnection a s).1.ListServes := by
  refine hs.withId fun id => ?_
  split
  · exact hs
  · exact hs.retire

theorem addDropTo (hs : s.ListServes) {addr : Nat} : (s.addDropTo id addr).ListServes :=
  recompute (s := s.takeSlot (Drop.fresh s.conns[id].line addr id .add)) (id := id) hs

theorem doAddDrop (hs : s.ListServes) {a : List Byte} : (doAddDrop a s).1.ListServes := by
  refine hs.withId fun id => ?_
  split
  · exact hs
  · split
    · exact hs
    · split
      · exact hs
      · split
        · exact hs
        · exact hs.addDropTo

theorem removeDropFrom (hs : s.ListServes) {d : Drop} : (s.removeDropFrom id d).ListServes := by
  have hcut : ((s.freeSlot d.line d.addr).cutExchange d.line d.addr).ListServes := by
    refine cutExchange ?_
    exact hs
  unfold State.removeDropFrom
  dsimp only
  generalize (s.freeSlot d.line d.addr).cutExchange d.line d.addr = t at hcut
  have hcomms : (if d.state = .silent then (t.recompute id t.conns[id].state).testComms id
      else t.recompute id t.conns[id].state).ListServes := by
    split
    · exact hcut.recompute.testComms
    · exact hcut.recompute
  split
  · exact (hcomms.testService (id := id)).modConn (id := id) (f := fun c => { c with moved := true }) fun k => k
  · exact hcomms.testService (id := id)

theorem doRemoveDrop (hs : s.ListServes) {a : List Byte} : (doRemoveDrop a s).1.ListServes := by
  refine hs.withId fun id => ?_
  split
  · exact hs
  · split
    · exact hs
    · split
      · exact hs
      · exact hs.removeDropFrom

theorem doClearShortfall (hs : s.ListServes) {a : List Byte} : (doClearShortfall a s).1.ListServes := by
  refine hs.withId fun id => ?_
  split
  · exact hs
  · exact hs.clearStanding

theorem doClearTrip (hs : s.ListServes) : (doClearTrip s).1.ListServes := by
  unfold Machine.doClearTrip
  split <;> exact hs

theorem doLineInit (hs : s.ListServes) {a : List Byte} : (doLineInit a s).1.ListServes := by
  refine hs.withUnit fun l => ?_
  split
  · exact hs
  · split <;> exact hs

theorem doStartLine (hs : s.ListServes) {a : List Byte} : (doStartLine a s).1.ListServes := by
  refine hs.withUnit fun l => ?_
  split
  · exact hs.startLine
  · exact hs

theorem doStopLine (hs : s.ListServes) {a : List Byte} : (doStopLine a s).1.ListServes := by
  refine hs.withUnit fun l => ?_
  split
  · exact hs
  · exact hs.stopLine

theorem doSetMeter (hs : s.ListServes) {a : List Byte} : (doSetMeter a s).1.ListServes := by
  refine hs.withUnit fun n => ?_
  split
  · exact hs
  · split
    · exact hs
    · split
      · exact hs
      · exact hs.setMeter

theorem doSetCascade (hs : s.ListServes) {a : List Byte} : (doSetCascade a s).1.ListServes := by
  refine hs.withUnit fun n => ?_
  split
  · exact hs
  · split
    · exact hs
    · split
      · split <;> exact hs
      · split <;> exact hs

theorem doSetValveDrive (hs : s.ListServes) {a : List Byte} : (doSetValveDrive a s).1.ListServes := by
  refine hs.withUnit fun n => ?_
  split <;> exact hs

theorem wholeAct (hs : s.ListServes) {c : Cmd} {a : List Byte} {home : Bool} : (wholeAct c a home s).1.ListServes := by
  cases c
  case createConnection => exact hs.doCreateConnection
  case suspend => exact hs.doSuspend
  case resume => exact hs.doResume
  case retireConnection => exact hs.doRetireConnection
  case addDrop => exact hs.doAddDrop
  case removeDrop => exact hs.doRemoveDrop
  case setStreamPointer => exact hs.withId fun _ => hs
  case clearShortfall => exact hs.doClearShortfall
  case setEmergencyOffer => exact hs.setEmergency
  case clearTrip => exact hs.doClearTrip
  case lineInit => exact hs.doLineInit
  case startLine => exact hs.doStartLine
  case stopLine => exact hs.doStopLine
  case lineReset => exact hs.withUnit fun _ => hs.resetLine
  case clearLineErrors => exact hs.withUnit fun _ => hs.modLine
  case setMeter => exact hs.doSetMeter
  case setBranchLimit => exact hs.withUnit fun _ => hs.setLimit
  case setCascade => exact hs.doSetCascade
  case setValveDrive => exact hs.doSetValveDrive
  case homeValve => exact hs.withUnit fun _ => hs.homeValve
  case ackAttention => exact hs.withGroup fun _ => hs
  case setGroupLevel => exact hs.withGroup fun _ => hs
  all_goals exact hs

/-! ## Field commands -/

theorem edited (hs : s.ListServes) {f : Conn → Conn} (hf : s.conns[id].Listable → (f s.conns[id]).Listable) :
    (s.edited id f).ListServes :=
  hs.modConn (f := fun c => { f c with moved := true }) hf

/-- A hold value takes an ACTIVE connection off the list; the value 65535 is none, and any other record is not on it
(03 R61). -/
theorem editHold (hs : s.ListServes) {v : Nat} : (editHold id v s).1.ListServes := by
  unfold Machine.editHold
  dsimp only
  split
  · refine hs.of_left rfl fun j h => ?_
    simp only [State.leaveList_conns, State.modConn_other _ h, State.edited_other h]
  · next h =>
    refine hs.edited fun k => ⟨k.1, ?_⟩
    have hv : v = 65535 := by
      by_contra hne
      exact h ⟨k.1, hne⟩
    simp [optField, hv]

theorem editField (hs : s.ListServes) {pos : Nat} {f : List Byte} {e : FieldEnd}
    (hf : editField pos f s = some (t, e)) : t.ListServes := by
  have key : ∀ r : State × FieldEnd, r.1.ListServes → some r = some (t, e) → t.ListServes := by
    rintro r hr he
    cases he
    exact hr
  unfold Machine.editField at hf
  split at hf
  · refine key _ ?_ hf
    unfold editId
    split
    · split <;> exact hs
    · exact hs
  · refine key _ ?_ hf
    unfold editClass
    split
    · exact hs
    · exact hs.edited fun k => k
  · exact key _ (hs.edited fun k => k) hf
  · exact key _ (hs.edited fun k => k) hf
  · refine key _ ?_ hf
    unfold editMax State.scaleShares
    dsimp only
    have ht := hs.edited (id := s.editTarget) (f := fun c => { c with
      maxFlow := clampNat 1 20000 (arg2 f 0), fallback := c.fallback.map (fun x => min x (clampNat 1 20000 (arg2 f 0)))
      ceiling := min c.ceiling (clampNat 1 20000 (arg2 f 0)) }) fun k => k
    split
    · exact ht
    · exact ht
  · exact key _ (hs.edited fun k => k) hf
  · exact key _ hs.editHold hf
  · cases hf

theorem fieldOf (hs : s.ListServes) {c : Cmd} {pos : Nat} {f : List Byte} {e : FieldEnd}
    (hf : fieldOf c pos f s = some (t, e)) : t.ListServes := by
  unfold Machine.fieldOf at hf
  split at hf
  · exact hs.editField hf
  · unfold passField at hf
    split at hf <;> cases hf <;> exact hs
  · unfold offerField at hf
    split at hf <;> cases hf
    · exact hs.setOffer
    · exact hs
  · unfold regField regBranch at hf
    split at hf
    · split at hf <;> cases hf <;> exact hs
    · cases hf
      exact hs
    · cases hf
      exact hs
    · cases hf
  · cases hf

/-! ## The port byte by byte -/

theorem finishWhole (hs : s.ListServes) {c : Cmd} {a : List Byte} {home : Bool} : (s.finishWhole c a home).ListServes :=
  hs.wholeAct.closeWith

theorem collect (hs : s.ListServes) {b : Byte} {home : Bool} : (s.collect b home).ListServes := by
  unfold State.collect
  split
  · exact hs
  · split
    · unfold State.collectWhole
      split
      · exact hs
      · split
        · exact hs.finishWhole
        · exact hs
    · unfold State.collectRead
      split <;> exact hs
    · unfold State.collectField
      split
      · exact hs
      · next hf =>
        have ht := hs.fieldOf hf
        unfold State.nextField
        split
        · exact ht.closeWith
        · exact ht.modPort
      · next hf => exact (hs.fieldOf hf).closeWith

theorem paramByte (hs : s.ListServes) {b : Byte} {home : Bool} : (s.paramByte b home).ListServes := by
  unfold State.paramByte
  split
  · refine finish ?_
    split
    · exact hs.byteDone
    · exact hs.byteDone.collect
    · exact hs.byteDone.modPort
  · exact hs

theorem openCmd (hs : s.ListServes) {c : Cmd} : (s.openCmd c).ListServes := by
  unfold State.openCmd
  split
  · split
    · exact hs
    · exact hs.finishWhole
  · exact hs

theorem commandByte (hs : s.ListServes) {code : Byte} : (s.commandByte code).ListServes := by
  unfold State.commandByte
  split
  · refine finish ?_
    split
    · exact hs.byteDone.endOpen.openCmd
    · exact hs.byteDone.endOpen.closeWith
  · exact hs

theorem send (hs : s.ListServes) {c : Cmd} {params : List Byte} {home : Bool} : (s.send c params home).ListServes :=
  foldl_invariant (f := fun t b => t.paramByte b home) (fun _ _ ht => ht.paramByte) params hs.commandByte

end State.ListServes
end Sys2Proof.Machine
end

section
/-! PROOFS. The curtailment list (O55): the Timebase, the events and the step. -/

namespace Sys2Proof.Machine
namespace State.ListServes

variable {s t : State} {id : Fin 96} {l n : Fin 8}

/-! ## The Timebase -/

theorem holdExpires (hs : s.ListServes) : (s.holdExpires id).ListServes := by
  unfold State.holdExpires
  split
  · exact hs.expireHold
  · exact hs

theorem tickHold (hs : s.ListServes) : (s.tickHold id).ListServes := by
  unfold State.tickHold
  split
  · split
    · exact hs.holdExpires.finish
    · exact hs.modConn fun k => k
  · exact hs

theorem tickGate (hs : s.ListServes) : (s.tickGate n).ListServes := by
  unfold State.tickGate
  dsimp only
  split
  · refine finish (gateStart ?_)
    exact hs
  · split
    · exact hs.gateClose.finish
    · exact hs
  · exact hs

theorem tickInterval (hs : s.ListServes) : s.tickInterval.ListServes := by
  unfold State.tickInterval
  split
  · exact hs.intervalTick.finish
  · exact hs

theorem tickLine (hs : s.ListServes) : (s.tickLine l).ListServes := by
  unfold State.tickLine
  dsimp only
  split
  · split
    · exact hs.responseExpires.finish
    · exact hs
  · split
    · split
      · exact hs.spacingEnds.finish
      · exact hs
    · exact hs.idleSelects.finish

theorem tickPass (hs : s.ListServes) (hsnap : s.SnapRight) : s.tickPass.ListServes := by
  unfold State.tickPass
  split
  · split
    · exact (hs.publish hsnap).finish
    · exact hs
  · exact hs

theorem tickSecond (hs : s.ListServes) : s.tickSecond.ListServes :=
  (foldl_invariant (fun _ _ => tickGate) _ (foldl_invariant (fun _ _ => tickHold) _ hs)).tickInterval

/-- The pass in flight finds the records that the qualifier and the lines leave: they keep grants and snapshot right. -/
theorem milli (hs : s.ListServes) (hg : s.GrantsRight) : s.milli.ListServes := by
  have htrip : ({ s with now := Moment.start } : State).tickTrip.GrantsRight ∧
      ({ s with now := Moment.start } : State).tickTrip.ListServes := by
    refine ⟨grantsRight_law.finish (grantsRight_law.sampleTrip ?_), finish (sampleTrip ?_)⟩
    · exact hg
    · exact hs
  obtain ⟨⟨_, hsnap⟩, hlines⟩ := foldl_invariant (f := State.tickLine) (P := fun t => t.GrantsRight ∧ t.ListServes)
    (fun _ _ ⟨hgrant, hlist⟩ => ⟨grantsRight_law.tickLine hgrant, hlist.tickLine⟩) (List.finRange 8) htrip
  exact hlines.tickPass hsnap

theorem tick (hs : s.ListServes) (hg : s.GrantsRight) : s.tick.ListServes := by
  have ht := hs.milli hg
  rw [State.tick_eq]
  generalize s.milli = m at ht ⊢
  split
  · refine tickSecond ?_
    exact ht
  · exact ht

/-! ## Commands and steps -/

/-- The list is empty after reset (03 R73). -/
theorem afterReset {trip selLow : Bool} : (State.afterReset trip selLow).ListServes :=
  ⟨List.nodup_nil, fun _ he => absurd he List.not_mem_nil⟩

/-- An event that may find its condition not met. -/
theorem ite {c : Prop} [Decidable c] (hs : s.ListServes) (ht : t.ListServes) : (if c then t else s).ListServes := by
  split
  · exact ht
  · exact hs

theorem exec (hs : s.ListServes) (hsnap : s.SnapRight) {i : Instr} (he : exec i s = .next t) : t.ListServes := by
  have key : ∀ {u : State}, u.ListServes → (Host.Outcome.next u : Answer) = .next t → t.ListServes := by
    rintro u hu he
    cases he
    exact hu
  cases i
  case badCommand code => exact key hs.commandByte he
  case parameterByte b home => exact key hs.paramByte he
  case dataBytePeriod => exact key (hs.ite hs.paramByte) he
  case selAssert => exact key hs.selectPort.finish he
  case selRelease => exact key (finish (s := s.releasePort) hs) he
  case partReset trip =>
    refine key (u := { State.afterReset trip s.port.selLow with free := s.free, pending := s.pending }) ?_ he
    exact afterReset (trip := trip) (selLow := s.port.selLow)
  case tripInputSample asserted => exact key hs.sampleTrip.finish he
  case qualifiedAssertion => exact key (ite hs.assertTrip.finish hs) he
  case qualifiedDeassertion => exact key (hs.ite (finish (s := s.deassertTrip) hs)) he
  case intervalTick => exact key hs.intervalTick.finish he
  case publication => exact key (hs.publish hsnap).finish he
  case idleLineSelection l => exact key hs.idleSelects.finish he
  case pollSpacingExpiry l => exact key hs.spacingEnds.finish he
  case pollSent l echo => exact key (hs.ite (finish (ite hs.pollOut hs.checkEcho))) he
  case replyStart l => exact key (hs.ite hs.modLine.finish) he
  case responseTimeout l => exact key hs.responseExpires.finish he
  case frameReceived l bytes => exact key hs.frameIn.finish he
  case brokenFrame l => exact key (hs.ite hs.frameBreaks.finish) he
  case gapLimitExpiry l => exact key (hs.ite hs.frameBreaks.finish) he
  case contention l => exact key (hs.ite hs.lineFaults.finish) he
  case commsHoldExpiry id => exact key hs.holdExpires.finish he
  case meterEdge n => exact key hs.meterEdge.finish he
  case gateArmedStart n high => exact key hs.gateStart.finish he
  case gateClose n => exact key hs.gateClose.finish he
  case stepTimerExpiry n => exact key hs.stepExpires.finish he
  case homingStepExpiry n home => exact key hs.homingExpires.finish he
  case encoderSample n a b => exact key hs.encoderSample.finish he
  case sckFallingEdge rose => exact key hs.fallingEdge.finish he
  all_goals exact key hs.send he

theorem step (hs : s.ListServes) (hg : s.GrantsRight) (he : step s = .next t) : t.ListServes := by
  unfold Machine.step at he
  split at he
  · exact Host.Outcome.next.inj he ▸ hs.tick hg
  · next rest _ => exact exec (s := { s with pending := rest }) hs hg.2 he

end State.ListServes

/-- Settles O55: every operation but a publication leaves the list right whatever the grants are; a publication finds
the contract of its snapshot in the records, as the law of the grants (O54) keeps it. -/
theorem everyStepKeepsCurtailmentList : Obligations.EveryStepKeepsCurtailmentList := by
  intro s t hg hlist he
  obtain ⟨hserve, _⟩ := State.listRight_iff.1 hlist
  exact State.listRight_iff.2 ⟨hserve.step hg he, (everyStepKeepsGrants s t hg he).2⟩

end Sys2Proof.Machine
end

section
/-! PROOFS. CLEAR SHORTFALL, SET DEMOTE THRESHOLD, SET COMMS HOLD and SET STREAM POINTER (O19). -/

namespace Sys2Proof.Machine

/-! ## CLEAR SHORTFALL -/

/-- CLEAR SHORTFALL of an id above 95. -/
theorem doClearShortfall_badId {s : State} {a : Byte} (ha : 95 < a.toNat) : doClearShortfall [a] s = (s, .badId) :=
  withId_bad ha

/-- CLEAR SHORTFALL on a connection: its check (03 R71). -/
theorem doClearShortfall_eq {s : State} {id : Fin 96} {a : Byte} (ha : a.toNat = id.val) : doClearShortfall [a] s =
    if s.conns[id].refuses then (s, .badState) else (s.clearStanding id, .ok) := withId_conn (id := id) ha

/-- With LOW_DT clear only the score is cleared. -/
theorem State.clearStanding_of_clear {s : State} {id : Fin 96} (h : s.conns[id].lowDt = false) :
    s.clearStanding id = s.modConn id (fun c => { c with score := 0 }) := by
  unfold State.clearStanding
  rw [if_neg (by rw [h]; decide)]

/-- With LOW_DT set its change is reported and pending is set (03 R68). -/
theorem State.clearStanding_of_low {s : State} {id : Fin 96} (h : s.conns[id].lowDt = true) : s.clearStanding id =
    { s with
      conns := s.conns.set id { s.conns[id] with score := 0, lowDt := false }
      engine := { s.engine with pend := true }
      att := s.att.raise .lowDtChanged } := by
  rw [State.clearStanding_eq, h, Bool.or_true, if_pos rfl]

/-- CLEAR SHORTFALL accepted, on a ready port (03 R71). -/
theorem exec_clearShortfall {s t : State} {id : Fin 96} {a : Byte} (h : s.Ready) (ha : a.toNat = id.val)
    (hst : s.conns[id].state = .pending ∨ s.conns[id].state = .active ∨ s.conns[id].state = .suspended)
    (ht : (s.acting .clearShortfall 0 []).clearStanding id = t) :
    exec (.clearShortfall [a]) s = .next (t.closeWith .ok).finish := by
  refine congrArg _ (exec_one_act h .clearShortfall a false ?_)
  rw [← ht]
  exact (doClearShortfall_eq ha).trans (if_neg (Bool.eq_false_iff.mp (Conn.refuses_eq_false_iff.mpr hst)))

/-! ## One value stored -/

/-- CLAMPED for a value outside its range, OK otherwise (09 R187). -/
theorem clampResult_clampNat {lo hi v : Nat} (h : lo ≤ hi) :
    clampResult (clampNat lo hi v != v) = okOrClamped (v < lo ∨ hi < v) := by
  have hout : (!(decide (lo ≤ v) && decide (v ≤ hi))) = decide (v < lo ∨ hi < v) := by
    simp only [Bool.not_and, ← decide_not, not_le, Bool.decide_or]
  rw [clampNat_bne h, hout]
  rfl

/-- SET DEMOTE THRESHOLD (03 R70): 0 is raised to 1. -/
theorem exec_setDemoteThreshold {s : State} (h : s.Ready) (a : Byte) : exec (.setDemoteThreshold [a]) s = .next { s with
    port := s.port.closed (okOrClamped (a.toNat = 0)), demote := if a.toNat = 0 then 1 else a.toNat } := by
  have hmax : max 1 a.toNat = if a.toNat = 0 then 1 else a.toNat := by
    split <;> omega
  rw [← hmax]
  exact congrArg _ ((exec_one_act h .setDemoteThreshold a false rfl).trans (State.finish_of_settled h.2.2))

/-- SET COMMS HOLD (06 R125). -/
theorem exec_setCommsHold {s : State} (h : s.Ready) (a b : Byte) : exec (.setCommsHold [a, b]) s = .next { s with
    port := s.port.closed (okOrClamped (a.toNat * 256 + b.toNat < 10 ∨ 600 < a.toNat * 256 + b.toNat))
    holdSetting := max 10 (min 600 (a.toNat * 256 + b.toNat)) } := by
  rw [← clampResult_clampNat (by decide)]
  exact congrArg _ ((exec_two_act h .setCommsHold a b false rfl).trans (State.finish_of_settled h.2.2))

/-- SET STREAM POINTER of an id above 95. -/
theorem doSetStreamPointer_badId {s : State} {a : Byte} (ha : 95 < a.toNat) : doSetStreamPointer [a] s = (s, .badId) :=
  withId_bad ha

/-- SET STREAM POINTER of a connection. -/
theorem doSetStreamPointer_eq {s : State} {id : Fin 96} {a : Byte} (ha : a.toNat = id.val) :
    doSetStreamPointer [a] s = ({ s with port := { s.port with pointer := id } }, .ok) := withId_conn (id := id) ha

/-- SET STREAM POINTER accepted, on a ready port (09 R189). -/
theorem exec_setStreamPointer {s : State} {id : Fin 96} {a : Byte} (h : s.Ready) (ha : a.toNat = id.val) :
    exec (.setStreamPointer [a]) s = .next { s with port := { s.port.closed .ok with pointer := id } } :=
  congrArg _ ((exec_one_act h .setStreamPointer a false (doSetStreamPointer_eq ha)).trans
    (State.finish_of_settled h.2.2))

/-- Settles O19. -/
theorem shortfallAndSettings : Obligations.ShortfallAndSettings := by
  refine ⟨fun s a h => ⟨fun ha => ?_, ?_⟩, fun s a b h => ⟨exec_setDemoteThreshold h a, exec_setCommsHold h a b,
    fun ha => ?_, fun id ha => exec_setStreamPointer h ha⟩⟩
  · exact congrArg _ (exec_one_refused h .clearShortfall a false (doClearShortfall_badId ha))
  · rintro id c ha rfl
    refine ⟨fun hst => ?_, fun hst hlow => ?_, fun hst hlow => ?_⟩
    · exact congrArg _ (exec_one_refused h .clearShortfall a false
        ((doClearShortfall_eq ha).trans (if_pos (Conn.refuses_of hst))))
    · rw [exec_clearShortfall h ha hst (State.clearStanding_of_clear hlow)]
      exact congrArg _ (State.finish_of_settled h.2.2)
    · rw [exec_clearShortfall h ha hst (State.clearStanding_of_low hlow)]
      exact congrArg _ (State.closeWith_quiet _ h.2.2.1)
  · exact congrArg _ (exec_one_refused h .setStreamPointer a false (doSetStreamPointer_badId ha))

end Sys2Proof.Machine
end

section
/-! PROOFS. SET PLANT OFFER, SET EMERGENCY OFFER and CLEAR TRIP (O28). -/

namespace Sys2Proof.Machine

/-! ## The trigger by comparison -/

/-- The state after an event that replaced an offer: a lower one is an urgent trigger, a higher one sets pending, an equal
one is no trigger (04 R76, R78). -/
def State.compared (s : State) (old new : Nat) : State :=
  if new < old then s.answered else if old < new then { s with engine := { s.engine with pend := true } } else s

/-- An offer replaced, at the end of its event. -/
theorem State.offerTrigger_finish {s : State} (h : s.Settled) (old new : Nat) :
    (s.offerTrigger old new).finish = s.compared old new := by
  unfold State.offerTrigger State.compared
  split
  · exact State.finish_wanted h.1
  · split
    · exact State.finish_of_settled h
    · exact State.finish_of_settled h

/-- The comparison leaves nothing over. -/
theorem State.compared_settled {s : State} (h : s.Settled) (old new : Nat) : (s.compared old new).Settled := by
  rw [← State.offerTrigger_finish h]
  exact State.finish_settled _

/-- The trigger does not look at the port. -/
theorem State.offerTrigger_modPort (s : State) (old new : Nat) (f : Port → Port) :
    (s.offerTrigger old new).modPort f = (s.modPort f).offerTrigger old new := by
  unfold State.offerTrigger
  split
  · rfl
  · split <;> rfl

/-- A pass that starts, or is wanted, looks at neither the port nor the setpoint (02 R38, 04 R77). -/
theorem State.answered_setpoint (s : State) (p : Port) (w : Int) :
    ({ s with port := p, plant := { s.plant with setpoint := w } } : State).answered =
      { s.answered with port := p, plant := { s.answered.plant with setpoint := w } } := by
  have hcomputing : ({ s with port := p, plant := { s.plant with setpoint := w } } : State).computing = s.computing := rfl
  unfold State.answered State.startOrRerun
  rw [hcomputing]
  split <;> rfl

/-- The comparison looks at neither the port nor the setpoint. -/
theorem State.compared_setpoint (s : State) (p : Port) (w : Int) (old new : Nat) :
    ({ s with port := p, plant := { s.plant with setpoint := w } } : State).compared old new =
      { s.compared old new with port := p, plant := { (s.compared old new).plant with setpoint := w } } := by
  unfold State.compared
  split
  · exact State.answered_setpoint s p w
  · split <;> rfl

/-- The comparison leaves the setpoint as it was. -/
theorem State.compared_plant_setpoint (s : State) (old new : Nat) :
    (s.compared old new).plant.setpoint = s.plant.setpoint := by
  unfold State.compared
  split
  · unfold State.answered State.startOrRerun
    split <;> rfl
  · split <;> rfl

/-- The comparison does not look at the port. -/
theorem State.compared_port (s : State) (p : Port) (old new : Nat) :
    ({ s with port := p } : State).compared old new = { s.compared old new with port := p } := by
  refine (State.compared_setpoint s p s.plant.setpoint old new).trans ?_
  rw [← State.compared_plant_setpoint s old new]

/-! ## The values brought into range -/

/-- The value of three bytes. -/
theorem arg3_bytes (a b c : Byte) : arg3 [a, b, c] 0 = a.toNat * 65536 + b.toNat * 256 + c.toNat :=
  (Nat.add_assoc _ _ _).symm

/-- The sign of a 16-bit value is that of its first byte (11 R204). -/
theorem signed16_bytes (h l : Byte) : signed16 (h.toNat * 256 + l.toNat) =
    if h.toNat < 128 then (h.toNat * 256 + l.toNat : Int) else h.toNat * 256 + l.toNat - 65536 := by
  have hl := l.isLt
  have hsign : h.toNat * 256 + l.toNat < 32768 ↔ h.toNat < 128 := by omega
  simp only [signed16, hsign, Nat.cast_add, Nat.cast_mul, Nat.cast_ofNat]

/-- CLAMPED when the offer or the setpoint was brought into range (04 R75). -/
theorem offerResult_eq {n : Nat} (v w : Int) (hw : w = clampInt (-100) 600 v) :
    clampResult (decide (400000 < n) || (clampInt (-100) 600 v != v)) = okOrClamped (!(n ≤ 400000 && w == v)) := by
  subst hw
  simp only [Bool.not_and, ← decide_not, not_le]
  rfl

/-! ## The bytes of SET PLANT OFFER -/

/-- A field command opened (09 R181). -/
theorem State.send_field_nil {s : State} (h : s.Ready) {c : Cmd} (hn : c.paramCount ≠ 0) :
    s.send c [] false = { s with port := s.port.opened c 0 [] 0 false } := by
  show s.commandByte c.code = _
  rw [State.commandByte_ready h, Cmd.ofCode_code]
  dsimp only
  rw [State.openCmd_params s c hn]
  exact State.finish_of_settled h.2.2

section bytes
variable {s : State} (h : s.Settled) {p : Port} (hl : p.listening = true)
include hl

/-- A parameter byte of an open field command (09 R184), whatever the earlier fields did to the rest of the state. -/
theorem State.paramByte_opened {c : Cmd} (hk : c.kind = .field) (pos : Nat) (held : List Byte) (cl : Bool) (b : Byte) :
    ({ s with port := p.opened c pos held 0 cl } : State).paramByte b false =
      (({ s with port := (p.opened c pos held 0 cl).period 0 } : State).collectField c (held ++ [b])).finish := by
  have hsel : p.selLow = true ∧ p.seenHigh = true := (Port.listening_iff _).mp hl
  exact State.paramByte_field (s := { s with port := p.opened c pos held 0 cl }) ((Port.listening_iff _).mpr hsel) rfl rfl
    hk b false

include h

/-- A byte inside a field is held (09 R184). -/
theorem State.paramByte_opened_more {c : Cmd} (hk : c.kind = .field) (pos : Nat) (held : List Byte) (cl : Bool) (b : Byte)
    (hf : ∀ t, fieldOf c (pos + 1) (held ++ [b]) t = none) :
    ({ s with port := p.opened c pos held 0 cl } : State).paramByte b false =
      { s with port := p.opened c (pos + 1) (held ++ [b]) 0 cl } := by
  rw [State.paramByte_opened hl hk, State.collectField_none (hf _)]
  exact State.finish_of_settled h

/-- The offer field of SET PLANT OFFER, after its command byte (04 R76). -/
theorem State.paramByte_offer (a b c : Byte) {n v : Nat} (hn : n = a.toNat * 65536 + b.toNat * 256 + c.toNat)
    (hv : v = min 400000 n) :
    ((({ s with port := p.opened .setPlantOffer 0 [] 0 false } : State).paramByte a false).paramByte b false).paramByte c
      false = { ({ s with plant := { s.plant with offer := v } } : State).compared s.plant.offer v with
        port := p.opened .setPlantOffer 3 [] 0 (400000 < n) } := by
  rw [State.paramByte_opened_more h hl rfl _ _ _ _ fun _ => rfl, State.paramByte_opened_more h hl rfl _ _ _ _ fun _ => rfl,
    State.paramByte_opened hl rfl, State.collectField_applied rfl, State.nextField,
    if_neg (by exact (by decide : ¬ 2 + 1 = 5)), ← State.compared_port, ← State.offerTrigger_finish (by exact h), hv, hn,
    ← arg3_bytes, State.setOffer, State.offerTrigger_modPort]
  rfl

/-- The setpoint field of SET PLANT OFFER, the last of the command (04 R77). -/
theorem State.paramByte_setpoint (cl : Bool) (a b : Byte) {x : Int} (hx : x = signed16 (a.toNat * 256 + b.toNat)) :
    (({ s with port := p.opened .setPlantOffer 3 [] 0 cl } : State).paramByte a false).paramByte b false = { s with
      port := p.closed (clampResult (cl || (clampInt (-100) 600 x != x)))
      plant := { s.plant with setpoint := clampInt (-100) 600 x } } := by
  subst hx
  rw [State.paramByte_opened_more h hl rfl _ _ _ _ fun _ => rfl, State.paramByte_opened hl rfl,
    State.collectField_applied rfl, State.nextField, if_pos (by rfl)]
  exact State.finish_of_settled h

end bytes

/-! ## SET EMERGENCY OFFER and CLEAR TRIP -/

/-- SET EMERGENCY OFFER (04 R78). -/
theorem exec_setEmergencyOffer {s : State} (h : s.Ready) (a b c : Byte) {n v : Nat}
    (hn : n = a.toNat * 65536 + b.toNat * 256 + c.toNat) (hv : v = min 400000 n) {u : State}
    (hu : u = { s with
      port := s.port.closed (okOrClamped (400000 < n)), plant := { s.plant with emergency := v } }) :
    exec (.setEmergencyOffer [a, b, c]) s = .next (u.compared s.plant.emergency v) := by
  have hsend : s.send .setEmergencyOffer [a, b, c] false = _ :=
    State.send_whole h rfl [a, b] c false (by exact (by decide : 2 < 3)) rfl rfl
  have hset : u.Settled := by
    rw [hu]
    exact h.2.2
  rw [← State.offerTrigger_finish hset, hu, hv, hn, ← arg3_bytes]
  refine congrArg _ (hsend.trans ?_)
  show ((State.setEmergency _ _).modPort _).finish = _
  rw [State.setEmergency, State.offerTrigger_modPort]
  rfl

/-- CLEAR TRIP while the qualified level is asserted (04 R83). -/
theorem exec_clearTrip_refused {s : State} (h : s.Ready) (hlevel : s.plant.level = true) :
    exec .clearTrip s = .next (s.refuse .badState) := by
  have hact : doClearTrip { s with port := s.port.period 0 } = ({ s with port := s.port.period 0 }, .badState) :=
    if_pos hlevel
  show Host.Outcome.next (s.send .clearTrip [] false) = _
  rw [State.send_whole_zero h rfl rfl, State.finishWhole, show wholeAct .clearTrip [] false _ = _ from hact]
  exact congrArg _ (State.finish_of_settled h.2.2)

/-- CLEAR TRIP accepted, whatever the latch was (04 R83). -/
theorem exec_clearTrip_accepted {s : State} (h : s.Ready) (hlevel : s.plant.level = false) :
    exec .clearTrip s = .next
      ({ s with port := s.port.closed .ok, plant := { s.plant with latch := false } } : State).answered := by
  have hact : doClearTrip { s with port := s.port.period 0 } =
      (({ s with port := s.port.period 0 } : State).clearLatch, .ok) := if_neg (by exact Bool.eq_false_iff.mp hlevel)
  show Host.Outcome.next (s.send .clearTrip [] false) = _
  rw [State.send_whole_zero h rfl rfl, State.finishWhole, show wholeAct .clearTrip [] false _ = _ from hact]
  exact congrArg _ (State.closeWith_wanted .ok
    (s := { s with port := s.port.period 0, plant := { s.plant with latch := false } }) h.2.2.1)

/-- Settles O28: what follows the offer field, the setpoint and the closing of the port, commutes with the pass that the
offer may have started. -/
theorem offersAndClearTrip : Obligations.OffersAndClearTrip := by
  refine ⟨?_, fun s h => ⟨exec_clearTrip_refused h, exec_clearTrip_accepted h⟩⟩
  rintro s a b c hi lo v w h hv hw
  have hset : (({ s with plant := { s.plant with offer := v } } : State).compared s.plant.offer v).Settled :=
    State.compared_settled (by exact h.2.2) _ _
  have hopen := State.send_field_nil h (c := .setPlantOffer) (by decide)
  have hoffer : s.send .setPlantOffer [a, b, c] false = _ :=
    (congrArg (fun t => ((State.paramByte t a false).paramByte b false).paramByte c false) hopen).trans
      (State.paramByte_offer h.2.2 h.1 a b c rfl hv)
  refine ⟨?_, ?_, ?_⟩
  · rintro u rfl
    exact congrArg _ (hoffer.trans (State.compared_port _ _ _ _).symm)
  · rintro u rfl
    rw [← signed16_bytes] at hw ⊢
    rw [← offerResult_eq _ _ hw]
    have hsetpoint : s.send .setPlantOffer [a, b, c, hi, lo] false = _ :=
      (congrArg (fun t => (State.paramByte t hi false).paramByte lo false) hoffer).trans
        (State.paramByte_setpoint hset h.1 _ hi lo rfl)
    rw [show w = clampInt (-100) 600 _ from hw]
    exact congrArg _ (hsetpoint.trans (State.compared_setpoint _ _ _ _ _).symm)
  · rintro u rfl
    exact exec_setEmergencyOffer h a b c rfl hv rfl

end Sys2Proof.Machine
end

section
/-! PROOFS. What the events of a line make of it (O59). Each writes its own line alone: `State.Writes` names the record it
leaves there, from which the later statements about a line under way are read off. -/

namespace Sys2Proof.Machine

/-! ## One line written -/

/-- Of the lines only `l` has changed, and it is `z` now. -/
def State.Writes (s : State) (l : Fin 8) (z : Line) (t : State) : Prop := t.lines = s.lines.set l z

namespace State.Writes

variable {s t u : State} {l : Fin 8} {y z : Line}

theorem self (h : s.Writes l z t) : t.lines[l] = z := by
  rw [h, getElem_set_fin, if_pos rfl]

theorem trans (h : s.Writes l y t) (k : t.Writes l z u) : s.Writes l z u := by
  rw [Writes, k, h, Vector.set_set]

theorem modLine (s : State) (l : Fin 8) (f : Line → Line) : s.Writes l (f s.lines[l]) (s.modLine l f) := rfl

/-- A change of a line that has just been written. -/
theorem andModLine (h : s.Writes l y t) (f : Line → Line) : s.Writes l (f y) (t.modLine l f) := by
  have hline := modLine t l f
  rw [h.self] at hline
  exact h.trans hline

/-- What leaves the lines alone. -/
theorem of_lines (h : t.lines = s.lines) : s.Writes l s.lines[l] t := h.trans (Vector.set_getElem_self _).symm

theorem andLines (h : s.Writes l z t) (k : u.lines = t.lines) : s.Writes l z u := k.trans h

end State.Writes

/-! ## Leaving POLLING and the end of an exchange -/

@[simp] theorem State.closeAll_lines (s : State) (id : Fin 96) : (s.closeAll id).lines = s.lines :=
  State.vacantIfClosed_lines _ id

@[simp] theorem State.lineLost_lines (l : Fin 8) (s : State) (id : Fin 96) : (State.lineLost l s id).lines = s.lines := by
  unfold State.lineLost
  split
  · split
    · exact State.gainCause_lines ..
    · exact State.gainCause_lines ..
    · exact State.closeAll_lines ..
    · rfl
  · rfl

@[simp] theorem State.leavePolling_lines (s : State) (l : Fin 8) : (s.leavePolling l).lines = s.lines :=
  State.leavePolling_keeps (P := fun t => t.lines = s.lines) (fun _ _ h => (State.lineLost_lines ..).trans h) s rfl

@[simp] theorem State.enterPolling_lines (s : State) (l : Fin 8) : (s.enterPolling l).lines = s.lines := by
  rw [State.enterPolling_eq]

/-- A line that has entered READY or FAULTED (05 R88, R91, R104). -/
def Line.gone (x : Line) (st : LineState) : Line := { x.quiet with state := st }

/-- A line at the end of an exchange, once a stop pending has been taken (05 R91). -/
def Line.stopTaken (x : Line) : Line := if x.stop then x.gone .ready else x

/-- A line after an exchange that ended with a miss (05 R96, R104). -/
def Line.afterMiss (x : Line) (spoiled : Bool) : Line :=
  let bad := if spoiled then min 8 (x.bad + 1) else 0
  if bad = 8 then ({ x with bad := bad } : Line).gone .faulted else ({ x.space with bad := bad } : Line).stopTaken

section
variable (s : State) (l : Fin 8)

theorem State.lineGoes_writes (st : LineState) : s.Writes l (s.lines[l].gone st) (s.lineGoes l st) := by
  unfold State.lineGoes
  dsimp only
  split
  · exact (State.Writes.modLine s l _).andLines (State.leavePolling_lines _ l)
  · exact State.Writes.modLine s l _

theorem State.takeStop_writes : s.Writes l s.lines[l].stopTaken (s.takeStop l) := by
  unfold State.takeStop Line.stopTaken
  split
  · exact s.lineGoes_writes l .ready
  · exact .of_lines rfl

theorem State.endReport_writes (r : Report) :
    s.Writes l ({ s.lines[l].space with bad := 0 } : Line).stopTaken (s.endReport l r) := by
  have htake : s.Writes l { s.lines[l].space with bad := 0 } _ :=
    (State.Writes.modLine s l (fun x => { x.space with bad := 0 })).andLines
      (State.takeReport_lines _ l s.lines[l].polled r)
  have hstop := State.takeStop_writes ((s.modLine l (fun x => { x.space with bad := 0 })).takeReport l
    s.lines[l].polled r) l
  rw [htake.self] at hstop
  exact htake.trans hstop

theorem State.endMiss_writes (spoiled : Bool) : s.Writes l (s.lines[l].afterMiss spoiled) (s.endMiss l spoiled) := by
  unfold State.endMiss Line.afterMiss
  dsimp only
  generalize (if spoiled then min 8 (s.lines[l].bad + 1) else 0) = bad
  have htake : s.Writes l { s.lines[l].space with bad := bad } _ :=
    (State.Writes.modLine s l (fun x => { x.space with bad := bad })).andLines
      (State.takeMiss_lines _ l s.lines[l].polled)
  split
  · have hfault := State.lineGoes_writes ((s.modLine l (fun x => { x.space with bad := bad })).takeMiss l
      s.lines[l].polled) l .faulted
    rw [htake.self] at hfault
    exact htake.trans hfault
  · have hstop := State.takeStop_writes ((s.modLine l (fun x => { x.space with bad := bad })).takeMiss l
      s.lines[l].polled) l
    rw [htake.self] at hstop
    exact htake.trans hstop

theorem State.setLatch_writes : s.Writes l { s.lines[l] with latch := true } (s.setLatch l) := by
  unfold State.setLatch
  dsimp only
  split <;> exact State.Writes.modLine s l (fun x => { x with latch := true })

/-- A selection polls an address, or finds none and leaves the line idle (05 R94, R106). -/
theorem State.select_writes : ∃ z, s.Writes l z (s.select l) ∧
    (z = s.lines[l] ∨ z = { s.lines[l] with phase := .none, due := false, spaceLeft := 0 } ∨
      ∃ addr wrap frame, s.lines[l].state = .polling ∧ z = s.lines[l].openAt addr wrap true frame ∨
        s.lines[l].state = .loopback ∧ z = s.lines[l].openAt addr wrap false frame) := by
  unfold State.select
  split
  · next hst =>
    unfold State.selectPolling
    split
    · exact ⟨_, State.Writes.modLine _ l _, .inr (.inr ⟨_, _, _, .inl ⟨hst, rfl⟩⟩)⟩
    · split
      · exact ⟨_, State.Writes.modLine _ l _, .inr (.inr ⟨_, _, _, .inl ⟨hst, rfl⟩⟩)⟩
      · exact ⟨_, State.Writes.modLine _ l _, .inr (.inl rfl)⟩
  · next hst => exact ⟨_, State.Writes.modLine _ l _, .inr (.inr ⟨_, _, _, .inr ⟨hst, rfl⟩⟩)⟩
  · exact ⟨_, .of_lines rfl, .inl rfl⟩

end

end Sys2Proof.Machine
end

section
/-! PROOFS. The lines (O59): state, phase, transmit enable and stop pending of a line that an event has written agree. -/

namespace Sys2Proof.Machine

/-! ## The records an event leaves -/

namespace Line
variable {x : Line}

/-- Neither sending nor waiting for a reply: no exchange is under way (05 R88). -/
abbrev Resting (x : Line) : Prop := x.phase = .none ∨ x.phase = .spacing

theorem hears_iff : x.hears = true ↔ x.state = .polling ∧ x.phase ≠ .sending := by
  simp only [hears, Bool.and_eq_true, beq_iff_eq, bne_iff_ne]

theorem resting_of_not_inExchange (h : x.inExchange = false) (hsend : x.phase ≠ .sending) : x.Resting := by
  simp only [inExchange, Bool.or_eq_false_iff, beq_eq_false_iff_ne, ne_eq] at h
  cases hp : x.phase with
  | none => exact .inl hp
  | spacing => exact .inr hp
  | sending => exact absurd hp hsend
  | awaiting => exact absurd hp h.1
  | receiving => exact absurd hp h.2

theorem phase_of_inExchange (h : x.inExchange = true) : x.phase ≠ .none := by
  intro hp
  rw [inExchange, hp] at h
  cases h

/-- An exchange phase belongs to POLLING or LOOPBACK (05 R88). -/
theorem Right.walks (h : x.Right) (hp : x.phase ≠ .none) : x.state = .polling ∨ x.state = .loopback := by
  by_contra hno
  obtain ⟨h1, h2⟩ := not_or.mp hno
  exact hp (h.1 h1 h2)

/-- With no exchange under way nothing is sent and no stop pends (05 R88, R91). -/
theorem Right.at_rest (h : x.Right) (hrest : x.Resting) : x.te = false ∧ x.stop = false := by
  obtain ⟨_, hte, hstop, _⟩ := h
  rcases hrest with hp | hp <;> simp_all

theorem right_gone (hbad : x.bad ≤ 8) (st : LineState) : (x.gone st).Right :=
  ⟨fun _ _ => rfl, ⟨nofun, nofun⟩, nofun, hbad⟩

theorem Right.space (h : x.Right) (hp : x.phase ≠ .none) (hstop : x.stop = false) {bad : Nat} (hbad : bad ≤ 8) :
    ({ x.space with bad := bad } : Line).Right :=
  ⟨fun h1 h2 => absurd (h.walks hp) (not_or.mpr ⟨h1, h2⟩), ⟨nofun, nofun⟩,
    fun k => absurd (hstop.symm.trans k) (by decide), hbad⟩

theorem Right.ended (h : x.Right) (hp : x.phase ≠ .none) {bad : Nat} (hbad : bad ≤ 8) :
    ({ x.space with bad := bad } : Line).stopTaken.Right := by
  unfold stopTaken
  split
  · exact right_gone hbad .ready
  · next hstop => exact h.space hp (Bool.eq_false_iff.mpr hstop) hbad

theorem Right.afterMiss (h : x.Right) (hp : x.phase ≠ .none) (spoiled : Bool) : (x.afterMiss spoiled).Right := by
  have hbad : (if spoiled then min 8 (x.bad + 1) else 0) ≤ 8 := by split <;> omega
  unfold Line.afterMiss
  dsimp only
  generalize (if spoiled then min 8 (x.bad + 1) else 0) = bad at hbad
  split
  · exact right_gone hbad .faulted
  · exact h.ended hp hbad

theorem Right.openAt_polling (h : x.Right) (hst : x.state = .polling) (addr : Nat) (wrap : Bool) (frame : List Byte) :
    (x.openAt addr wrap true frame).Right :=
  ⟨fun k => absurd hst k, ⟨fun _ => ⟨hst, rfl⟩, fun _ => rfl⟩, fun _ => .inl rfl, h.2.2.2⟩

theorem Right.openAt_loopback (h : x.Right) (hst : x.state = .loopback) (addr : Nat) (wrap : Bool) (frame : List Byte) :
    (x.openAt addr wrap false frame).Right :=
  ⟨fun _ k => absurd hst k, ⟨nofun, fun k => absurd (hst.symm.trans k.1) (by decide)⟩, fun _ => .inl rfl, h.2.2.2⟩

theorem Right.idle (h : x.Right) (hrest : x.Resting) :
    ({ x with phase := .none, due := false, spaceLeft := 0 } : Line).Right := by
  obtain ⟨hte, hstop⟩ := h.at_rest hrest
  exact ⟨fun _ _ => rfl, ⟨fun k => absurd (hte.symm.trans k) (by decide), nofun⟩,
    fun k => absurd (hstop.symm.trans k) (by decide), h.2.2.2⟩

end Line

/-! ## The claim -/

/-- Every line agrees with itself. -/
def State.LinesRight (s : State) : Prop := ∀ l : Fin 8, s.lines[l].Right

/-- Of the lines only `l` has changed, and it agrees with itself. -/
def State.KeepsLine (s : State) (l : Fin 8) (t : State) : Prop := ∃ z : Line, s.Writes l z t ∧ z.Right

theorem State.LinesRight.of_keepsLine {s t : State} {l : Fin 8} (hs : s.LinesRight) (h : s.KeepsLine l t) :
    t.LinesRight := by
  obtain ⟨z, hw, hz⟩ := h
  intro m
  rw [hw, getElem_set_fin]
  split
  · exact hz
  · exact hs m

namespace State.KeepsLine
variable {s t u : State} {l : Fin 8}

theorem self (h : s.KeepsLine l t) : t.lines[l].Right := by
  obtain ⟨z, hw, hz⟩ := h
  rw [hw.self]
  exact hz

theorem of_lines (hs : s.lines[l].Right) (h : t.lines = s.lines) : s.KeepsLine l t := ⟨_, .of_lines h, hs⟩

theorem andLines (h : s.KeepsLine l t) (k : u.lines = t.lines) : s.KeepsLine l u := by
  obtain ⟨z, hw, hz⟩ := h
  exact ⟨z, hw.andLines k, hz⟩

theorem trans {z : Line} (h : s.Writes l z t) (k : t.KeepsLine l u) : s.KeepsLine l u := by
  obtain ⟨y, hw, hy⟩ := k
  exact ⟨y, h.trans hw, hy⟩

end State.KeepsLine

/-! ## The events of a line -/

namespace State
variable {s t : State} {l : Fin 8}

theorem lineGoes_keeps (hs : s.lines[l].Right) (st : LineState) : s.KeepsLine l (s.lineGoes l st) :=
  ⟨_, s.lineGoes_writes l st, Line.right_gone hs.2.2.2 st⟩

theorem lineFaults_keeps (hs : s.lines[l].Right) : s.KeepsLine l (s.lineFaults l) := lineGoes_keeps hs .faulted

/-- A selection, with no exchange under way (05 R94, R106). -/
theorem select_keeps (hs : s.lines[l].Right) (hrest : s.lines[l].Resting) : s.KeepsLine l (s.select l) := by
  obtain ⟨z, hw, rfl | rfl | ⟨addr, wrap, frame, ⟨hst, rfl⟩ | ⟨hst, rfl⟩⟩⟩ := s.select_writes l
  · exact ⟨_, hw, hs⟩
  · exact ⟨_, hw, hs.idle hrest⟩
  · exact ⟨_, hw, hs.openAt_polling hst addr wrap frame⟩
  · exact ⟨_, hw, hs.openAt_loopback hst addr wrap frame⟩

theorem selectOrWait_keeps (hs : s.lines[l].Right) (hrest : s.lines[l].Resting) : s.KeepsLine l (s.selectOrWait l) := by
  unfold selectOrWait
  split
  · exact ⟨_, .modLine s l _, hs⟩
  · exact select_keeps hs hrest

theorem selectIfDue_keeps (hs : s.lines[l].Right) (hrest : s.lines[l].Resting) : s.KeepsLine l (s.selectIfDue l) := by
  unfold selectIfDue
  split
  · exact select_keeps hs hrest
  · exact .of_lines hs rfl

theorem endReport_keeps (hs : s.lines[l].Right) (hp : s.lines[l].phase ≠ .none) (r : Report) :
    s.KeepsLine l (s.endReport l r) :=
  ⟨_, s.endReport_writes l r, hs.ended hp (Nat.zero_le 8)⟩

theorem endMiss_keeps (hs : s.lines[l].Right) (hp : s.lines[l].phase ≠ .none) (spoiled : Bool) :
    s.KeepsLine l (s.endMiss l spoiled) :=
  ⟨_, s.endMiss_writes l spoiled, hs.afterMiss hp spoiled⟩

/-- A frame that is spoiled ends an exchange with a miss, and lets a selection that waited be made otherwise. -/
theorem spoiled_keeps (hs : s.lines[l].Right) (hsend : s.lines[l].phase ≠ .sending) {b : Bool}
    (hb : s.lines[l].inExchange = b) : s.KeepsLine l (if b then s.endMiss l true else s.selectIfDue l) := by
  cases b with
  | true => exact endMiss_keeps hs (Line.phase_of_inExchange hb) true
  | false => exact selectIfDue_keeps hs (Line.resting_of_not_inExchange hb hsend)

theorem frameBreaks_keeps (hs : s.lines[l].Right) (hsend : s.lines[l].phase ≠ .sending) :
    s.KeepsLine l (s.frameBreaks l) := by
  have hw := Writes.modLine s l
    (fun x => { x with assembling := false, brokenCount := satSucc 65535 x.brokenCount })
  refine .trans hw (spoiled_keeps ?_ ?_ ?_)
  · rw [hw.self]; exact hs
  · rw [hw.self]; exact hsend
  · rw [hw.self]; rfl

theorem crcFailure_keeps (hs : s.lines[l].Right) (hsend : s.lines[l].phase ≠ .sending) :
    s.KeepsLine l (s.crcFailure l) := by
  have hcount := Writes.modLine s l (fun x => { x with crcCount := satSucc 65535 x.crcCount })
  have hw := hcount.trans (setLatch_writes _ l)
  rw [hcount.self] at hw
  refine .trans hw (spoiled_keeps ?_ ?_ ?_)
  · rw [hw.self]; exact hs
  · rw [hw.self]; exact hsend
  · rw [hw.self]; rfl

/-- A stray frame within an exchange: the reply is awaited again, or the exchange ends (05 R101). -/
theorem strayInExchange_keeps (hs : s.lines[l].Right) (hex : s.lines[l].inExchange = true) :
    s.KeepsLine l (s.strayInExchange l) := by
  have hp := Line.phase_of_inExchange hex
  have hw := Writes.modLine s l (fun x => { x with strayCount := satSucc 65535 x.strayCount })
  unfold strayInExchange
  dsimp only
  split
  · refine ⟨_, hw.andModLine (fun x => { x with phase := .awaiting }), ?_⟩
    have hwalks := hs.walks hp
    obtain ⟨_, hte, _, hbad⟩ := hs
    refine ⟨fun h1 h2 => absurd hwalks (not_or.mpr ⟨h1, h2⟩), ⟨fun k => ?_, nofun⟩,
      fun _ => .inr (.inl rfl), hbad⟩
    rw [Line.inExchange, (hte.1 k).2] at hex
    cases hex
  · refine .trans hw (endMiss_keeps ?_ ?_ false)
    · rw [hw.self]; exact hs
    · rw [hw.self]; exact hp

theorem frameOutside_keeps (hs : s.lines[l].Right) (hrest : s.lines[l].Resting) (bytes : List Byte) :
    s.KeepsLine l (s.frameOutside l bytes) := by
  have hw := Writes.modLine s l (fun x =>
    if arg bytes 2 = 0x32 ∧ arg bytes 3 = l.val then { x with lateCount := satSucc 65535 x.lateCount }
    else { x with strayCount := satSucc 65535 x.strayCount })
  refine .trans hw (selectIfDue_keeps ?_ ?_)
  · rw [hw.self]
    split <;> exact hs
  · rw [hw.self]
    split <;> exact hrest

theorem frameIn_keeps (hs : s.lines[l].Right) (bytes : List Byte) : s.KeepsLine l (s.frameIn l bytes) := by
  have hw := Writes.modLine s l (fun x => { x with assembling := false })
  have hs' : (s.modLine l (fun x => { x with assembling := false })).lines[l].Right := by
    rw [hw.self]
    exact hs
  unfold frameIn
  dsimp only
  split
  · next hhears =>
    obtain ⟨_, hsend⟩ := Line.hears_iff.1 (Bool.and_eq_true_iff.1 hhears).1
    split
    · refine .trans hw (crcFailure_keeps hs' ?_)
      rw [hw.self]; exact hsend
    · split
      · next hex =>
        split
        · refine .trans hw (endReport_keeps hs' ?_ _)
          rw [hw.self]; exact Line.phase_of_inExchange hex
        · refine .trans hw (strayInExchange_keeps hs' ?_)
          rw [hw.self]; exact hex
      · next hex =>
        refine .trans hw (frameOutside_keeps hs' ?_ bytes)
        rw [hw.self]
        exact Line.resting_of_not_inExchange (Bool.eq_false_iff.mpr hex) hsend
  · exact .of_lines hs rfl

end State

end Sys2Proof.Machine
end

section
/-! PROOFS. The lines (O59): the timed events of a line and the commands of a line. -/

namespace Sys2Proof.Machine
namespace State
variable {s t : State} {l : Fin 8}

/-! ## Timers -/

theorem responseExpires_keeps (hs : s.lines[l].Right) : s.KeepsLine l (s.responseExpires l) := by
  have hw := Writes.modLine s l (fun x => { x with respLeft := 0 })
  unfold responseExpires
  split
  · next hp =>
    refine .trans hw (endMiss_keeps ?_ ?_ false)
    · rw [hw.self]; exact hs
    · rw [hw.self]
      show s.lines[l].phase ≠ .none
      rw [hp]; decide
  · exact ⟨_, hw, hs⟩
  · exact .of_lines hs rfl

theorem spacingEnds_keeps (hs : s.lines[l].Right) : s.KeepsLine l (s.spacingEnds l) := by
  have hw := Writes.modLine s l (fun x => { x with spaceLeft := 0 })
  unfold spacingEnds
  split
  · next hp =>
    refine .trans hw (selectOrWait_keeps ?_ ?_)
    · rw [hw.self]; exact hs
    · rw [hw.self]; exact .inr hp
  · exact .of_lines hs rfl

theorem idleSelects_keeps (hs : s.lines[l].Right) : s.KeepsLine l (s.idleSelects l) := by
  unfold idleSelects
  split
  · next h => exact selectOrWait_keeps hs (.inl h.2.1)
  · exact .of_lines hs rfl

@[simp] theorem finish_lines (s : State) : s.finish.lines = s.lines := (State.finish_drops_lines s).2

theorem tickLine_keeps (hs : s.lines[l].Right) : s.KeepsLine l (s.tickLine l) := by
  unfold tickLine
  dsimp only
  split
  · split
    · exact (responseExpires_keeps hs).andLines (finish_lines _)
    · exact ⟨_, .modLine s l _, hs⟩
  · split
    · split
      · exact (spacingEnds_keeps hs).andLines (finish_lines _)
      · exact ⟨_, .modLine s l _, hs⟩
    · exact (idleSelects_keeps hs).andLines (finish_lines _)

/-! ## The end of a poll -/

/-- The poll spacing starts, and a stop pending is taken (05 R91, R98). -/
theorem space_takeStop_keeps (hs : s.lines[l].Right) (hp : s.lines[l].phase ≠ .none) :
    s.KeepsLine l ((s.modLine l Line.space).takeStop l) := by
  have hw := Writes.modLine s l Line.space
  have hstop := (s.modLine l Line.space).takeStop_writes l
  rw [hw.self] at hstop
  exact ⟨_, hw.trans hstop, hs.ended hp hs.2.2.2⟩

theorem pollOut_keeps (hs : s.lines[l].Right) (hsend : s.lines[l].phase = .sending) : s.KeepsLine l (s.pollOut l) := by
  have hp : s.lines[l].phase ≠ .none := by rw [hsend]; decide
  unfold pollOut
  split
  · exact space_takeStop_keeps hs hp
  · refine ⟨_, .modLine s l _, fun h1 h2 => absurd (hs.walks hp) (not_or.mpr ⟨h1, h2⟩), ⟨nofun, nofun⟩,
      fun _ => .inr (.inl rfl), hs.2.2.2⟩

theorem checkEcho_keeps (hs : s.lines[l].Right) (hsend : s.lines[l].phase = .sending) (echo : Option (List Byte)) :
    s.KeepsLine l (s.checkEcho l echo) := by
  have hp : s.lines[l].phase ≠ .none := by rw [hsend]; decide
  unfold checkEcho
  dsimp only
  split
  · have hw := Writes.modLine s l (fun x => { x with loopGood := satSucc 65535 x.loopGood })
    refine .trans hw (space_takeStop_keeps ?_ ?_)
    · rw [hw.self]; exact hs
    · rw [hw.self]; exact hp
  · have hcount := Writes.modLine s l (fun x => { x with loopBad := satSucc 65535 x.loopBad })
    have hlatch := hcount.trans (setLatch_writes _ l)
    rw [hcount.self] at hlatch
    have hw := hlatch.andLines (State.raiseUnit_lines _ .loopError l)
    refine .trans hw (space_takeStop_keeps ?_ ?_)
    · rw [hw.self]; exact hs
    · rw [hw.self]; exact hp

/-! ## Commands -/

theorem cutExchange_keeps (hs : s.lines[l].Right) (addr : Nat) : s.KeepsLine l (s.cutExchange l addr) := by
  unfold cutExchange
  dsimp only
  split
  · split
    · exact ⟨_, .modLine s l _, hs⟩
    · split
      · next hex => exact space_takeStop_keeps hs (Line.phase_of_inExchange hex)
      · exact .of_lines hs rfl
  · exact .of_lines hs rfl

/-- A line whose walk starts is at rest until its first poll (05 R90). -/
theorem startLine_keeps (s : State) (l : Fin 8) : s.KeepsLine l (s.startLine l) := by
  have hright (st : LineState) : (s.lines[l].started st).Right :=
    Line.right_gone (x := { s.lines[l] with bad := 0, walk := 0 }) (Nat.zero_le 8) st
  rw [State.startLine_eq rfl]
  split
  · have hw : s.Writes l (s.lines[l].started .polling) ((s.started l s.lines[l] .polling).enterPolling l) :=
      State.enterPolling_lines _ l
    refine .trans hw (select_keeps ?_ ?_)
    · rw [hw.self]; exact hright .polling
    · rw [hw.self]; exact .inl rfl
  · have hw : s.Writes l (s.lines[l].started .loopback) (s.started l s.lines[l] .loopback) := rfl
    refine .trans hw (select_keeps ?_ ?_)
    · rw [hw.self]; exact hright .loopback
    · rw [hw.self]; exact .inl rfl

/-- STOP LINE leaves a stop pending while an exchange is under way only (05 R91). -/
theorem stopLine_keeps (hs : s.lines[l].Right) : s.KeepsLine l (s.stopLine l) := by
  unfold stopLine
  dsimp only
  split
  · next h =>
    refine ⟨_, .modLine s l _, hs.1, hs.2.1, fun _ => ?_, hs.2.2.2⟩
    simpa only [Line.inExchange, Bool.or_eq_true, beq_iff_eq] using h.2
  · exact lineGoes_keeps hs .ready

theorem resetLine_keeps (s : State) (l : Fin 8) : s.KeepsLine l (s.resetLine l) := by
  have hw := Writes.modLine s l (fun _ => Line.reset)
  have hright : Line.reset.Right := by decide
  unfold resetLine
  dsimp only
  split
  · exact ⟨_, hw.andLines (leavePolling_lines _ l), hright⟩
  · exact ⟨_, hw, hright⟩

end State

/-! ## The claim, event by event -/

namespace State.LinesRight
variable {s t : State}

theorem of_lines (hs : s.LinesRight) (h : t.lines = s.lines) : t.LinesRight := by
  rw [LinesRight, h]
  exact hs

/-- What leaves everything beside a gate alone leaves the lines alone. -/
theorem of_beside (hs : s.LinesRight) {n : Option (Fin 8)} (h : t.beside none n = s.beside none n) : t.LinesRight := by
  intro m
  rw [State.beside_line h nofun]
  exact hs m

theorem finish (hs : s.LinesRight) : s.finish.LinesRight := hs.of_lines (State.finish_lines s)

/-- An event that may find its condition not met. -/
theorem ite {c : Prop} [Decidable c] (hs : s.LinesRight) (ht : c → t.LinesRight) :
    (if c then t else s).LinesRight := by
  split
  · next h => exact ht h
  · exact hs

/-- The tick of the Timebase is, for each line, the tick of that line. -/
theorem tick (hs : s.LinesRight) : s.tick.LinesRight := by
  intro l
  obtain ⟨u, hu, hline⟩ := s.tick_line l
  rw [hline]
  exact (State.tickLine_keeps (hu ▸ hs l)).self

end State.LinesRight

end Sys2Proof.Machine
end

section
/-! PROOFS. The lines (O59): the commands that are none of a line, the port and the other units leave the lines alone. -/

namespace Sys2Proof.Machine

/-! ## Connections -/

@[simp] theorem State.clearStanding_lines (s : State) (id : Fin 96) : (s.clearStanding id).lines = s.lines := by
  rw [State.clearStanding_eq]

@[simp] theorem State.retire_lines (s : State) (id : Fin 96) : (s.retire id).lines = s.lines := by
  rw [State.retire_eq]
  split
  · rfl
  · exact State.closeAll_lines ..

@[simp] theorem State.suspendConn_lines (s : State) (id : Fin 96) : (s.suspendConn id).lines = s.lines := by
  unfold State.suspendConn
  split
  · exact State.gainCause_lines ..
  · split
    · rfl
    · dsimp only
      split <;> rfl
  · rfl

/-! ## Plant, branches and drives -/

theorem State.offerTrigger_lines (s : State) (old new : Nat) : (s.offerTrigger old new).lines = s.lines := by
  unfold State.offerTrigger
  split
  · rfl
  · split <;> rfl

@[simp] theorem State.setOffer_lines (s : State) (v : Nat) : (s.setOffer v).lines = s.lines :=
  State.offerTrigger_lines _ _ _

@[simp] theorem State.setEmergency_lines (s : State) (v : Nat) : (s.setEmergency v).lines = s.lines :=
  State.offerTrigger_lines _ _ _

@[simp] theorem State.assertTrip_lines (s : State) : s.assertTrip.lines = s.lines := by
  unfold State.assertTrip State.tripAssertion
  dsimp only
  split <;> rfl

@[simp] theorem State.intervalTick_lines (s : State) : s.intervalTick.lines = s.lines := by
  unfold State.intervalTick
  dsimp only
  split
  · exact State.startOrRerun_lines _
  · rfl

@[simp] theorem State.setMeter_lines (s : State) (n : Fin 8) (k prescale : Nat) (mode : GateMode) :
    (s.setMeter n k prescale mode).lines = s.lines := by
  unfold State.setMeter
  dsimp only
  split
  · split <;> rfl
  · rfl

@[simp] theorem State.setLimit_lines (s : State) (n : Fin 8) (limit : Nat) : (s.setLimit n limit).lines = s.lines := by
  unfold State.setLimit
  dsimp only
  split <;> rfl

@[simp] theorem State.meterEdge_lines (s : State) (n : Fin 8) : (s.meterEdge n).lines = s.lines := by
  have hedge : (s.edge n).lines = s.lines := by
    unfold State.edge State.countEdge State.countCascade State.countPlain State.overrange
    dsimp only
    repeat' split
    all_goals rfl
  unfold State.meterEdge
  split
  · rfl
  · split
    · exact hedge
    · exact hedge
    · rfl

@[simp] theorem State.stepExpires_lines (s : State) (n : Fin 8) : (s.stepExpires n).lines = s.lines := by
  unfold State.stepExpires
  split
  · split <;> rfl
  · rfl

@[simp] theorem State.encoderSample_lines (s : State) (n : Fin 8) (a b : Bool) :
    (s.encoderSample n a b).lines = s.lines := by
  unfold State.encoderSample
  dsimp only
  split
  · rfl
  · split
    · split <;> rfl
    · split <;> rfl

@[simp] theorem State.homingExpires_lines (s : State) (n : Fin 8) (home : Bool) :
    (s.homingExpires n home).lines = s.lines := by
  unfold State.homingExpires
  split
  · dsimp only
    split
    · rfl
    · split <;> rfl
  · rfl

@[simp] theorem State.homeValve_lines (s : State) (n : Fin 8) (home : Bool) : (s.homeValve n home).lines = s.lines := by
  unfold State.homeValve
  dsimp only
  split <;> rfl

/-! ## The port -/

@[simp] theorem State.placeMsb_lines (s : State) : s.placeMsb.lines = s.lines := by
  have hcapture : s.capture.lines = s.lines := by
    unfold State.capture
    split <;> rfl
  unfold State.placeMsb
  split
  · rfl
  · split
    · exact hcapture
    · rfl

@[simp] theorem State.byteDone_lines (s : State) : s.byteDone.lines = s.lines := State.placeMsb_lines s

@[simp] theorem State.endOpen_lines (s : State) : s.endOpen.lines = s.lines := by
  unfold State.endOpen
  split <;> rfl

@[simp] theorem State.selectPort_lines (s : State) : s.selectPort.lines = s.lines := by
  unfold State.selectPort
  split
  · rfl
  · exact State.placeMsb_lines (s.modPort _)

@[simp] theorem State.fallingEdge_lines (s : State) (rose : Option Bool) : (s.fallingEdge rose).lines = s.lines := by
  unfold State.fallingEdge
  split
  · split
    · exact State.placeMsb_lines s
    · split
      · exact State.placeMsb_lines s
      · rfl
  · rfl

/-! ## Field commands -/

theorem editField_lines {s t : State} {pos : Nat} {f : List Byte} {e : FieldEnd} (hf : editField pos f s = some (t, e)) :
    t.lines = s.lines := by
  have key (r : State × FieldEnd) (hr : r.1.lines = s.lines) (h : some r = some (t, e)) : t.lines = s.lines := by
    cases h
    exact hr
  unfold editField at hf
  split at hf
  · refine key _ ?_ hf
    unfold editId
    split
    · split <;> rfl
    · rfl
  · refine key _ ?_ hf
    unfold editClass
    split <;> rfl
  · exact key _ rfl hf
  · exact key _ rfl hf
  · refine key _ ?_ hf
    unfold editMax State.scaleShares
    dsimp only
    split <;> rfl
  · exact key _ rfl hf
  · refine key _ ?_ hf
    unfold editHold
    dsimp only
    split <;> rfl
  · cases hf

theorem fieldOf_lines {s t : State} {c : Cmd} {pos : Nat} {f : List Byte} {e : FieldEnd}
    (hf : fieldOf c pos f s = some (t, e)) : t.lines = s.lines := by
  unfold fieldOf at hf
  split at hf
  · exact editField_lines hf
  · unfold passField at hf
    split at hf <;> cases hf <;> rfl
  · unfold offerField at hf
    split at hf <;> cases hf
    · exact State.setOffer_lines ..
    · rfl
  · unfold regField regBranch at hf
    split at hf
    · split at hf <;> cases hf <;> rfl
    · cases hf
      rfl
    · cases hf
      rfl
    · cases hf
  · cases hf

end Sys2Proof.Machine
end

section
/-! PROOFS. The lines (O59): the commands of the host byte by byte, the events, and the step. -/

namespace Sys2Proof.Machine

/-- LINE INIT finds its line at rest (05 R89). -/
theorem Line.Right.init {x : Line} (h : x.Right) (hst : x.state = .down ∨ x.state = .ready)
    (rate spacing timeout : Nat) (mode : LineMode) : (x.init rate spacing timeout mode).Right := by
  have hnone : x.phase = .none := by
    by_contra hp
    rcases h.walks hp with k | k <;> rcases hst with j | j <;> exact absurd (j.symm.trans k) (by decide)
  obtain ⟨hte, hstop⟩ := h.at_rest (.inl hnone)
  exact ⟨fun _ _ => hnone, ⟨fun k => absurd (hte.symm.trans k) (by decide), nofun⟩,
    fun k => absurd (hstop.symm.trans k) (by decide), h.2.2.2⟩

namespace State.LinesRight

variable {s t : State}

/-! ## Whole commands -/

theorem withId (hs : s.LinesRight) {n : Nat} {k : Fin 96 → State × Result} (hk : ∀ id, (k id).1.LinesRight) :
    (withId s n k).1.LinesRight := by
  unfold Machine.withId
  split
  · exact hk _
  · exact hs

theorem withUnit (hs : s.LinesRight) {n : Nat} {k : Fin 8 → State × Result} (hk : ∀ u, (k u).1.LinesRight) :
    (withUnit s n k).1.LinesRight := by
  unfold Machine.withUnit
  split
  · exact hk _
  · exact hs

theorem withGroup (hs : s.LinesRight) {n : Nat} {k : Fin 6 → State × Result} (hk : ∀ g, (k g).1.LinesRight) :
    (withGroup s n k).1.LinesRight := by
  unfold Machine.withGroup
  split
  · exact hk _
  · exact hs

theorem doCreateConnection (hs : s.LinesRight) {a : List Byte} : (doCreateConnection a s).1.LinesRight := by
  refine hs.withId fun id => ?_
  split
  · exact hs
  · refine hs.withUnit fun l => hs.of_lines ?_
    rw [State.create_eq]

theorem doSuspend (hs : s.LinesRight) {a : List Byte} : (doSuspend a s).1.LinesRight := by
  refine hs.withId fun id => ?_
  split
  · exact hs.of_lines (State.suspendConn_lines s id)
  · exact hs

theorem doResume (hs : s.LinesRight) {a : List Byte} : (doResume a s).1.LinesRight := by
  refine hs.withId fun id => ?_
  split
  · exact hs.ite fun _ => hs.of_lines (State.loseCause_lines s id .supervisor)
  · exact hs

theorem doRetireConnection (hs : s.LinesRight) {a : List Byte} : (doRetireConnection a s).1.LinesRight := by
  refine hs.withId fun id => ?_
  split
  · exact hs
  · exact hs.of_lines (State.retire_lines s id)

theorem doAddDrop (hs : s.LinesRight) {a : List Byte} : (doAddDrop a s).1.LinesRight := by
  refine hs.withId fun id => ?_
  split
  · exact hs
  · split
    · exact hs
    · split
      · exact hs
      · split
        · exact hs
        · exact hs.of_lines (State.recompute_lines (s.takeSlot _) id _)

/-- A drop removed may cut the exchange with it (01 R26, 05 R96). -/
theorem doRemoveDrop (hs : s.LinesRight) {a : List Byte} : (doRemoveDrop a s).1.LinesRight := by
  refine hs.withId fun id => ?_
  split
  · exact hs
  · split
    · exact hs
    · next d _ =>
      split
      · exact hs
      · have hfree : (s.freeSlot d.line d.addr).LinesRight := hs
        have hcut := hfree.of_keepsLine (State.cutExchange_keeps (hfree d.line) d.addr)
        exact hcut.of_lines (State.removeDropFrom_keeps rfl).1

theorem doClearShortfall (hs : s.LinesRight) {a : List Byte} : (doClearShortfall a s).1.LinesRight := by
  refine hs.withId fun id => ?_
  split
  · exact hs
  · exact hs.of_lines (State.clearStanding_lines s id)

theorem doClearTrip (hs : s.LinesRight) : (doClearTrip s).1.LinesRight := by
  unfold Machine.doClearTrip
  split <;> exact hs

theorem doLineInit (hs : s.LinesRight) {a : List Byte} : (doLineInit a s).1.LinesRight := by
  refine hs.withUnit fun l => ?_
  split
  · exact hs
  · split
    · next hst => exact hs.of_keepsLine (l := l) ⟨_, rfl, (hs l).init hst ..⟩
    · exact hs

theorem doStartLine (hs : s.LinesRight) {a : List Byte} : (doStartLine a s).1.LinesRight := by
  refine hs.withUnit fun l => ?_
  split
  · exact hs.of_keepsLine (State.startLine_keeps s l)
  · exact hs

theorem doStopLine (hs : s.LinesRight) {a : List Byte} : (doStopLine a s).1.LinesRight := by
  refine hs.withUnit fun l => ?_
  split
  · exact hs
  · exact hs.of_keepsLine (State.stopLine_keeps (hs l))

theorem doClearLineErrors (hs : s.LinesRight) {a : List Byte} : (doClearLineErrors a s).1.LinesRight := by
  refine hs.withUnit fun l => hs.of_keepsLine ⟨_, .modLine s l _, ?_⟩
  obtain ⟨hphase, hte, hstop, _⟩ := hs l
  exact ⟨hphase, hte, hstop, Nat.zero_le 8⟩

theorem doSetMeter (hs : s.LinesRight) {a : List Byte} : (doSetMeter a s).1.LinesRight := by
  refine hs.withUnit fun n => ?_
  split
  · exact hs
  · split
    · exact hs
    · split
      · exact hs
      · exact hs.of_lines (State.setMeter_lines ..)

theorem doSetCascade (hs : s.LinesRight) {a : List Byte} : (doSetCascade a s).1.LinesRight := by
  refine hs.withUnit fun n => ?_
  split
  · exact hs
  · split
    · exact hs
    · split
      · split <;> exact hs
      · split <;> exact hs

theorem doSetValveDrive (hs : s.LinesRight) {a : List Byte} : (doSetValveDrive a s).1.LinesRight := by
  refine hs.withUnit fun n => ?_
  split <;> exact hs

theorem wholeAct (hs : s.LinesRight) {c : Cmd} {a : List Byte} {home : Bool} : (wholeAct c a home s).1.LinesRight := by
  cases c
  case createConnection => exact hs.doCreateConnection
  case suspend => exact hs.doSuspend
  case resume => exact hs.doResume
  case retireConnection => exact hs.doRetireConnection
  case addDrop => exact hs.doAddDrop
  case removeDrop => exact hs.doRemoveDrop
  case setStreamPointer => exact hs.withId fun _ => hs
  case clearShortfall => exact hs.doClearShortfall
  case setEmergencyOffer => exact hs.of_lines (State.setEmergency_lines ..)
  case clearTrip => exact hs.doClearTrip
  case lineInit => exact hs.doLineInit
  case startLine => exact hs.doStartLine
  case stopLine => exact hs.doStopLine
  case lineReset => exact hs.withUnit fun l => hs.of_keepsLine (State.resetLine_keeps s l)
  case clearLineErrors => exact hs.doClearLineErrors
  case setMeter => exact hs.doSetMeter
  case setBranchLimit => exact hs.withUnit fun _ => hs.of_lines (State.setLimit_lines ..)
  case setCascade => exact hs.doSetCascade
  case setValveDrive => exact hs.doSetValveDrive
  case homeValve => exact hs.withUnit fun _ => hs.of_lines (State.homeValve_lines ..)
  case ackAttention => exact hs.withGroup fun _ => hs
  case setGroupLevel => exact hs.withGroup fun _ => hs
  all_goals exact hs

/-! ## The port byte by byte -/

theorem finishWhole (hs : s.LinesRight) {c : Cmd} {a : List Byte} {home : Bool} :
    (s.finishWhole c a home).LinesRight :=
  hs.wholeAct

theorem collect (hs : s.LinesRight) {b : Byte} {home : Bool} : (s.collect b home).LinesRight := by
  unfold State.collect
  split
  · exact hs
  · split
    · unfold State.collectWhole
      split
      · exact hs
      · split
        · exact hs.finishWhole
        · exact hs
    · unfold State.collectRead
      split <;> exact hs
    · unfold State.collectField
      split
      · exact hs
      · next hf =>
        have ht := hs.of_lines (fieldOf_lines hf)
        unfold State.nextField
        split <;> exact ht
      · next hf =>
        have ht := hs.of_lines (fieldOf_lines hf)
        exact ht

theorem paramByte (hs : s.LinesRight) {b : Byte} {home : Bool} : (s.paramByte b home).LinesRight := by
  have ht := hs.of_lines (State.byteDone_lines s)
  refine hs.ite fun _ => finish ?_
  split
  · exact ht
  · exact ht.collect
  · exact ht

theorem commandByte (hs : s.LinesRight) {code : Byte} : (s.commandByte code).LinesRight := by
  have ht := hs.of_lines ((State.endOpen_lines _).trans (State.byteDone_lines s))
  refine hs.ite fun _ => finish ?_
  split
  · unfold State.openCmd
    split
    · split
      · exact ht
      · exact ht.finishWhole
    · exact ht
  · exact ht

theorem send (hs : s.LinesRight) {c : Cmd} {params : List Byte} {home : Bool} : (s.send c params home).LinesRight :=
  foldl_invariant (f := fun t b => t.paramByte b home) (fun _ _ ht => ht.paramByte) params hs.commandByte

/-! ## Events and steps -/

theorem replyStart (hs : s.LinesRight) {l : Fin 8} (h : s.lines[l].hears = true) :
    (s.modLine l (fun x =>
      { x with assembling := true, phase := if x.phase = .awaiting then .receiving else x.phase })).LinesRight := by
  refine hs.of_keepsLine ⟨_, .modLine s l _, ?_⟩
  split
  · next hp =>
    obtain ⟨hst, _⟩ := Line.hears_iff.1 h
    obtain ⟨_, hte, _, hbad⟩ := hs l
    exact ⟨fun k => absurd hst k, ⟨fun k => absurd (hp.symm.trans (hte.1 k).2) (by decide), nofun⟩, fun _ => .inr (.inr rfl), hbad⟩
  · exact hs l

/-- Every line is DOWN after reset (05 R110). -/
theorem afterReset (trip selLow : Bool) : (State.afterReset trip selLow).LinesRight := by
  intro l
  have hreset : (State.afterReset trip selLow).lines[l] = Line.reset := Vector.getElem_replicate _
  rw [hreset]
  decide

theorem exec (hs : s.LinesRight) {i : Instr} (he : exec i s = .next t) : t.LinesRight := by
  have key : ∀ {u : State}, u.LinesRight → (Host.Outcome.next u : Answer) = .next t → t.LinesRight := by
    rintro u hu he
    cases he
    exact hu
  cases i
  case badCommand code => exact key hs.commandByte he
  case parameterByte b home => exact key hs.paramByte he
  case dataBytePeriod => exact key (hs.ite fun _ => hs.paramByte) he
  case selAssert => exact key (hs.of_lines (State.selectPort_lines s)).finish he
  case selRelease => exact key (finish (s := s.releasePort) hs) he
  case partReset trip =>
    refine key (u := { State.afterReset trip s.port.selLow with free := s.free, pending := s.pending }) ?_ he
    exact afterReset trip s.port.selLow
  case tripInputSample asserted => exact key (hs.of_beside (s.sampleTrip_beside none none asserted)).finish he
  case qualifiedAssertion => exact key (ite (hs.of_lines (State.assertTrip_lines s)).finish fun _ => hs) he
  case qualifiedDeassertion => exact key (hs.ite fun _ => finish (s := s.deassertTrip) hs) he
  case intervalTick => exact key (hs.of_lines (State.intervalTick_lines s)).finish he
  case publication => exact key (hs.of_beside (s.publish_beside none none)).finish he
  case idleLineSelection l => exact key (hs.of_keepsLine (State.idleSelects_keeps (hs l))).finish he
  case pollSpacingExpiry l => exact key (hs.of_keepsLine (State.spacingEnds_keeps (hs l))).finish he
  case pollSent l echo =>
    refine key (hs.ite fun hsend => finish ?_) he
    split
    · exact hs.of_keepsLine (State.checkEcho_keeps (hs l) hsend echo)
    · exact hs.of_keepsLine (State.pollOut_keeps (hs l) hsend)
  case replyStart l => exact key (hs.ite fun h => (hs.replyStart (Bool.and_eq_true_iff.1 h).1).finish) he
  case responseTimeout l => exact key (hs.of_keepsLine (State.responseExpires_keeps (hs l))).finish he
  case frameReceived l bytes => exact key (hs.of_keepsLine (State.frameIn_keeps (hs l) bytes)).finish he
  case brokenFrame l =>
    exact key (hs.ite fun h =>
      (hs.of_keepsLine (State.frameBreaks_keeps (hs l) (Line.hears_iff.1 h).2)).finish) he
  case gapLimitExpiry l =>
    exact key (hs.ite fun h => (hs.of_keepsLine
      (State.frameBreaks_keeps (hs l) (Line.hears_iff.1 (Bool.and_eq_true_iff.1 h).1).2)).finish) he
  case contention l => exact key (hs.ite fun _ => (hs.of_keepsLine (State.lineFaults_keeps (hs l))).finish) he
  case commsHoldExpiry id => exact key (hs.of_beside (s.holdExpires_beside none none id)).finish he
  case meterEdge n => exact key (hs.of_lines (State.meterEdge_lines s n)).finish he
  case gateArmedStart n high => exact key (hs.of_beside (s.gateStart_beside none n high)).finish he
  case gateClose n => exact key (hs.of_beside (s.gateClose_beside none n)).finish he
  case stepTimerExpiry n => exact key (hs.of_lines (State.stepExpires_lines s n)).finish he
  case homingStepExpiry n home => exact key (hs.of_lines (State.homingExpires_lines s n home)).finish he
  case encoderSample n a b => exact key (hs.of_lines (State.encoderSample_lines s n a b)).finish he
  case sckFallingEdge rose => exact key (hs.of_lines (State.fallingEdge_lines s rose)).finish he
  all_goals exact key hs.send he

end State.LinesRight

/-- Settles O59: an exchange is left, whether by its end, a stop or a fault, only for a line at rest, and a poll is opened
only by a selection of a line at rest. -/
theorem everyStepKeepsLines : Obligations.EveryStepKeepsLines := by
  intro s t hs he
  unfold step at he
  split at he
  · exact Host.Outcome.next.inj he ▸ State.LinesRight.tick hs
  · next rest _ => exact State.LinesRight.exec (s := { s with pending := rest }) hs he

end Sys2Proof.Machine
end

section
/-! PROOFS. A line that leaves POLLING, written out (05 R93, 06 R131): its connections in turn, and what they report. -/

namespace Sys2Proof.Machine

/-! ## One connection -/

/-- A record after its line has left POLLING (05 R93, 06 R131). -/
def Conn.lineLost (l : Fin 8) (hold : Nat) (c : Conn) : Conn :=
  if c.line = l then
    match c.state with
    | .active => c.suspendedBy .line hold
    | .suspended => c.addCause .line
    | .retiring => Conn.vacant c.gen
    | _ => c
  else c

/-- A connection that the loss of its line suspends. -/
def State.suspends (s : State) (l : Fin 8) (id : Fin 96) : Bool := s.conns[id].state == .active && s.conns[id].line == l

/-- A connection that the loss of its line closes out. -/
def State.retires (s : State) (l : Fin 8) (id : Fin 96) : Bool := s.conns[id].state == .retiring && s.conns[id].line == l

/-- What the loss of its line reports of one connection: that it suspends it, or that it closes it out. -/
def Attention.lost (a : Attention) (suspends retires : Bool) (id : Fin 96) : Attention :=
  if suspends then (a.raise .stateChanged).enter id
  else if retires then ((a.raise .retireDone).raise .stateChanged).enter id
  else a

/-- What a line that has left POLLING does to one connection, written out. -/
theorem State.lineLost_eq (l : Fin 8) (s : State) (id : Fin 96) : State.lineLost l s id = { s with
    conns := s.conns.set id (s.conns[id].lineLost l s.holdSetting)
    drops := if s.retires l id then s.drops.filter (fun d => d.conn ≠ id) else s.drops
    engine := { s.engine with curtail := if s.suspends l id then s.engine.curtail.filter (fun e => e.id ≠ id)
      else s.engine.curtail }
    att := s.att.lost (s.suspends l id) (s.retires l id) id
    urgent := s.suspends l id || s.urgent } := by
  have hself : ({ s with conns := s.conns.set id s.conns[id] } : State) = s :=
    congrArg (fun v => ({ s with conns := v } : State)) (Vector.set_getElem_self _)
  unfold State.lineLost State.suspends State.retires Conn.lineLost Attention.lost
  by_cases hline : s.conns[id].line = l
  · have heq : (s.conns[id].line == l) = true := beq_iff_eq.mpr hline
    rw [if_pos hline, if_pos hline, heq]
    cases hst : s.conns[id].state with
    | active =>
      refine (State.gainCause_active s id .line hst).trans ?_
      rw [State.enterSuspended_eq s id (by decide)]
      rfl
    | suspended => exact State.gainCause_suspended s id .line hst
    | retiring => exact State.closeAll_eq s id
    | vacant => exact hself.symm
    | pending => exact hself.symm
  · have hne : (s.conns[id].line == l) = false := beq_eq_false_iff_ne.mpr hline
    rw [if_neg hline, if_neg hline, hne, Bool.and_false, Bool.and_false]
    exact hself.symm

/-! ## What the connections report, one after another -/

/-- The reports of a line's loss by the connections of a list. -/
def Attention.lostAll (a : Attention) (suspends retires : Fin 96 → Bool) (ids : List (Fin 96)) : Attention :=
  ids.foldl (fun a j => a.lost (suspends j) (retires j) j) a

section lostAll
variable (p q : Fin 96 → Bool)

/-- Whether the reports of a connection raise a cause. -/
def lostRaises (suspends retires : Bool) : Cause → Bool
  | .stateChanged => suspends || retires
  | .retireDone => !suspends && retires
  | _ => false

theorem Attention.lost_isPending (a : Attention) (act ret : Bool) (j : Fin 96) (c : Cause) :
    (a.lost act ret j).isPending c = (a.isPending c || lostRaises act ret c) := by
  unfold Attention.lost
  cases act with
  | true => rw [if_pos rfl]; cases c <;> simp [lostRaises]
  | false => cases ret <;> cases c <;> simp [lostRaises]

theorem Attention.lost_unitsOf (a : Attention) (act ret : Bool) (j : Fin 96) (c : Cause) :
    (a.lost act ret j).unitsOf c = a.unitsOf c := by
  unfold Attention.lost
  split
  · simp only [Attention.enter_unitsOf, Attention.raise_unitsOf]
  · split
    · simp only [Attention.enter_unitsOf, Attention.raise_unitsOf]
    · rfl

theorem Attention.lost_changed (a : Attention) (act ret : Bool) (i j : Fin 96) :
    (a.lost act ret j).changed.getLsbD i.val = (a.changed.getLsbD i.val || ((act || ret) && decide (j = i))) := by
  unfold Attention.lost
  cases act with
  | true => rw [if_pos rfl, Attention.enter_changed, Bool.true_or, Bool.true_and]; rfl
  | false =>
    cases ret with
    | true => rw [if_neg (by decide), if_pos rfl, Attention.enter_changed, Bool.or_true, Bool.true_and]; rfl
    | false => rw [if_neg (by decide), if_neg (by decide), Bool.or_false, Bool.false_and, Bool.or_false]

theorem Attention.lostAll_rest (ids : List (Fin 96)) (a : Attention) : a.lostAll p q ids =
    { a with causes := (a.lostAll p q ids).causes, changed := (a.lostAll p q ids).changed } := by
  induction ids generalizing a with
  | nil => rfl
  | cons j ids ih =>
    show (a.lost (p j) (q j) j).lostAll p q ids = { a with
      causes := ((a.lost (p j) (q j) j).lostAll p q ids).causes
      changed := ((a.lost (p j) (q j) j).lostAll p q ids).changed }
    rw [ih]
    unfold Attention.lost
    split
    · rfl
    · split <;> rfl

theorem Attention.lostAll_isPending (ids : List (Fin 96)) (a : Attention) (c : Cause) :
    (a.lostAll p q ids).isPending c = (a.isPending c || ids.any fun j => lostRaises (p j) (q j) c) := by
  induction ids generalizing a with
  | nil => exact (Bool.or_false _).symm
  | cons j ids ih =>
    rw [List.any_cons, ← Bool.or_assoc, ← Attention.lost_isPending a (p j) (q j) j]
    exact ih _

theorem Attention.lostAll_unitsOf (ids : List (Fin 96)) (a : Attention) (c : Cause) :
    (a.lostAll p q ids).unitsOf c = a.unitsOf c := by
  induction ids generalizing a with
  | nil => rfl
  | cons j ids ih => exact (ih _).trans (Attention.lost_unitsOf ..)

theorem Attention.lostAll_changed (ids : List (Fin 96)) (a : Attention) (i : Fin 96) :
    (a.lostAll p q ids).changed.getLsbD i.val =
      (a.changed.getLsbD i.val || ids.any fun j => (p j || q j) && decide (j = i)) := by
  induction ids generalizing a with
  | nil => exact (Bool.or_false _).symm
  | cons j ids ih =>
    rw [List.any_cons, ← Bool.or_assoc, ← Attention.lost_changed a (p j) (q j) i j]
    exact ih _

end lostAll

/-! ## The connections of a line -/

/-- What is picked by a place of `ids` or by `i`, tested one after the other. -/
theorem not_mem_or_at {i j : Fin 96} {ids : List (Fin 96)} {p q : Fin 96 → Bool} (hi : i ∉ ids)
    (h : j ∈ ids → q j = p j) :
    (!(ids.contains j && q j) && !(j == i && p i)) = !((i :: ids).contains j && p j) := by
  by_cases hj : j ∈ ids
  · have hne : j ≠ i := fun e => hi (e ▸ hj)
    simp [hj, hne, h hj]
  · by_cases hji : j = i
    · subst hji
      simp [hj]
    · simp [hj, hji]

/-- Every connection of a list after its line has left POLLING. -/
theorem State.foldl_lineLost (l : Fin 8) {ids : List (Fin 96)} (hids : ids.Nodup) (s : State) :
    (∀ j : Fin 96, (ids.foldl (State.lineLost l) s).conns[j] =
      if j ∈ ids then s.conns[j].lineLost l s.holdSetting else s.conns[j]) ∧
    ids.foldl (State.lineLost l) s = { s with
      conns := (ids.foldl (State.lineLost l) s).conns
      drops := s.drops.filter (fun d => !(ids.contains d.conn && s.retires l d.conn))
      engine := { s.engine with
        curtail := s.engine.curtail.filter (fun e => !(ids.contains e.id && s.suspends l e.id)) }
      att := s.att.lostAll (s.suspends l) (s.retires l) ids
      urgent := ids.any (s.suspends l) || s.urgent } := by
  induction ids generalizing s with
  | nil =>
    refine ⟨fun j => (if_neg List.not_mem_nil).symm, ?_⟩
    simp only [List.contains_nil, Bool.false_and, Bool.not_false, List.filter_true, List.any_nil, Bool.false_or]
    rfl
  | cons i ids ih =>
    obtain ⟨hi, hrest⟩ := List.nodup_cons.mp hids
    have hother (j : Fin 96) (hj : i ≠ j) : (State.lineLost l s i).conns[j] = s.conns[j] :=
      State.lineLost_conn_other l hj
    obtain ⟨hconns, hstate⟩ := ih hrest (State.lineLost l s i)
    have hhold : (State.lineLost l s i).holdSetting = s.holdSetting := by rw [State.lineLost_eq]
    refine ⟨fun j => ?_, ?_⟩
    · rw [List.foldl_cons, hconns, hhold]
      by_cases hij : i = j
      · subst hij
        rw [if_neg hi, if_pos List.mem_cons_self, State.lineLost_eq, getElem_set_fin, if_pos rfl]
      · rw [hother j hij]
        exact if_congr (by simp [Ne.symm hij]) rfl rfl
    · have hsus (j : Fin 96) (hj : j ∈ ids) : (State.lineLost l s i).suspends l j = s.suspends l j := by
        rw [State.suspends, hother j (fun h => hi (h ▸ hj)), State.suspends]
      have hret (j : Fin 96) (hj : j ∈ ids) : (State.lineLost l s i).retires l j = s.retires l j := by
        rw [State.retires, hother j (fun h => hi (h ▸ hj)), State.retires]
      have hdrops : (State.lineLost l s i).drops.filter
            (fun d => !(ids.contains d.conn && (State.lineLost l s i).retires l d.conn)) =
          s.drops.filter (fun d => !((i :: ids).contains d.conn && s.retires l d.conn)) := by
        have hkeep : (State.lineLost l s i).drops = s.drops.filter (fun d => !(d.conn == i && s.retires l i)) := by
          rw [State.lineLost_eq]
          cases hr : s.retires l i with
          | true => simp only [if_true, Bool.and_true, filter_conn_bne]
          | false => simp
        rw [hkeep, List.filter_filter]
        exact List.filter_congr fun d _ => not_mem_or_at hi (hret d.conn)
      have hcurtail : (State.lineLost l s i).engine.curtail.filter
            (fun e => !(ids.contains e.id && (State.lineLost l s i).suspends l e.id)) =
          s.engine.curtail.filter (fun e => !((i :: ids).contains e.id && s.suspends l e.id)) := by
        have hkeep : (State.lineLost l s i).engine.curtail =
            s.engine.curtail.filter (fun e => !(e.id == i && s.suspends l i)) := by
          rw [State.lineLost_eq]
          cases hr : s.suspends l i with
          | true => simp only [if_true, Bool.and_true, filter_id_bne]
          | false => simp
        rw [hkeep, List.filter_filter]
        exact List.filter_congr fun e _ => not_mem_or_at hi (hsus e.id)
      have hatt : (State.lineLost l s i).att.lostAll ((State.lineLost l s i).suspends l)
            ((State.lineLost l s i).retires l) ids =
          s.att.lostAll (s.suspends l) (s.retires l) (i :: ids) := by
        have hfirst : (State.lineLost l s i).att = s.att.lost (s.suspends l i) (s.retires l i) i := by
          rw [State.lineLost_eq]
        rw [hfirst]
        exact List.foldl_ext _ _ _ fun b j hj => by rw [hsus j hj, hret j hj]
      have hurgent : (ids.any ((State.lineLost l s i).suspends l) || (State.lineLost l s i).urgent) =
          ((i :: ids).any (s.suspends l) || s.urgent) := by
        have hany : ids.any ((State.lineLost l s i).suspends l) = ids.any (s.suspends l) := by
          rw [Bool.eq_iff_iff, List.any_eq_true, List.any_eq_true]
          exact exists_congr fun j => and_congr_right fun hj => by rw [hsus j hj]
        have hfirst : (State.lineLost l s i).urgent = (s.suspends l i || s.urgent) := by rw [State.lineLost_eq]
        rw [hany, hfirst, List.any_cons, Bool.or_left_comm, ← Bool.or_assoc]
      have hframe (v : Vector Conn 96) (ds : List Drop) (cs : List CurtailEntry) (a : Attention) (b : Bool) :
          ({ State.lineLost l s i with
            conns := v, drops := ds, engine := { (State.lineLost l s i).engine with curtail := cs }
            att := a, urgent := b } : State) =
            { s with conns := v, drops := ds, engine := { s.engine with curtail := cs }, att := a, urgent := b } := by
        rw [State.lineLost_eq]
      rw [hdrops, hcurtail, hatt, hurgent, hframe] at hstate
      exact hstate

section
variable (s : State) (l : Fin 8)

/-- The line has left POLLING: its ACTIVE connections are suspended, its SUSPENDED ones hold LINE, its RETIRING ones are
VACANT (05 R93, 06 R131). -/
theorem State.leavePolling_eq : s.leavePolling l = { s with
    conns := s.conns.map (Conn.lineLost l s.holdSetting)
    drops := s.drops.filter (fun d => !s.retires l d.conn)
    engine := { s.engine with curtail := s.engine.curtail.filter (fun e => !s.suspends l e.id) }
    att := s.att.lostAll (s.suspends l) (s.retires l) (List.finRange 96)
    urgent := (List.finRange 96).any (s.suspends l) || s.urgent } := by
  obtain ⟨hconns, hstate⟩ := State.foldl_lineLost l (List.nodup_finRange 96) s
  have hvec : ((List.finRange 96).foldl (State.lineLost l) s).conns = s.conns.map (Conn.lineLost l s.holdSetting) := by
    refine Vector.ext fun i hi => ?_
    rw [Vector.getElem_map]
    exact (hconns ⟨i, hi⟩).trans (if_pos (List.mem_finRange _))
  have hall (id : Fin 96) : (List.finRange 96).contains id = true := List.contains_iff_mem.mpr (List.mem_finRange id)
  simp only [hvec, hall, Bool.true_and] at hstate
  exact hstate

/-- The line leaves the state it was in, its record being `y` from now on. -/
def State.left (y : Line) : State :=
  let t : State := { s with lines := s.lines.set l y }
  if s.isPolling l then t.leavePolling l else t

theorem State.lineGoes_eq_left (st : LineState) : s.lineGoes l st = s.left l (s.lines[l].gone st) := rfl

theorem State.resetLine_eq_left : s.resetLine l = s.left l Line.reset := rfl

theorem State.suspends_iff {id : Fin 96} : s.suspends l id = true ↔ s.conns[id].line = l ∧ s.conns[id].state = .active := by
  rw [State.suspends, Bool.and_eq_true, beq_iff_eq, beq_iff_eq, and_comm]

theorem State.retires_iff {id : Fin 96} : s.retires l id = true ↔ s.conns[id].line = l ∧ s.conns[id].state = .retiring := by
  rw [State.retires, Bool.and_eq_true, beq_iff_eq, beq_iff_eq, and_comm]

theorem State.suspends_or_retires (id : Fin 96) : (s.suspends l id || s.retires l id) =
    decide (s.conns[id].line = l ∧ (s.conns[id].state = .active ∨ s.conns[id].state = .retiring)) := by
  rw [Bool.eq_iff_iff, Bool.or_eq_true, State.suspends_iff, State.retires_iff, decide_eq_true_iff]
  tauto

/-- The causes a line's loss raises (01 R10, R21). -/
theorem State.lost_raises (c : Cause) :
    ((List.finRange 96).any fun j => lostRaises (s.suspends l j) (s.retires l j) c) =
      match c with
      | .stateChanged => decide (∃ id : Fin 96, s.conns[id].line = l ∧
          (s.conns[id].state = .active ∨ s.conns[id].state = .retiring))
      | .retireDone => decide (∃ id : Fin 96, s.conns[id].line = l ∧ s.conns[id].state = .retiring)
      | _ => false := by
  have hretire (id : Fin 96) : (!s.suspends l id && s.retires l id) = s.retires l id := by
    cases hs : s.suspends l id with
    | false => rfl
    | true =>
      cases hr : s.retires l id with
      | false => rfl
      | true =>
        have hboth := ((s.suspends_iff l).mp hs).2.symm.trans ((s.retires_iff l).mp hr).2
        cases hboth
  have hnone : ((List.finRange 96).any fun _ => false) = false := by simp
  cases c
  case stateChanged =>
    simp only [lostRaises, State.suspends_or_retires]
    rw [Bool.eq_iff_iff, List.any_eq_true]
    simp
  case retireDone =>
    simp only [lostRaises, hretire]
    rw [Bool.eq_iff_iff, List.any_eq_true]
    simp [State.retires_iff]
  all_goals exact hnone

theorem State.lost_changed (a : Attention) (id : Fin 96) :
    (a.lostAll (s.suspends l) (s.retires l) (List.finRange 96)).changed.getLsbD id.val = (a.changed.getLsbD id.val ||
      decide (s.conns[id].line = l ∧ (s.conns[id].state = .active ∨ s.conns[id].state = .retiring))) := by
  rw [Attention.lostAll_changed, ← State.suspends_or_retires]
  congr 1
  rw [Bool.eq_iff_iff, List.any_eq_true]
  simp

end

end Sys2Proof.Machine
end

section
/-! PROOFS. STOP LINE, LINE RESET and contention with no exchange to finish (O42). -/

namespace Sys2Proof.Machine

/-- STOP LINE on a line (05 R91). -/
theorem doStopLine_eq {s : State} {l : Fin 8} {a : Byte} (ha : a.toNat = l.val) : doStopLine [a] s =
    if s.lines[l].state = .down ∨ s.lines[l].state = .ready then (s, .badState) else (s.stopLine l, .ok) :=
  withUnit_unit (u := l) ha

/-- LINE RESET on a line (05 R92). -/
theorem doLineReset_eq {s : State} {l : Fin 8} {a : Byte} (ha : a.toNat = l.val) :
    doLineReset [a] s = (s.resetLine l, .ok) :=
  withUnit_unit (u := l) ha

/-- STOP LINE with no exchange under way, or from FAULTED, has its effect at once (05 R91). -/
theorem State.stopLine_at_once {s : State} {l : Fin 8}
    (h : s.lines[l].state = .faulted ∨ s.lines[l].phase = .none ∨ s.lines[l].phase = .spacing) :
    s.stopLine l = s.left l (s.lines[l].gone .ready) := by
  refine if_neg ?_
  rw [Line.inExchange]
  rintro ⟨hst, hp⟩
  rcases h with h | h | h
  · exact hst h
  · rw [h] at hp; revert hp; decide
  · rw [h] at hp; revert hp; decide

/-- The state with the port, the line and the records that an event leaves which takes a line out of POLLING, the pass it
wants left out (05 R93). -/
def State.lineLeft (s : State) (l : Fin 8) (y : Line) (p : Port) (faults : Bool) : State :=
  { s with
    port := p, lines := s.lines.set l y
    conns := s.conns.map (Conn.lineLost l s.holdSetting)
    drops := s.drops.filter (fun d => !s.retires l d.conn)
    engine := { s.engine with curtail := s.engine.curtail.filter (fun e => !s.suspends l e.id) }
    att := if faults
      then (s.att.lostAll (s.suspends l) (s.retires l) (List.finRange 96)).raiseUnit .lineFaulted l
      else s.att.lostAll (s.suspends l) (s.retires l) (List.finRange 96) }

section
variable {s : State} {l : Fin 8}

theorem State.left_other (h : s.lines[l].state ≠ .polling) (y : Line) :
    s.left l y = { s with lines := s.lines.set l y } :=
  if_neg (mt beq_iff_eq.mp h)

theorem State.left_polling (h : s.lines[l].state = .polling) (y : Line) : s.left l y =
    { s.lineLeft l y s.port false with urgent := (List.finRange 96).any (s.suspends l) || s.urgent } := by
  refine (if_pos (beq_iff_eq.mpr h)).trans ?_
  rw [State.leavePolling_eq]
  rfl

/-- The end of the event: one pass for all the connections suspended (assumption log 10). -/
theorem State.lineLeft_finish (hurgent : s.urgent = false) (y : Line) (p : Port) (faults : Bool) {t : State}
    (ht : t = { s.lineLeft l y p faults with urgent := (List.finRange 96).any (s.suspends l) || s.urgent }) :
    t.finish = if (∃ id : Fin 96, s.conns[id].line = l ∧ s.conns[id].state = .active)
      then (s.lineLeft l y p faults).answered else (s.lineLeft l y p faults).attend := by
  have hany : (List.finRange 96).any (s.suspends l) = true ↔
      ∃ id : Fin 96, s.conns[id].line = l ∧ s.conns[id].state = .active := by
    rw [List.any_eq_true]
    simp only [List.mem_finRange, true_and, State.suspends_iff]
  rw [ht, hurgent, Bool.or_false]
  exact (State.finish_urgent (u := s.lineLeft l y p faults) hurgent _).trans (if_congr hany rfl rfl)

/-- What leaving POLLING does to the records and to what is reported, line, port and pass aside (05 R93, 06 R131). -/
theorem State.lineLeft_reports (s : State) (l : Fin 8) (y : Line) (p : Port) (faults : Bool) :
    (∀ id : Fin 96, (s.lineLeft l y p faults).conns[id] = s.conns[id].lineLost l s.holdSetting) ∧
    (s.lineLeft l y p faults).att = { s.att with
      causes := (s.lineLeft l y p faults).att.causes, changed := (s.lineLeft l y p faults).att.changed } ∧
    (∀ id : Fin 96, (s.lineLeft l y p faults).att.changed.getLsbD id.val = (s.att.changed.getLsbD id.val ||
      decide (s.conns[id].line = l ∧ (s.conns[id].state = .active ∨ s.conns[id].state = .retiring)))) ∧
    (∀ c : Cause, (s.lineLeft l y p faults).att.isPending c = (s.att.isPending c ||
      match c with
      | .stateChanged => decide (∃ id : Fin 96, s.conns[id].line = l ∧
          (s.conns[id].state = .active ∨ s.conns[id].state = .retiring))
      | .retireDone => decide (∃ id : Fin 96, s.conns[id].line = l ∧ s.conns[id].state = .retiring)
      | .lineFaulted => faults
      | _ => false)) ∧
    (∀ (c : Cause) (n : Fin 8), ((s.lineLeft l y p faults).att.unitsOf c).getLsbD n.val =
      ((s.att.unitsOf c).getLsbD n.val || (c == .lineFaulted && faults && n == l))) := by
  have hrest := Attention.lostAll_rest (s.suspends l) (s.retires l) (List.finRange 96) s.att
  have hpend (c : Cause) := (Attention.lostAll_isPending (s.suspends l) (s.retires l) (List.finRange 96) s.att c).trans
    (congrArg _ (s.lost_raises l c))
  have hunits := Attention.lostAll_unitsOf (s.suspends l) (s.retires l) (List.finRange 96) s.att
  have hchanged := s.lost_changed l s.att
  refine ⟨fun id => Vector.getElem_map .., ?_⟩
  unfold State.lineLeft
  dsimp only
  generalize s.att.lostAll (s.suspends l) (s.retires l) (List.finRange 96) = b at hrest hpend hunits hchanged
  cases faults with
  | false =>
    rw [if_neg (by decide)]
    refine ⟨hrest, hchanged, fun c => ?_, fun c n => ?_⟩
    · rw [hpend c]
      cases c <;> rfl
    · rw [hunits c, Bool.and_false, Bool.false_and, Bool.or_false]
  | true =>
    rw [if_pos rfl]
    refine ⟨?_, hchanged, fun c => ?_, fun c n => ?_⟩
    · rw [hrest]
      rfl
    · rw [Attention.raiseUnit_isPending, hpend c, Bool.or_comm]
      cases c <;> simp
    · rw [Attention.raiseUnit_unitsOf, hunits c, Bool.and_true]
      by_cases hc : .lineFaulted = c
      · subst hc
        rw [if_pos rfl, BitVec.getLsbD_or, unitBit, beq_self_eq_true, Bool.true_and, beq_eq_decide,
          decide_eq_decide.mpr (eq_comm (a := l))]
      · rw [if_neg hc, beq_eq_false_iff_ne.mpr (Ne.symm hc), Bool.false_and, Bool.or_false]

end

/-- Settles O42. -/
theorem leavingPollingSuspends : Obligations.LeavingPollingSuspends := by
  rintro s i a l x y z p faults hset rfl ha hz hcase
  obtain ⟨h1, h2⟩ : (s.lines[l].state ≠ .polling → exec i s = .next { s with port := p, lines := s.lines.set l y }) ∧
      (s.lines[l].state = .polling → ∃ t : State, exec i s = .next t.finish ∧ t = { s.lineLeft l y p faults with
        urgent := (List.finRange 96).any (s.suspends l) || s.urgent }) := by
    rcases hcase with ⟨h, rfl, hdown, hready, hst, rfl, rfl, rfl⟩ | ⟨h, rfl, rfl, rfl, rfl⟩ | ⟨rfl, hst, hp, rfl, rfl, rfl⟩
    · have hexec : exec (.stopLine [a]) s = .next (((s.acting .stopLine 0 []).left l { z with state := .ready }).closeWith
          .ok).finish := by
        have hdo := (doStopLine_eq (s := s.acting .stopLine 0 []) ha).trans (if_neg (not_or.mpr ⟨hdown, hready⟩))
        rw [State.stopLine_at_once (s := s.acting .stopLine 0 []) hst] at hdo
        rw [hz]
        exact congrArg _ (exec_one_act h .stopLine a false hdo)
      refine ⟨fun hno => ?_, fun hyes => ⟨_, hexec, ?_⟩⟩
      · rw [hexec, State.left_other (s := s.acting .stopLine 0 []) hno]
        exact congrArg _ (State.finish_of_settled h.2.2)
      · rw [State.left_polling (s := s.acting .stopLine 0 []) hyes]
        rfl
    · have hexec : exec (.lineReset [a]) s = .next (((s.acting .lineReset 0 []).left l Line.reset).closeWith .ok).finish :=
        congrArg _ (exec_one_act h .lineReset a false (doLineReset_eq (s := s.acting .lineReset 0 []) ha))
      refine ⟨fun hno => ?_, fun hyes => ⟨_, hexec, ?_⟩⟩
      · rw [hexec, State.left_other (s := s.acting .lineReset 0 []) hno]
        exact congrArg _ (State.finish_of_settled h.2.2)
      · rw [State.left_polling (s := s.acting .lineReset 0 []) hyes]
        rfl
    · have hexec : exec (.contention l) s =
          .next ((s.left l { z with state := .faulted }).raiseUnit .lineFaulted l).finish := by
        rw [hz]
        exact congrArg _ (if_pos ⟨hst, hp⟩)
      refine ⟨fun hno => absurd hst hno, fun hyes => ⟨_, hexec, ?_⟩⟩
      rw [State.left_polling hyes]
      rfl
  refine ⟨h1, fun hst => ?_⟩
  obtain ⟨t, hexec, ht⟩ := h2 hst
  obtain ⟨hconns, hatt⟩ := s.lineLeft_reports l y p faults
  exact ⟨s.lineLeft l y p faults, hexec.trans (congrArg _ (State.lineLeft_finish hset.1 y p faults ht)), rfl, hconns, hatt⟩

end Sys2Proof.Machine
end

section
/-! PROOFS. The selection of an address (O43): a POLLING line polls the next pollable drop, a LOOPBACK line itself. -/

namespace Sys2Proof.Machine

section walk
variable {s : State} {l : Fin 8} {d : Drop}

/-- In the pool's order the first pollable drop of a line that a test picks is the one of the lowest address it picks. -/
theorem State.find_pollable (hsorted : SortedDrops s.drops) {p : Drop → Bool} (hd : d ∈ s.drops) (hline : d.line = l)
    (hopen : d.closed = false) (hp : p d = true)
    (hmin : ∀ e ∈ s.drops, e.line = l → e.closed = false → p e = true → d.addr ≤ e.addr) :
    (s.pollable l).find? p = some d := by
  have hpair : SortedDrops (s.pollable l) := (hsorted.filter _).filter _
  cases hf : (s.pollable l).find? p with
  | none => exact absurd hp (List.find?_eq_none.mp hf d (State.mem_pollable.mpr ⟨hd, hline, hopen⟩))
  | some e =>
    obtain ⟨hpe, as, bs, hlist, hbefore⟩ := List.find?_eq_some_iff_append.mp hf
    obtain ⟨hemem, heline, heopen⟩ := State.mem_pollable.mp (List.mem_of_find?_eq_some hf)
    have hle := hmin e hemem heline heopen hpe
    have hmem : d ∈ as ++ e :: bs := hlist ▸ State.mem_pollable.mpr ⟨hd, hline, hopen⟩
    rcases List.mem_append.mp hmem with h | h
    · simpa [hp] using hbefore d h
    · rcases List.mem_cons.mp h with h | h
      · rw [h]
      · rw [hlist] at hpair
        have hkey := (List.pairwise_cons.mp (List.pairwise_append.mp hpair).2.1).1 d h
        rw [Drop.key, Drop.key, heline, hline] at hkey
        omega

/-- The lowest pollable address above the walk position (05 R94). -/
theorem State.selectPolling_next (hsorted : SortedDrops s.drops) (hd : d ∈ s.drops) (hline : d.line = l)
    (hopen : d.closed = false) (hwalk : s.lines[l].walk < d.addr)
    (hmin : ∀ e ∈ s.drops, e.line = l → e.closed = false → e.addr ≤ s.lines[l].walk ∨ d.addr ≤ e.addr) :
    s.selectPolling l = s.pollDrop l d false := by
  have hfind : (s.pollable l).find? (fun e => s.lines[l].walk < e.addr) = some d :=
    State.find_pollable hsorted hd hline hopen (decide_eq_true hwalk) fun e he hel heo hpe =>
      (hmin e he hel heo).resolve_left (Nat.not_le.mpr (of_decide_eq_true hpe))
  rw [State.selectPolling, hfind]

/-- None above it: the lowest of all, which ends a round (05 R94). -/
theorem State.selectPolling_wraps (hsorted : SortedDrops s.drops) (hd : d ∈ s.drops) (hline : d.line = l)
    (hopen : d.closed = false)
    (hmin : ∀ e ∈ s.drops, e.line = l → e.closed = false → e.addr ≤ s.lines[l].walk ∧ d.addr ≤ e.addr) :
    s.selectPolling l = s.pollDrop l d true := by
  have hnone : (s.pollable l).find? (fun e => s.lines[l].walk < e.addr) = none := by
    refine List.find?_eq_none.mpr fun e he => ?_
    obtain ⟨hmem, hel, heo⟩ := State.mem_pollable.mp he
    exact mt of_decide_eq_true (Nat.not_lt.mpr (hmin e hmem hel heo).1)
  have hhead : (s.pollable l).head? = some d := by
    have hfirst := State.find_pollable hsorted (p := fun _ => true) hd hline hopen rfl
      fun e he hel heo _ => (hmin e he hel heo).2
    cases hlist : s.pollable l with
    | nil => rw [hlist] at hfirst; cases hfirst
    | cons e es => rw [hlist] at hfirst; exact hfirst
  rw [State.selectPolling, hnone, hhead]

end walk

/-! ## The grant of a poll -/

theorem grantMode_eq (c : Conn) (d : Drop) : grantMode c d =
    if c.state = .retiring then .close else if c.state = .pending ∨ d.state = .joining then .commission
    else if c.state = .active then .openService else if c.expired then .fallback else .hold := by
  unfold grantMode
  by_cases h : c.state = .pending
  · simp only [h, true_or, if_true]
  · simp only [h, false_or, if_false]

theorem grantCeiling_eq (c : Conn) (d : Drop) :
    grantCeiling c d = if grantMode c d = .close ∨ grantMode c d = .commission then 0 else d.share := by
  unfold grantCeiling
  cases grantMode c d <;> rfl

/-! ## The events that select -/

theorem State.select_polling {s : State} {l : Fin 8} (h : s.lines[l].state = .polling) :
    s.select l = s.selectPolling l := by rw [State.select, h]

theorem State.select_loopback {s : State} {l : Fin 8} (h : s.lines[l].state = .loopback) :
    s.select l = s.selectLoopback l := by rw [State.select, h]

section
variable {s : State} {l : Fin 8} {x : Line}

/-- The state in which an event makes its selection: the spacing timer has run down (05 R94, R98). -/
def State.selecting (s : State) (l : Fin 8) : State := s.modLine l (fun x => { x with spaceLeft := 0 })

theorem State.selecting_eq (hx : s.lines[l] = x) :
    s.selecting l = { s with lines := s.lines.set l { x with spaceLeft := 0 } } :=
  State.modLine_eq hx _

/-- IDLE_LINE_SELECTION with a pollable drop (05 R94). -/
theorem exec_idleLineSelection (hx : s.lines[l] = x) (hpoll : x.state = .polling) (hp : x.phase = .none)
    (hopen : ∃ d ∈ s.drops, d.line = l ∧ d.closed = false) (hspace : x.spaceLeft = 0) :
    exec (.idleLineSelection l) s = .next ((s.selecting l).selectOrWait l).finish := by
  obtain ⟨d, hd, hline, hfree⟩ := hopen
  have hmem : d ∈ s.pollable l := State.mem_pollable.mpr ⟨hd, hline, hfree⟩
  have hself : s.selecting l = s := by
    have hkeep : ({ x with spaceLeft := 0 } : Line) = s.lines[l] := by rw [hx, ← hspace]
    rw [State.selecting_eq hx, hkeep]
    exact congrArg (fun v => ({ s with lines := v } : State)) (Vector.set_getElem_self _)
  rw [hself]
  refine congrArg (fun t : State => Host.Outcome.next t.finish) (if_pos ⟨?_, ?_, List.ne_nil_of_mem hmem⟩)
  · rw [State.isPolling, hx, hpoll]
    rfl
  · rw [hx, hp]

/-- POLL_SPACING_EXPIRY in SPACING (05 R98). -/
theorem exec_pollSpacingExpiry (hp : s.lines[l].phase = .spacing) :
    exec (.pollSpacingExpiry l) s = .next ((s.selecting l).selectOrWait l).finish :=
  congrArg (fun t : State => Host.Outcome.next t.finish) (if_pos hp)

variable (hset : s.Settled) (hx : s.lines[l] = x)
include hset hx

/-- A selection while a frame is being assembled waits (05 R98). -/
theorem State.selecting_waits (hasm : x.assembling = true) : ((s.selecting l).selectOrWait l).finish =
    { s with lines := s.lines.set l { x with due := true, spaceLeft := 0 } } := by
  rw [State.selecting_eq hx, State.selectOrWait, State.lines_set_self, if_pos hasm, State.modLine_set]
  exact State.finish_of_settled hset

omit hset in
theorem State.selecting_line : (s.selecting l).lines[l] = { x with spaceLeft := 0 } := by
  rw [State.selecting_eq hx, State.lines_set_self]

omit hset in
theorem State.selecting_selects (hasm : x.assembling = false) :
    (s.selecting l).selectOrWait l = (s.selecting l).select l :=
  if_neg (by rw [State.selecting_line hx]; exact Bool.eq_false_iff.mp hasm)

/-- A POLLING line with no pollable drop goes idle (05 R94). -/
theorem State.selecting_idle (hpoll : x.state = .polling) (h : ∀ d ∈ s.drops, d.line = l → d.closed = true) :
    ((s.selecting l).select l).finish =
      { s with lines := s.lines.set l { x with phase := .none, due := false, spaceLeft := 0 } } := by
  have hline := State.selecting_line hx
  rw [State.select_polling (by rw [hline]; exact hpoll), State.selectPolling_none (s := s.selecting l) h,
    State.modLine_eq hline, State.selecting_eq hx, Vector.set_set]
  exact State.finish_of_settled hset

/-- A POLLING line polls the drop its walk comes to (05 R94, 06 R114). -/
theorem State.selecting_polls (hpoll : x.state = .polling) (hsorted : SortedDrops s.drops) {d : Drop} (hd : d ∈ s.drops)
    (hdl : d.line = l) (hopen : d.closed = false)
    (hnext : (x.walk < d.addr ∧ ∀ e ∈ s.drops, e.line = l → e.closed = false → e.addr ≤ x.walk ∨ d.addr ≤ e.addr) ∨
      (∀ e ∈ s.drops, e.line = l → e.closed = false → e.addr ≤ x.walk ∧ d.addr ≤ e.addr)) :
    ((s.selecting l).select l).finish = { s with
      drops := s.drops.map (fun e => if e.line = l ∧ e.addr = d.addr
        then { e with mode := some (grantMode s.conns[d.conn] d) } else e)
      lines := s.lines.set l (x.openAt d.addr (¬ x.walk < d.addr) true
        (pollFrame l d.addr (grantMode s.conns[d.conn] d) (grantCeiling s.conns[d.conn] d))) } := by
  have hline := State.selecting_line hx
  have hwalk : (s.selecting l).lines[l].walk = x.walk := by rw [hline]
  have hpolls : (s.selecting l).selectPolling l = (s.selecting l).pollDrop l d (¬ x.walk < d.addr) := by
    rcases hnext with ⟨habove, hmin⟩ | hmin
    · rw [decide_eq_false (not_not.mpr habove)]
      exact State.selectPolling_next (s := s.selecting l) hsorted hd hdl hopen (hwalk ▸ habove) (hwalk ▸ hmin)
    · rw [decide_eq_true (Nat.not_lt.mpr (hmin d hd hdl hopen).1)]
      exact State.selectPolling_wraps (s := s.selecting l) hsorted hd hdl hopen (hwalk ▸ hmin)
  rw [State.select_polling (by rw [hline]; exact hpoll), hpolls, State.pollDrop_eq hline, State.selecting_eq hx,
    Vector.set_set]
  exact State.finish_of_settled hset

/-- A LOOPBACK line polls the next address to itself (05 R106). -/
theorem State.selecting_loopback (hst : x.state = .loopback) : ((s.selecting l).select l).finish = { s with
    lines := s.lines.set l (x.openAt x.loopNext (30 ≤ x.walk) false (pollFrame l x.loopNext .commission 0)) } := by
  have hline := State.selecting_line hx
  rw [State.select_loopback (by rw [hline]; exact hst), State.selectLoopback, State.modLine_eq hline,
    State.selecting_eq hx, Vector.set_set]
  exact State.finish_of_settled hset

end

/-- Settles O43. -/
theorem selectionPollsNextDrop : Obligations.SelectionPollsNextDrop := by
  intro s i l x hset hpool hx
  refine ⟨⟨fun hno => ?_, fun hp => ?_⟩, fun hi => ?_⟩
  · show Host.Outcome.next (s.idleSelects l).finish = _
    rw [State.idleSelects, if_neg ?_, State.finish_of_settled hset]
    rintro ⟨hpoll, hp, hsome⟩
    rcases hno with h | h | h
    · exact h (hx ▸ beq_iff_eq.mp hpoll)
    · exact h (hx ▸ hp)
    · obtain ⟨d, hd⟩ := List.exists_mem_of_ne_nil _ hsome
      obtain ⟨hmem, hdl, hopen⟩ := State.mem_pollable.mp hd
      exact absurd ((h d hmem hdl).symm.trans hopen) (by decide)
  · show Host.Outcome.next (s.spacingEnds l).finish = _
    rw [State.spacingEnds, if_neg (hx ▸ hp), State.finish_of_settled hset]
  · have hexec : exec i s = .next ((s.selecting l).selectOrWait l).finish := by
      rcases hi with ⟨rfl, hpoll, hp, hsome, hspace⟩ | ⟨rfl, _, hp⟩
      · exact exec_idleLineSelection hx.symm hpoll hp hsome hspace
      · exact exec_pollSpacingExpiry (hx ▸ hp)
    refine ⟨fun hasm => hexec.trans (congrArg _ (State.selecting_waits hset hx.symm hasm)), fun hasm hpoll => ?_,
      fun hasm hst n hn => ?_⟩
    · rw [State.selecting_selects hx.symm hasm] at hexec
      refine ⟨fun hnone => hexec.trans (congrArg _ (State.selecting_idle hset hx.symm hpoll hnone)), ?_⟩
      rintro d hd hdl hopen hnext c g rfl rfl
      rw [hexec, State.selecting_polls hset hx.symm hpoll hpool.1 hd hdl hopen hnext, ← grantMode_eq, ← grantCeiling_eq]
      simp only [Line.openAt, wrapSucc16, decide_eq_true_eq, ite_not]
    · rw [State.selecting_selects hx.symm hasm] at hexec
      rw [hexec, State.selecting_loopback hset hx.symm hst, hn]
      simp only [Line.openAt, Line.loopNext, wrapSucc16, decide_eq_true_eq]

end Sys2Proof.Machine
end

section
/-! PROOFS. The end of a poll (O44). -/

namespace Sys2Proof.Machine

/-! ## The echo of a loopback poll -/

/-- What a loopback line sends is a good echo (05 R107). -/
theorem goodEcho_pollFrame (l : Fin 8) {addr : Nat} (h : addr ≤ 30) (m : GrantMode) (n : Nat) :
    goodEcho l addr (some (pollFrame l addr m n)) = true := by
  have hl : l.val % 256 = l.val := Nat.mod_eq_of_lt (by omega)
  have ha : addr % 256 = addr := Nat.mod_eq_of_lt (by omega)
  have h2 : arg (pollFrame l addr m n) 2 = 0x31 := rfl
  have h3 : arg (pollFrame l addr m n) 3 = l.val := by
    refine Eq.trans ?_ hl
    exact BitVec.toNat_ofNat ..
  have h4 : arg (pollFrame l addr m n) 4 = addr := by
    refine Eq.trans ?_ ha
    exact BitVec.toNat_ofNat ..
  rw [goodEcho, completeFrame_pollFrame, crcGood_pollFrame, h2, h3, h4]
  simp only [beq_self_eq_true, Bool.and_self]

/-- No echo, or one that differs from what was sent in one of the checked ways, is a bad one (05 R107). -/
theorem goodEcho_eq_false {l : Fin 8} {addr : Nat} {echo : Option (List Byte)}
    (h : echo = none ∨ ∃ b, echo = some b ∧ (completeFrame b = false ∨ crcGood b = false ∨ arg b 2 ≠ 0x31 ∨
      arg b 3 ≠ l.val ∨ arg b 4 ≠ addr)) : goodEcho l addr echo = false := by
  rcases h with rfl | ⟨b, rfl, h⟩
  · rfl
  · rw [← Bool.not_eq_true]
    simp only [goodEcho, Bool.and_eq_true, beq_iff_eq]
    rintro ⟨⟨⟨⟨h1, h2⟩, h3⟩, h4⟩, h5⟩
    rcases h with h | h | h | h | h
    · exact absurd (h1.symm.trans h) (by decide)
    · exact absurd (h2.symm.trans h) (by decide)
    · exact h h3
    · exact h h4
    · exact h h5

/-! ## The line after its poll -/

/-- A line that is not POLLING takes a stop pending without effect on its connections (05 R91, R93). -/
theorem State.takeStop_other {s : State} {l : Fin 8} {z : Line} (hst : z.state ≠ .polling) :
    ({ s with lines := s.lines.set l z } : State).takeStop l = { s with lines := s.lines.set l z.stopTaken } := by
  have hz := State.lines_set_self s l z
  unfold State.takeStop Line.stopTaken
  rw [hz]
  split
  · rw [State.lineGoes_eq_left, State.left_other (by rw [hz]; exact hst), hz, Vector.set_set]
  · rfl

/-- With no stop pending there is none to take. -/
theorem State.takeStop_none {s : State} {l : Fin 8} {z : Line} (hstop : z.stop = false) :
    ({ s with lines := s.lines.set l z } : State).takeStop l = { s with lines := s.lines.set l z } := by
  refine if_neg ?_
  rw [State.lines_set_self]
  exact Bool.eq_false_iff.mp hstop

/-- A line at the end of its exchange, the poll spacing started or a stop pending taken (05 R91, R98). -/
def Line.spaced (x : Line) : Line := x.space.stopTaken

section
variable {s : State} {l : Fin 8} {x : Line} (hx : s.lines[l] = x)
include hx

/-- A poll of a LOOPBACK line that has come back (05 R107). -/
theorem State.checkEcho_good (hst : x.state = .loopback) {echo : Option (List Byte)}
    (hecho : goodEcho l x.polled echo = true) : s.checkEcho l echo =
      { s with lines := s.lines.set l { x.spaced with loopGood := satSucc 65535 x.loopGood } } := by
  unfold State.checkEcho
  rw [hx, if_pos hecho, State.modLine_eq hx]
  dsimp only
  rw [State.modLine_set, State.takeStop_other (by rw [Line.space, hst]; decide)]
  unfold Line.spaced Line.stopTaken
  cases hstop : x.stop <;> simp only [Line.space, Line.gone, Line.quiet, hstop] <;> rfl

/-- A poll of a LOOPBACK line that has not come back as it went out (05 R103, R107). -/
theorem State.checkEcho_bad (hst : x.state = .loopback) {echo : Option (List Byte)}
    (hecho : goodEcho l x.polled echo = false) : s.checkEcho l echo = { s with
      lines := s.lines.set l { x.spaced with loopBad := satSucc 65535 x.loopBad, latch := true }
      att := (if x.latch then s.att else s.att.raiseUnit .crcLatched l).raiseUnit .loopError l } := by
  unfold State.checkEcho
  rw [hx, if_neg (Bool.eq_false_iff.mp hecho), State.modLine_eq hx, State.setLatch_set]
  dsimp only
  have hspace := State.modLine_set { s with
    att := (if x.latch then s.att else s.att.raiseUnit .crcLatched l).raiseUnit .loopError l } l
    { x with loopBad := satSucc 65535 x.loopBad, latch := true } Line.space
  refine (congrArg (fun t : State => t.takeStop l) hspace).trans ?_
  rw [State.takeStop_other (by rw [Line.space, hst]; decide)]
  unfold Line.spaced Line.stopTaken
  cases hstop : x.stop <;> simp only [Line.space, Line.gone, Line.quiet, hstop] <;> rfl

/-- POLL_SENT while a POLLING line sends (05 R95, R96). -/
theorem exec_pollSent_polling (hp : x.phase = .sending) (hst : x.state ≠ .loopback) (echo : Option (List Byte)) :
    exec (.pollSent l echo) s = .next (s.pollOut l).finish := by
  subst hx
  exact congrArg Host.Outcome.next ((if_pos hp).trans (congrArg State.finish (if_neg hst)))

/-- POLL_SENT while a LOOPBACK line sends (05 R107). -/
theorem exec_pollSent_loopback (hp : x.phase = .sending) (hst : x.state = .loopback) (echo : Option (List Byte)) :
    exec (.pollSent l echo) s = .next (s.checkEcho l echo).finish := by
  subst hx
  exact congrArg Host.Outcome.next ((if_pos hp).trans (congrArg State.finish (if_pos hst)))

end

/-- Settles O44. -/
theorem pollSentActs : Obligations.PollSentActs := by
  intro s l x echo hset hx
  refine ⟨fun hp => ?_, fun hp hst hcut => ?_, fun hp hst hcut hstop => ?_, ?_⟩
  · exact congrArg Host.Outcome.next (if_neg (hx ▸ hp))
  · rw [exec_pollSent_polling hx.symm hp hst, State.pollOut, ← hx, if_neg (Bool.eq_false_iff.mp hcut),
      State.modLine_eq hx.symm]
    exact congrArg _ (State.finish_of_settled hset)
  · rw [exec_pollSent_polling hx.symm hp hst, State.pollOut, ← hx, if_pos hcut, State.modLine_eq hx.symm,
      State.takeStop_none (z := x.space) hstop]
    exact congrArg _ (State.finish_of_settled hset)
  · intro hp hst haddr z hz
    have hz' : z = x.spaced := by
      rw [hz]
      unfold Line.spaced Line.stopTaken
      cases hstop : x.stop <;> simp only [Line.space, Line.gone, Line.quiet, hstop]
    rw [hz']
    refine ⟨fun m n he => ?_, fun he => ?_⟩
    · rw [exec_pollSent_loopback hx.symm hp hst, he,
        State.checkEcho_good hx.symm hst (goodEcho_pollFrame l haddr m n)]
      exact congrArg _ (State.finish_of_settled hset)
    · rw [exec_pollSent_loopback hx.symm hp hst, State.checkEcho_bad hx.symm hst (goodEcho_eq_false he)]
      exact congrArg _ (State.finish_of_quiet hset.1)

end Sys2Proof.Machine
end

section
/-! PROOFS. LINE INIT, CLEAR LINE ERRORS, STOP LINE with an exchange under way, and contention where it cannot arise
(O40). -/

namespace Sys2Proof.Machine

/-! ## LINE INIT -/

/-- The byte event that completes LINE INIT, its seven parameter bytes sent to a ready port. -/
theorem State.send_lineInit {s : State} (h : s.Ready) (a r sh sl th tl m : Byte) :
    s.send .lineInit [a, r, sh, sl, th, tl, m] false =
      ((s.acting .lineInit 6 [a, r, sh, sl, th, tl]).finishWhole .lineInit [a, r, sh, sl, th, tl, m] false).finish :=
  State.send_whole h rfl [a, r, sh, sl, th, tl] m false (by decide : 6 < 7) rfl rfl

/-- LINE INIT on a line: its checks (05 R89, assumption log 32). -/
theorem doLineInit_eq {s : State} {l : Fin 8} {a : Byte} (ha : a.toNat = l.val) (r sh sl th tl m : Byte) :
    doLineInit [a, r, sh, sl, th, tl, m] s =
      if 4 < r.toNat ∨ 1 < m.toNat then (s, .badParam)
      else if s.lines[l].state = .down ∨ s.lines[l].state = .ready then
        let x := s.lines[l].init r.toNat (sh.toNat * 256 + sl.toNat) (th.toNat * 256 + tl.toNat)
          (if m.toNat = 0 then .normal else .loopback)
        (s.modLine l (fun _ => x),
          clampResult (x.spacing != sh.toNat * 256 + sl.toNat || x.timeout != th.toNat * 256 + tl.toNat))
      else (s, .badState) := by
  refine (withUnit_unit (u := l) ha).trans (if_congr ?_ rfl rfl)
  rw [Bool.or_eq_true, decide_eq_true_iff, decide_eq_true_iff]
  rfl

theorem doLineInit_badParam {s : State} {a r m : Byte} (h : 7 < a.toNat ∨ 4 < r.toNat ∨ 1 < m.toNat) (sh sl th tl : Byte) :
    doLineInit [a, r, sh, sl, th, tl, m] s = (s, .badParam) := by
  by_cases ha : 7 < a.toNat
  · exact withUnit_bad ha
  · have hlt : a.toNat < 8 := by omega
    exact (doLineInit_eq (l := ⟨a.toNat, hlt⟩) rfl r sh sl th tl m).trans (if_pos (h.resolve_left ha))

/-- The result of LINE INIT: CLAMPED when spacing or timeout was brought into its range (05 R89). -/
theorem lineInit_result (sp ti : Nat) :
    clampResult (clampNat 20 1000 sp != sp || clampNat 5 500 ti != ti) =
      okOrClamped (!(20 ≤ sp && sp ≤ 1000 && 5 ≤ ti && ti ≤ 500)) := by
  rw [clampNat_bne (by decide), clampNat_bne (by decide), ← Bool.not_and, ← Bool.and_assoc]
  rfl

/-! ## CLEAR LINE ERRORS -/

theorem doClearLineErrors_badParam {s : State} {a : Byte} (ha : 7 < a.toNat) : doClearLineErrors [a] s = (s, .badParam) :=
  withUnit_bad ha

theorem doClearLineErrors_eq {s : State} {l : Fin 8} {a : Byte} (ha : a.toNat = l.val) :
    doClearLineErrors [a] s = (s.modLine l Line.clearErrors, .ok) :=
  withUnit_unit (u := l) ha

/-! ## STOP LINE -/

theorem doStopLine_badParam {s : State} {a : Byte} (ha : 7 < a.toNat) : doStopLine [a] s = (s, .badParam) :=
  withUnit_bad ha

theorem doLineReset_badParam {s : State} {a : Byte} (ha : 7 < a.toNat) : doLineReset [a] s = (s, .badParam) :=
  withUnit_bad ha

/-- STOP LINE with an exchange under way sets stop pending (05 R91). -/
theorem State.stopLine_pends {s : State} {l : Fin 8} {x : Line} (hx : s.lines[l] = x)
    (hst : x.state = .polling ∨ x.state = .loopback)
    (hp : x.phase = .sending ∨ x.phase = .awaiting ∨ x.phase = .receiving) :
    s.stopLine l = { s with lines := s.lines.set l { x with stop := true } } := by
  subst hx
  refine (if_pos ⟨?_, hp.imp_right Line.inExchange_of⟩).trans (State.modLine_eq rfl _)
  rcases hst with h | h <;> rw [h] <;> decide

/-- Settles O40. -/
theorem lineInitClearStop : Obligations.LineInitClearStop := by
  refine ⟨fun s a r sh sl th tl m h => ⟨fun hbad => ?_, fun ha => ?_, ?_⟩,
    fun s a h => ⟨fun ha => ⟨?_, ?_⟩, ?_⟩⟩
  · refine congrArg Host.Outcome.next ((State.send_lineInit h a r sh sl th tl m).trans ?_)
    exact State.finishWhole_refused h.2.2 (doLineInit_badParam hbad sh sl th tl)
  · exact congrArg _ (exec_one_refused h .clearLineErrors a false (doClearLineErrors_badParam ha))
  · rintro l x sp ti ha rfl rfl rfl
    have hdo := doLineInit_eq (s := s.acting .lineInit 6 [a, r, sh, sl, th, tl]) ha r sh sl th tl m
    refine ⟨fun hr hm => ⟨fun hdown hready => ?_, fun hst => ?_⟩, ?_⟩
    · rw [if_neg (by omega), if_neg (not_or.mpr ⟨hdown, hready⟩)] at hdo
      refine congrArg Host.Outcome.next ((State.send_lineInit h a r sh sl th tl m).trans ?_)
      exact State.finishWhole_refused h.2.2 hdo
    · rw [if_neg (by omega), if_pos hst] at hdo
      refine congrArg Host.Outcome.next ((State.send_lineInit h a r sh sl th tl m).trans ?_)
      rw [← lineInit_result]
      exact (State.finishWhole_act (c := .lineInit) (pos := 6) (held := [a, r, sh, sl, th, tl]) hdo).trans
        (State.finish_of_settled h.2.2)
    · exact congrArg _ ((exec_one_act h .clearLineErrors a false
        (doClearLineErrors_eq (s := s.acting .clearLineErrors 0 []) ha)).trans (State.finish_of_settled h.2.2))
  · exact congrArg _ (exec_one_refused h .stopLine a false (doStopLine_badParam ha))
  · exact congrArg _ (exec_one_refused h .lineReset a false (doLineReset_badParam ha))
  · rintro l x ha hx
    have hdo := doStopLine_eq (s := s.acting .stopLine 0 []) ha
    refine ⟨fun hst => ?_, fun hst hp => ?_, fun hst hp hstop haddr m n => ?_, fun hno => ?_⟩
    · exact congrArg _ (exec_one_refused h .stopLine a false (hdo.trans (if_pos (hx ▸ hst))))
    · rw [State.stopLine_pends (s := s.acting .stopLine 0 []) hx.symm hst hp, if_neg ?_] at hdo
      · exact congrArg _ ((exec_one_act h .stopLine a false hdo).trans (State.finish_of_settled h.2.2))
      · rw [show (s.acting .stopLine 0 []).lines[l] = x from hx.symm]
        rcases hst with k | k <;> rw [k] <;> decide
    · obtain ⟨-, -, -, hecho⟩ := pollSentActs s l x (some (pollFrame l x.polled m n)) h.2.2 hx
      exact (hecho hp hst haddr _ (if_pos hstop).symm).1 m n rfl
    · refine congrArg Host.Outcome.next (if_neg ?_)
      rw [← hx]
      rintro ⟨h1, h2⟩
      exact hno.elim (absurd h1) (absurd h2)

end Sys2Proof.Machine
end

section
/-! PROOFS. The receiver apart from the end of an exchange (O50). -/

namespace Sys2Proof.Machine

/-! ## Frames outside an exchange -/

/-- A good frame outside an exchange, counted as late or as a stray (05 R102). -/
def Line.counts (x : Line) (l : Fin 8) (bytes : List Byte) : Line :=
  if arg bytes 2 = 0x32 ∧ arg bytes 3 = l.val then { x with lateCount := satSucc 65535 x.lateCount }
  else { x with strayCount := satSucc 65535 x.strayCount }

theorem Line.counts_late {x : Line} {l : Fin 8} {bytes : List Byte} (h2 : arg bytes 2 = 0x32) (h3 : arg bytes 3 = l.val) :
    x.counts l bytes = { x with lateCount := satSucc 65535 x.lateCount } :=
  if_pos ⟨h2, h3⟩

theorem Line.counts_stray {x : Line} {l : Fin 8} {bytes : List Byte} (h : arg bytes 2 ≠ 0x32 ∨ arg bytes 3 ≠ l.val) :
    x.counts l bytes = { x with strayCount := satSucc 65535 x.strayCount } :=
  if_neg (not_and_or.mpr h)

theorem Line.counts_assembling (x : Line) (l : Fin 8) (bytes : List Byte) (b : Bool) :
    ({ x with assembling := b } : Line).counts l bytes = { x.counts l bytes with assembling := b } := by
  unfold Line.counts
  split <;> rfl

theorem Line.not_inExchange {x : Line} (hp : x.phase = .none ∨ x.phase = .spacing) : x.inExchange = false := by
  rcases hp with h | h <;> rw [Line.inExchange, h] <;> rfl

theorem Line.hears_outside {x : Line} (hpoll : x.state = .polling) (hp : x.phase = .none ∨ x.phase = .spacing) :
    x.hears = true := by
  rcases hp with h | h <;> rw [Line.hears, hpoll, h] <;> rfl

section outside
variable {s : State} {l : Fin 8} {x : Line} (hx : s.lines[l] = x) (hp : x.phase = .none ∨ x.phase = .spacing)
include hx hp

/-- A frame breaks outside an exchange (05 R99). -/
theorem State.frameBreaks_outside : s.frameBreaks l = ({ s with lines := s.lines.set l { x with
    assembling := false, brokenCount := satSucc 65535 x.brokenCount } } : State).selectIfDue l := by
  unfold State.frameBreaks
  rw [State.modLine_eq hx, hx, if_neg (Bool.eq_false_iff.mp (Line.not_inExchange hp))]

variable (hpoll : x.state = .polling) {bytes : List Byte} (hframe : completeFrame bytes = true)
include hpoll hframe

/-- A good frame outside an exchange (05 R102). -/
theorem State.frameIn_outside (hcrc : crcGood bytes = true) : s.frameIn l bytes =
    ({ s with lines := s.lines.set l { x.counts l bytes with assembling := false } } : State).selectIfDue l := by
  unfold State.frameIn
  rw [State.modLine_eq hx, hx, Line.hears_outside hpoll hp, hframe, if_pos (by rfl), hcrc]
  refine (if_neg (Bool.eq_false_iff.mp (Line.not_inExchange hp))).trans ?_
  rw [← Line.counts_assembling]
  exact congrArg (fun t : State => t.selectIfDue l) (State.modLine_set ..)

/-- A frame that fails its CRC outside an exchange (05 R102, R103). -/
theorem State.frameIn_outside_badCrc (hcrc : crcGood bytes = false) : s.frameIn l bytes = ({ s with
    lines := s.lines.set l { x with assembling := false, crcCount := satSucc 65535 x.crcCount, latch := true }
    att := if x.latch then s.att else s.att.raiseUnit .crcLatched l } : State).selectIfDue l := by
  unfold State.frameIn
  rw [State.modLine_eq hx, hx, Line.hears_outside hpoll hp, hframe, if_pos (by rfl), hcrc]
  refine (if_pos rfl).trans ?_
  unfold State.crcFailure
  rw [State.modLine_set, State.setLatch_set, State.lines_set_self]
  exact if_neg (Bool.eq_false_iff.mp (Line.not_inExchange hp))

end outside

/-! ## The selection that waited -/

theorem State.selectIfDue_set {s : State} {l : Fin 8} {z : Line} (hdue : z.due = false) :
    ({ s with lines := s.lines.set l z } : State).selectIfDue l = { s with lines := s.lines.set l z } :=
  if_neg (by rw [State.lines_set_self, hdue]; decide)

/-- The selection of a POLLING line does not ask for its phase, its spacing timer or the wait (05 R94). -/
theorem State.select_set {s : State} {l : Fin 8} {z : Line} (hpoll : z.state = .polling) :
    ({ s with lines := s.lines.set l z } : State).select l =
      ({ s with lines := s.lines.set l { z with phase := .spacing, due := false, spaceLeft := 0 } } : State).select l := by
  rw [State.select_polling (by rw [State.lines_set_self]; exact hpoll),
    State.select_polling (by rw [State.lines_set_self]; exact hpoll)]
  unfold State.selectPolling
  rw [State.lines_set_self, State.lines_set_self, State.modLine_set, State.modLine_set]
  have hpollDrop (d : Drop) (wrap : Bool) : ({ s with lines := s.lines.set l z } : State).pollDrop l d wrap =
      ({ s with lines := s.lines.set l { z with phase := .spacing, due := false, spaceLeft := 0 } } :
        State).pollDrop l d wrap := by
    rw [State.pollDrop_eq (State.lines_set_self ..), State.pollDrop_eq (State.lines_set_self ..), Vector.set_set,
      Vector.set_set]
    rfl
  simp only [hpollDrop]
  rfl

/-- The end of the frame that a selection waited for makes it, as the end of a poll spacing would (05 R94, R98). -/
theorem State.selectIfDue_finish {s : State} {l : Fin 8} {z : Line} (hpoll : z.state = .polling) (hdue : z.due = true)
    (hasm : z.assembling = false) :
    Host.Outcome.next (({ s with lines := s.lines.set l z } : State).selectIfDue l).finish =
      exec (.pollSpacingExpiry l) { s with lines := s.lines.set l { z with phase := .spacing, due := false } } := by
  have hself := State.lines_set_self s l { z with phase := .spacing, due := false }
  rw [exec_pollSpacingExpiry (by rw [hself]), State.selecting_selects hself hasm, State.selecting_eq hself,
    Vector.set_set]
  refine congrArg (fun t : State => Host.Outcome.next t.finish) ?_
  exact (if_pos (by rw [State.lines_set_self]; exact hdue)).trans (State.select_set hpoll)

/-- Settles O50. -/
theorem framesOutsideExchangeCount : Obligations.FramesOutsideExchangeCount := by
  refine ⟨fun s l x bytes hset hx => ⟨fun hdeaf => ?_, fun h1 h2 => ?_, fun hp => ?_, fun hpoll hsend => ?_⟩, ?_⟩
  · have hears : s.lines[l].hears = false := by
      rw [← hx, Line.hears]
      rcases hdeaf with h | h <;> simp [h]
    have hno : ¬ s.lines[l].hears = true := Bool.eq_false_iff.mp hears
    have hnot (b : Bool) : ¬ (s.lines[l].hears && b) = true := by rw [hears, Bool.false_and]; decide
    refine ⟨congrArg _ (if_neg (hnot _)), ?_, congrArg _ (if_neg hno), congrArg _ (if_neg (hnot _))⟩
    exact congrArg Host.Outcome.next ((congrArg State.finish (if_neg (hnot _))).trans (State.finish_of_settled hset))
  · refine congrArg Host.Outcome.next ?_
    rw [State.responseExpires, ← hx]
    cases hp : x.phase
    case awaiting => exact absurd hp h1
    case receiving => exact absurd hp h2
    all_goals exact State.finish_of_settled hset
  · refine congrArg Host.Outcome.next ?_
    rw [State.responseExpires, State.modLine_eq hx.symm, ← hx, hp]
    exact State.finish_of_settled hset
  · have hhears : s.lines[l].hears = true := by
      rw [← hx, Line.hears, hpoll]
      exact bne_iff_ne.mpr hsend
    refine ⟨fun hasm => ?_, fun hasm => ?_, fun hframe hcrc hp hresp hno => ?_, fun hp hdue => ?_⟩
    · refine congrArg Host.Outcome.next ((if_pos (by rw [hhears, ← hx, hasm]; rfl)).trans ?_)
      rw [State.modLine_eq hx.symm]
      exact State.finish_of_settled hset
    · exact congrArg Host.Outcome.next (if_neg (by rw [hhears, ← hx, hasm]; decide))
    · have hrep : ¬ isReportOf l x.polled bytes = true := by
        rw [isReportOf_iff]
        tauto
      refine congrArg Host.Outcome.next ((congrArg State.finish ?_).trans (State.finish_of_settled hset))
      rw [State.frameIn_exchange hx.symm hp hpoll hframe]
      dsimp only
      rw [if_pos hcrc, if_neg hrep]
      unfold State.strayInExchange
      rw [State.modLine_set, State.lines_set_self]
      exact (if_pos hresp).trans (State.modLine_set ..)
    · have hbreaks : (s.frameBreaks l).finish = { s with lines := s.lines.set l { x with
          assembling := false, brokenCount := satSucc 65535 x.brokenCount } } := by
        refine (congrArg State.finish ?_).trans (State.finish_of_settled hset)
        exact (State.frameBreaks_outside hx.symm hp).trans (State.selectIfDue_set hdue)
      refine ⟨fun hframe hcrc h2 h3 => ?_, fun hframe hcrc hno => ?_, fun hframe hcrc => ?_, ?_, ?_⟩
      · refine congrArg Host.Outcome.next ((congrArg State.finish ?_).trans (State.finish_of_settled hset))
        rw [State.frameIn_outside hx.symm hp hpoll hframe hcrc, Line.counts_late h2 h3]
        exact State.selectIfDue_set hdue
      · refine congrArg Host.Outcome.next ((congrArg State.finish ?_).trans (State.finish_of_settled hset))
        rw [State.frameIn_outside hx.symm hp hpoll hframe hcrc, Line.counts_stray hno]
        exact State.selectIfDue_set hdue
      · refine congrArg Host.Outcome.next ((congrArg State.finish ?_).trans (State.finish_of_quiet hset.1))
        rw [State.frameIn_outside_badCrc hx.symm hp hpoll hframe hcrc]
        exact State.selectIfDue_set
          (s := { s with att := if x.latch then s.att else s.att.raiseUnit .crcLatched l }) hdue
      · exact congrArg Host.Outcome.next ((if_pos hhears).trans hbreaks)
      · refine congrArg Host.Outcome.next ?_
        rw [hhears, Bool.true_and, ← hx]
        cases x.assembling with
        | true => exact hbreaks
        | false =>
          rw [hx]
          exact congrArg (fun v => ({ s with lines := v } : State)) (set_self_fin s.lines l).symm
  · rintro s i l x y bytes att hset hx hpoll hp hdue hasm hcase
    have hmade {u : State} {z : Line} (hz : u = { s with att := att, lines := s.lines.set l z })
        (hzy : z = { y with assembling := false }) (hy : y.state = .polling ∧ y.due = true)
        (hexec : exec i s = .next (u.selectIfDue l).finish) : exec i s = exec (.pollSpacingExpiry l) { s with
          att := att, lines := s.lines.set l { y with phase := .spacing, assembling := false, due := false } } := by
      rw [hexec, hz, hzy]
      exact State.selectIfDue_finish (s := { s with att := att }) hy.1 hy.2 rfl
    have hbreaks := State.frameBreaks_outside hx.symm hp
    have hhears : s.lines[l].hears = true := hx ▸ Line.hears_outside hpoll hp
    rcases hcase with ⟨rfl, hframe, ⟨hcrc, rfl, hy⟩ | ⟨hcrc, rfl, rfl⟩⟩ | ⟨hi, rfl, rfl⟩
    · have hy' : y = x.counts l bytes := hy
      have hin := State.frameIn_outside hx.symm hp hpoll hframe hcrc
      refine hmade rfl (by rw [hy']) ?_ (congrArg (fun t : State => Host.Outcome.next t.finish) hin)
      rw [hy', Line.counts]
      split <;> exact ⟨hpoll, hdue⟩
    · have hin := State.frameIn_outside_badCrc hx.symm hp hpoll hframe hcrc
      exact hmade rfl rfl ⟨hpoll, hdue⟩ (congrArg (fun t : State => Host.Outcome.next t.finish) hin)
    · refine hmade rfl rfl ⟨hpoll, hdue⟩ (Eq.trans ?_ (congrArg (fun t : State => Host.Outcome.next t.finish) hbreaks))
      rcases hi with rfl | rfl
      · exact congrArg _ (if_pos hhears)
      · exact congrArg _ (if_pos (by rw [hhears, ← hx, hasm]; rfl))

end Sys2Proof.Machine
end

section
/-! PROOFS. The ends of an exchange by a miss, in any event and at any count of bad ones (O47, O49). -/

namespace Sys2Proof.Machine

/-! ## The events -/

/-- The misses by which an event ends an exchange of a POLLING line: the line it leaves, the poll spacing aside, whether
it counts as a bad end, and what it raises (05 R96, R97, R99, R100, R101). -/
inductive State.Misses (s : State) (l : Fin 8) (x : Line) : Instr → Line → Bool → Attention → Prop
  | timeout (hp : x.phase = .awaiting) : s.Misses l x (.responseTimeout l) { x with respLeft := 0 } false s.att
  | broken {i : Instr} (hi : i = .brokenFrame l ∨ (i = .gapLimitExpiry l ∧ x.assembling = true))
      (hp : x.phase = .awaiting ∨ x.phase = .receiving) :
      s.Misses l x i { x with assembling := false, brokenCount := satSucc 65535 x.brokenCount } true s.att
  | badCrc {bytes : List Byte} (hp : x.phase = .awaiting ∨ x.phase = .receiving) (hframe : completeFrame bytes = true)
      (hcrc : crcGood bytes = false) :
      s.Misses l x (.frameReceived l bytes) { x with
        assembling := false, crcCount := satSucc 65535 x.crcCount, latch := true } true
        (if x.latch then s.att else s.att.raiseUnit .crcLatched l)
  | stray {bytes : List Byte} (hp : x.phase = .awaiting ∨ x.phase = .receiving) (hframe : completeFrame bytes = true)
      (hcrc : crcGood bytes = true) (hresp : x.respLeft = 0)
      (hno : arg bytes 1 ≠ 13 ∨ arg bytes 2 ≠ 0x32 ∨ arg bytes 3 ≠ l.val ∨ arg bytes 4 ≠ x.polled) :
      s.Misses l x (.frameReceived l bytes) { x with
        assembling := false, strayCount := satSucc 65535 x.strayCount } false s.att

/-- Each of them ends the exchange with a miss. -/
theorem State.Misses.exec_eq {s : State} {l : Fin 8} {x z : Line} {i : Instr} {spoiled : Bool} {att : Attention}
    (hx : s.lines[l] = x) (hpoll : x.state = .polling) (h : s.Misses l x i z spoiled att) :
    exec i s = .next (({ s with att := att, lines := s.lines.set l z } : State).endMiss l spoiled).finish := by
  cases h with
  | timeout hp =>
    refine congrArg (fun t : State => Host.Outcome.next t.finish) ?_
    rw [State.responseExpires, State.modLine_eq hx, hx, hp]
  | broken hi hp =>
    have hbreaks : s.frameBreaks l = ({ s with lines := s.lines.set l { x with
        assembling := false, brokenCount := satSucc 65535 x.brokenCount } } : State).endMiss l true := by
      unfold State.frameBreaks
      rw [State.modLine_eq hx, hx, if_pos (Line.inExchange_of hp)]
    have hhears : s.lines[l].hears = true := hx ▸ Line.hears_of hpoll hp
    refine Eq.trans ?_ (congrArg (fun t : State => Host.Outcome.next t.finish) hbreaks)
    rcases hi with rfl | ⟨rfl, hasm⟩
    · exact congrArg _ (if_pos hhears)
    · exact congrArg _ (if_pos (by rw [hhears, hx, hasm]; rfl))
  | @badCrc bytes hp hframe hcrc =>
    refine congrArg (fun t : State => Host.Outcome.next t.finish) ?_
    rw [State.frameIn_exchange hx hp hpoll hframe]
    dsimp only
    rw [if_neg (Bool.eq_false_iff.mp hcrc)]
    unfold State.crcFailure
    rw [State.modLine_set, State.setLatch_set, State.lines_set_self]
    exact if_pos (Line.inExchange_of hp)
  | @stray bytes hp hframe hcrc hresp hno =>
    have hrep : ¬ isReportOf l x.polled bytes = true := by
      rw [isReportOf_iff]
      tauto
    refine congrArg (fun t : State => Host.Outcome.next t.finish) ?_
    rw [State.frameIn_exchange hx hp hpoll hframe]
    dsimp only
    rw [if_pos hcrc, if_neg hrep]
    unfold State.strayInExchange
    rw [State.modLine_set, State.lines_set_self]
    exact if_neg (by rw [hresp]; exact Nat.lt_irrefl 0)

/-! ## What the miss does to its drop -/

section
variable {s : State} {d : Drop} {ds : List Drop}

/-- A miss that leaves the state of its drop (06 R123). -/
theorem State.takeMiss_counts (hfind : s.findDrop d.line d.addr = some d) (hst : s.conns[d.conn].state ≠ .retiring)
    (hno : d.state ≠ .live ∨ d.missed ≠ 2)
    (hds : ds = s.drops.map (fun e => if e.line = d.line ∧ e.addr = d.addr
      then { e with missed := min 255 (e.missed + 1) } else e)) : s.takeMiss d.line d.addr = { s with drops := ds } := by
  unfold State.takeMiss State.countMiss
  rw [hfind]
  dsimp only
  rw [if_neg hst, if_neg (by unfold satSucc; rintro ⟨h1, h2⟩; rcases hno with h | h <;> [exact h h1; omega]),
    State.modDrop_eq, hds]
  rfl

/-- The third miss of a LIVE drop (06 R123). -/
theorem State.takeMiss_silences {demand : Nat} (hfind : s.findDrop d.line d.addr = some d)
    (hc : s.conns[d.conn].refuses = false) (hlive : d.state = .live) (h2 : d.missed = 2)
    (hds : ds = s.drops.map (fun e => if e.line = d.line ∧ e.addr = d.addr
      then { e with missed := min 255 (e.missed + 1), state := .silent } else e))
    (hdemand : demand = min 65535 ((ds.filter (fun e => e.conn = d.conn ∧ e.state = .live)).map (·.demand)).sum) :
    s.takeMiss d.line d.addr =
      let t := s.freshened d.conn ds demand s.conns[d.conn].state
      if s.conns[d.conn].state = .active ∨ s.conns[d.conn].state = .suspended then t.gainCause d.conn .comms else t := by
  have hnot : s.conns[d.conn].state ≠ .retiring := fun k => by
    rw [Conn.refuses, k] at hc
    cases hc
  have hbase : (s.modDrop d.line d.addr (fun e => { e with missed := satSucc 255 e.missed })).dropBecomes d.line d.addr
      d.conn .silent = { s with drops := ds, att := (s.att.raise .stateChanged).enter d.conn } := by
    have htwice := hds.trans (map_place_map s.drops d.line d.addr (f := fun e => { e with missed := satSucc 255 e.missed })
      (fun e => { e with state := .silent }) (fun _ => rfl) (fun _ => rfl)).symm
    rw [htwice, ← map_place_beq, ← map_place_beq]
    rfl
  have hrec : ((s.modDrop d.line d.addr (fun e => { e with missed := satSucc 255 e.missed })).dropBecomes d.line d.addr
      d.conn .silent).recompute d.conn s.conns[d.conn].state = s.freshened d.conn ds demand s.conns[d.conn].state := by
    rw [hbase]
    refine (State.recompute_eq (s := { s with drops := ds, att := (s.att.raise .stateChanged).enter d.conn }) hc _).trans ?_
    exact congrArg (fun n => s.freshened d.conn ds n s.conns[d.conn].state)
      ((State.liveDemand_eq _ _).trans hdemand.symm)
  unfold State.takeMiss State.countMiss
  rw [hfind]
  dsimp only
  rw [if_neg hnot, if_pos ⟨hlive, by rw [h2]; rfl⟩, hrec]

end

/-! ## What handing on a report or a miss leaves alone -/

/-- What the effects of a report or a miss on connection `id` leave of a state whose slots hold it already: the records
of the others, the line of its own, and all of the slots but the shares of its own. A connection that counts as served
goes on so, does not become PENDING, and from ACTIVE leaves only with a pass wanted (01 R13, R14, R18). -/
structure State.HandedOn (id : Fin 96) (s v : State) : Prop where
  others : ∀ j : Fin 96, j ≠ id → v.conns[j] = s.conns[j]
  line : v.conns[id].line = s.conns[id].line
  serves : v.conns[id].refuses = false
  pending : v.conns[id].state = .pending → s.conns[id].state = .pending
  active : s.conns[id].state = .active → v.conns[id].state = .active ∨ v.urgent = true
  urgent : s.urgent = true → v.urgent = true
  drops : ∃ share : Drop → Nat, v.drops = s.drops.map (fun e => { e with share := share e }) ∧
    ∀ e, e.conn ≠ id → share e = e.share
  apart : v.lines = s.lines ∧ v.branches = s.branches ∧ v.drives = s.drives ∧ v.port = s.port ∧ v.pending = s.pending

namespace State.HandedOn

variable {id : Fin 96} {s t v : State}

theorem refl (h : s.conns[id].refuses = false) : s.HandedOn id s where
  others _ _ := rfl
  line := rfl
  serves := h
  pending h := h
  active := .inl
  urgent h := h
  drops := ⟨Drop.share, (List.map_id' _).symm, fun _ _ => rfl⟩
  apart := ⟨rfl, rfl, rfl, rfl, rfl⟩

theorem trans (h : s.HandedOn id t) (k : t.HandedOn id v) : s.HandedOn id v where
  others j hj := (k.others j hj).trans (h.others j hj)
  line := k.line.trans h.line
  serves := k.serves
  pending hp := h.pending (k.pending hp)
  active ha := (h.active ha).elim k.active fun hu => .inr (k.urgent hu)
  urgent hu := k.urgent (h.urgent hu)
  drops := by
    obtain ⟨f, hf, hfo⟩ := h.drops
    obtain ⟨g, hg, hgo⟩ := k.drops
    refine ⟨fun e => g { e with share := f e }, by rw [hg, hf, List.map_map]; rfl, fun e he => ?_⟩
    exact (hgo { e with share := f e } he).trans (hfo e he)
  apart := by
    obtain ⟨h1, h2, h3, h4, h5⟩ := h.apart
    obtain ⟨k1, k2, k3, k4, k5⟩ := k.apart
    exact ⟨k1.trans h1, k2.trans h2, k3.trans h3, k4.trans h4, k5.trans h5⟩

/-- The line of the connection goes on as it is. -/
theorem polls (h : s.HandedOn id v) {st : LineState} (hst : s.lines[s.conns[id].line].state = st) :
    v.lines[v.conns[id].line].state = st := by
  simp only [h.line, h.apart.1, hst]

/-- A connection in service stays so, on its line. -/
theorem stays (h : s.HandedOn id v) {j : Fin 96} (hst : s.conns[j].state = .active ∨ s.conns[j].state = .suspended) :
    v.conns[j].line = s.conns[j].line ∧ (v.conns[j].state = .active ∨ v.conns[j].state = .suspended) := by
  by_cases hj : j = id
  · subst hj
    have hne : v.conns[j].state ≠ .pending := fun k => by
      have hp := h.pending k
      rcases hst with hs | hs <;> rw [hs] at hp <;> cases hp
    exact ⟨h.line, (Conn.refuses_eq_false_iff.mp h.serves).resolve_left hne⟩
  · rw [h.others j hj]
    exact ⟨rfl, hst⟩

/-- A state that differs in the record of the connection, in what is reported and in the engine. -/
theorem of_set {c : Conn}
    (hv : v = { s with conns := s.conns.set id c, engine := v.engine, att := v.att, urgent := v.urgent })
    (hline : c.line = s.conns[id].line) (hserves : c.refuses = false)
    (hst : c.state = s.conns[id].state ∨ (c.state ≠ .pending ∧ v.urgent = true))
    (hurgent : s.urgent = true → v.urgent = true) : s.HandedOn id v := by
  have hself : v.conns[id] = c := by rw [hv, getElem_set_fin, if_pos rfl]
  refine ⟨fun j hj => ?_, by rw [hself, hline], by rw [hself, hserves], fun hp => ?_, fun ha => ?_, hurgent,
    ⟨Drop.share, by rw [hv]; exact (List.map_id' _).symm, fun _ _ => rfl⟩, by rw [hv]; exact ⟨rfl, rfl, rfl, rfl, rfl⟩⟩
  · rw [hv, getElem_set_fin, if_neg (Ne.symm hj)]
  · rw [hself] at hp
    exact hst.elim (fun h => h ▸ hp) fun h => absurd hp h.1
  · rw [hself]
    exact hst.imp (fun h => h.trans ha) And.right

/-! ## The effects in turn -/

section
variable (hc : s.conns[id].refuses = false)
include hc

theorem gainCause (cause : SuspendCause) (hcause : cause ≠ .supervisor) : s.HandedOn id (s.gainCause id cause) := by
  cases hst : s.conns[id].state with
  | active =>
    rw [State.gainCause_active _ _ _ hst, State.enterSuspended_eq _ _ hcause]
    exact of_set rfl (by cases cause <;> rfl) rfl (.inr ⟨nofun, rfl⟩) fun _ => rfl
  | suspended =>
    rw [State.gainCause_suspended _ _ _ hst]
    have hadd : (s.conns[id].addCause cause).state = s.conns[id].state := by cases cause <;> rfl
    exact of_set rfl (by cases cause <;> rfl) (by rw [Conn.refuses, hadd, hst]; rfl) (.inl hadd) fun h => h
  | pending | vacant | retiring =>
    rw [State.gainCause_other _ _ _ (by rw [hst]; decide) (by rw [hst]; decide)]
    exact refl hc

theorem stands (score : Nat) (low : Bool) : s.HandedOn id (s.stands id score low) :=
  of_set rfl rfl hc (.inl rfl) fun h => h

theorem testComms : s.HandedOn id (s.testComms id) := by
  by_cases hst : s.conns[id].state = .suspended
  · by_cases hsilent : ∃ d ∈ s.drops, d.conn = id ∧ d.state = .silent
    · rw [State.testComms_silent hsilent]
      exact refl hc
    · rw [State.testComms_none fun d hd hdc hds => hsilent ⟨d, hd, hdc, hds⟩]
      cases hno : (s.conns[id].dropCause .comms).noCause with
      | false =>
        rw [State.loseCause_left hst hno]
        exact of_set rfl rfl hc (.inl rfl) fun h => h
      | true =>
        rw [State.loseCause_last hst hno]
        exact of_set rfl rfl rfl (.inr ⟨nofun, rfl⟩) fun _ => rfl
  · rw [State.testComms_other hst]
    exact refl hc

theorem testService (hpoll : s.lines[s.conns[id].line].state = .polling) : s.HandedOn id (s.testService id) := by
  by_cases hready : s.conns[id].state = .pending ∧ serviceReady (s.dropsOf id) = true
  · rw [State.testService_ready hready.1 hready.2, State.enterActive_polling hpoll]
    have hset : s.HandedOn id (State.wantPass { s with
        conns := s.conns.set id s.conns[id].inService, att := (s.att.raise .stateChanged).enter id }) :=
      of_set rfl rfl rfl (.inr ⟨nofun, rfl⟩) fun _ => rfl
    refine { hset with drops := ⟨fun e => if e.conn = id then 0 else e.share, ?_, fun e he => if_neg he⟩ }
    refine List.map_congr_left fun e _ => ?_
    by_cases he : e.conn = id
    · simp only [if_pos he]
    · simp only [if_neg he]
  · rw [show s.testService id = s from if_neg hready]
    exact refl hc

/-- The demand recomputed and its drop's change reported, the slots having changed already. -/
theorem freshened (ds : List Drop) (demand : Nat) (noted : ConnState) :
    ({ s with drops := ds } : State).HandedOn id (s.freshened id ds demand noted) :=
  of_set rfl rfl hc (.inl rfl) fun h => h

theorem measured (ds : List Drop) (demand : Nat) (noted : ConnState) :
    ({ s with drops := ds } : State).HandedOn id (s.measured id ds demand noted) :=
  of_set rfl rfl hc (.inl rfl) fun h => h

end

theorem scoreReport (hc : s.conns[id].refuses = false) (r : Report) : s.HandedOn id (s.scoreReport id r) := by
  rw [State.scoreReport_eq rfl rfl rfl]
  exact stands hc _ _

end State.HandedOn

/-! ## A report and a miss handed on -/

/-- The slots with the one at a drop's place changed. -/
def dropsAt (ds : List Drop) (d : Drop) (f : Drop → Drop) : List Drop :=
  ds.map (fun e => if e.line = d.line ∧ e.addr = d.addr then f e else e)

section
variable {s : State} {d : Drop} (hfind : s.findDrop d.line d.addr = some d) (hc : s.conns[d.conn].refuses = false)
include hfind hc

/-- A miss (06 R123). -/
theorem State.takeMiss_handedOn : ∃ st : Drop → DropState, State.HandedOn d.conn
    { s with drops := dropsAt s.drops d (fun e => { e with missed := min 255 (e.missed + 1), state := st e }) }
    (s.takeMiss d.line d.addr) := by
  have hnot : s.conns[d.conn].state ≠ .retiring := fun k => by
    rw [Conn.refuses, k] at hc
    cases hc
  by_cases hthird : d.state = .live ∧ d.missed = 2
  · refine ⟨fun _ => .silent, ?_⟩
    rw [State.takeMiss_silences hfind hc hthird.1 hthird.2 rfl rfl]
    have hfresh := State.HandedOn.freshened hc
      (dropsAt s.drops d (fun e => { e with missed := min 255 (e.missed + 1), state := .silent }))
    dsimp only
    split
    · exact (hfresh _ _).trans (.gainCause (hfresh _ _).serves .comms (by decide))
    · exact hfresh _ _
  · refine ⟨Drop.state, ?_⟩
    rw [State.takeMiss_counts hfind hnot (not_and_or.mp hthird) rfl]
    exact .refl hc

/-- A valid report (06 R117). -/
theorem State.takeReport_handedOn (hpoll : s.lines[s.conns[d.conn].line].state = .polling) (r : Report) :
    ∃ st : Drop → DropState, st d = .live ∧
      State.HandedOn d.conn { s with drops := dropsAt s.drops d (fun e => { e.store r with state := st e }) }
        (s.takeReport d.line d.addr r) := by
  by_cases hlive : d.state = .live
  · refine ⟨Drop.state, hlive, ?_⟩
    rw [State.takeReport_live hfind hc hlive rfl rfl]
    have hmeas := State.HandedOn.measured hc (dropsAt s.drops d (fun e => e.store r))
    dsimp only
    split
    · exact (hmeas _ _).trans (.scoreReport (hmeas _ _).serves r)
    · exact hmeas _ _
  · refine ⟨fun _ => .live, rfl, ?_⟩
    rw [State.takeReport_fresh hfind hc hlive rfl rfl]
    have hfresh := State.HandedOn.freshened hc (dropsAt s.drops d (fun e => { e.store r with state := .live }))
    dsimp only
    split
    · exact (hfresh _ _).trans (.scoreReport (hfresh _ _).serves r)
    · split
      · exact (hfresh _ _).trans (.testService (hfresh _ _).serves ((hfresh _ _).polls hpoll))
      · split
        · exact (hfresh _ _).trans (.testComms (hfresh _ _).serves)
        · exact hfresh _ _

end

end Sys2Proof.Machine
end

section
/-! PROOFS. Misses: the missed count, SILENT and COMMS, and the line fault at eight bad ends (O47). -/

namespace Sys2Proof.Machine

/-! ## A connection whose line goes, to the end of the event -/

/-- A record suspended with LINE among its causes. -/
def Conn.HoldsLine (c : Conn) : Prop := c.state = .suspended ∧ c.lineCause = true

theorem Conn.lineLost_holdsLine {c : Conn} {l : Fin 8} (hold : Nat) (hline : c.line = l)
    (hst : c.state = .active ∨ c.state = .suspended) : (c.lineLost l hold).HoldsLine := by
  unfold Conn.lineLost
  rw [if_pos hline]
  rcases hst with h | h
  · rw [h]
    exact ⟨rfl, rfl⟩
  · rw [h]
    exact ⟨h, rfl⟩

theorem State.left_conn {s : State} {l : Fin 8} (h : s.lines[l].state = .polling) (y : Line) (id : Fin 96) :
    (s.left l y).conns[id] = s.conns[id].lineLost l s.holdSetting := by
  rw [State.left_polling h]
  exact Vector.getElem_map ..

/-- A record at the end of its event: the moved flag and the demand at the snapshot may differ. -/
theorem State.finish_conn (s : State) (id : Fin 96) : s.finish.conns[id] = s.conns[id] ∨
    s.finish.conns[id] = { s.conns[id] with moved := false, demandSnap := s.conns[id].demand } := by
  cases h : s.urgent with
  | false =>
    rw [State.finish_of_quiet h]
    exact .inl rfl
  | true =>
    rw [State.finish_of_urgent h]
    exact State.startOrRerun_conn { s with urgent := false } id

theorem State.finish_holdsLine {s : State} {id : Fin 96} (h : s.conns[id].HoldsLine) : s.finish.conns[id].HoldsLine := by
  rcases s.finish_conn id with k | k <;> rw [k] <;> exact h

theorem State.finish_att (s : State) : s.finish.att = { s.att with atn := s.att.atnDue } := by
  cases h : s.urgent with
  | false => rw [State.finish_of_quiet h]; rfl
  | true =>
    rw [State.finish_of_urgent h]
    exact congrArg (fun a : Attention => { a with atn := a.atnDue }) (State.startOrRerun_att { s with urgent := false })

/-! ## The third miss -/

/-- COMMS gained by an ACTIVE connection whose demand the drop's silence has changed (01 R15, 06 R123). -/
theorem State.freshened_silenced {s : State} {id : Fin 96} (hst : s.conns[id].state = .active) (ds : List Drop)
    (demand : Nat) : (s.freshened id ds demand .active).gainCause id .comms = State.wantPass { s with
      drops := ds
      conns := s.conns.set id (({ s.conns[id] with demand := demand } : Conn).suspendedBy .comms s.holdSetting)
      engine := { s.engine with
        pend := s.engine.pend || s.conns[id].demandMoves demand s.engine.deadband .active
        curtail := s.engine.curtail.filter (fun e => e.id ≠ id) }
      att := (s.att.raise .stateChanged).enter id } := by
  have hself : (s.freshened id ds demand .active).conns[id] = { s.conns[id] with demand := demand } := by
    rw [State.freshened, getElem_set_fin, if_pos rfl]
  rw [State.gainCause_active _ _ _ (by rw [hself]; exact hst), State.enterSuspended_eq _ _ (by decide), hself]
  have hatt : ((s.freshened id ds demand .active).att.raise .stateChanged).enter id =
      (s.att.raise .stateChanged).enter id := Attention.report_twice ..
  rw [hatt]
  exact congrArg (fun v => State.wantPass { s with
      drops := ds
      conns := v
      engine := { s.engine with
        pend := s.engine.pend || s.conns[id].demandMoves demand s.engine.deadband .active
        curtail := s.engine.curtail.filter (fun e => e.id ≠ id) }
      att := (s.att.raise .stateChanged).enter id }) (Vector.set_set ..)

/-- The silence of a drop whose connection is PENDING, or SUSPENDED already, which adds COMMS. -/
theorem State.freshened_comms {s : State} {id : Fin 96}
    (hst : s.conns[id].state = .pending ∨ s.conns[id].state = .suspended)
    (ds : List Drop) (demand : Nat) :
    (if s.conns[id].state = .active ∨ s.conns[id].state = .suspended
      then (s.freshened id ds demand s.conns[id].state).gainCause id .comms
      else s.freshened id ds demand s.conns[id].state) = { s with
        drops := ds
        conns := s.conns.set id { s.conns[id] with
          demand := demand, comms := s.conns[id].comms || s.conns[id].state == .suspended }
        att := (s.att.raise .stateChanged).enter id } := by
  have hne : s.conns[id].state ≠ .active := fun k => by rcases hst with h | h <;> rw [h] at k <;> cases k
  have hquiet : s.freshened id ds demand s.conns[id].state = { s with
      drops := ds
      conns := s.conns.set id { s.conns[id] with demand := demand }
      att := (s.att.raise .stateChanged).enter id } := by
    rw [State.freshened, Conn.demandMoves_other _ _ _ hne, Bool.or_false]
  rw [hquiet]
  rcases hst with h | h
  · rw [if_neg (by rw [h]; decide), h]
    simp only [Bool.or_false, show (ConnState.pending == ConnState.suspended) = false from rfl]
  · rw [if_pos (.inr h), State.gainCause_suspended _ _ _ (by rw [getElem_set_fin, if_pos rfl]; exact h), State.modConn,
      getElem_set_fin, if_pos rfl, Vector.set_set, h]
    simp only [beq_self_eq_true, Bool.or_true]
    rfl

/-! ## The end of an exchange by a miss -/

/-- What follows the miss that has been handed on: the line fault at eight bad ends, or a stop pending (05 R91, R104). -/
theorem State.endMiss_at {s : State} {l : Fin 8} {z y : Line} {spoiled : Bool} {bad : Nat}
    (hbad : (if spoiled then min 8 (z.bad + 1) else 0) = bad) (hy : { z.space with bad := bad } = y) :
    ({ s with lines := s.lines.set l z } : State).endMiss l spoiled =
      let t := ({ s with lines := s.lines.set l y } : State).takeMiss l z.polled
      if bad = 8 then t.lineFaults l else t.takeStop l := by
  unfold State.endMiss
  rw [State.lines_set_self, hbad]
  dsimp only
  rw [State.modLine_set, hy]

/-- A line fault raises its cause with the unit of the line, and no pass or ATN takes that back (05 R104). -/
theorem State.lineFaults_finish_raises (s : State) (l : Fin 8) :
    (s.lineFaults l).finish.att.isPending .lineFaulted = true ∧
      ((s.lineFaults l).finish.att.unitsOf .lineFaulted).getLsbD l.val = true := by
  rw [State.finish_att]
  have hpend : (s.lineFaults l).att.isPending .lineFaulted = true := by
    refine (Attention.raiseUnit_isPending ..).trans ?_
    rw [decide_eq_true rfl, Bool.true_or]
  have hunit : ((s.lineFaults l).att.unitsOf .lineFaulted).getLsbD l.val = true := by
    refine (congrArg (fun u : BitVec 8 => u.getLsbD l.val) (Attention.raiseUnit_unitsOf ..)).trans ?_
    rw [if_pos rfl, BitVec.getLsbD_or, unitBit, decide_eq_true rfl, Bool.or_true]
  exact ⟨hpend, hunit⟩

/-- The line that a line fault leaves, at the end of the event (05 R88, R104). -/
theorem State.lineFaults_finish_lines (s : State) (l : Fin 8) :
    (s.lineFaults l).finish.lines = s.lines.set l (s.lines[l].gone .faulted) :=
  (State.finish_lines _).trans (s.lineGoes_writes l .faulted)

/-- A connection in service is suspended by the fault of its line (05 R93, R105). -/
theorem State.lineFaults_finish_holdsLine {s : State} {l : Fin 8} (hpoll : s.lines[l].state = .polling) {id : Fin 96}
    (hline : s.conns[id].line = l) (hst : s.conns[id].state = .active ∨ s.conns[id].state = .suspended) :
    (s.lineFaults l).finish.conns[id].HoldsLine := by
  refine State.finish_holdsLine ?_
  show (s.left l (s.lines[l].gone .faulted)).conns[id].HoldsLine
  rw [State.left_conn hpoll]
  exact Conn.lineLost_holdsLine _ hline hst

/-- Settles O47. -/
theorem missesSilenceAndFault : Obligations.MissesSilenceAndFault := by
  rintro s i l x y d c bytes att demand ds hset hpool hx hpoll hstop hd rfl haddr rfl hnot hcase hds hdemand u hu
  obtain ⟨spoiled, r, hmiss, hbad, hystate, hystop, hypolled, hyspacing⟩ : ∃ spoiled r,
      s.Misses d.line x i { y with bad := x.bad, respLeft := r } spoiled att ∧
      y.bad = (if spoiled then x.bad + 1 else 0) ∧ y.state = .polling ∧ y.stop = false ∧ y.polled = x.polled ∧
      y.spacing = x.spacing := by
    rcases hcase with ⟨rfl, hp, rfl, rfl⟩ | ⟨hp, ⟨hi, rfl, rfl⟩ | ⟨rfl, hframe, hcrc, rfl, rfl⟩ |
      ⟨rfl, hframe, hcrc, hresp, hno, rfl, rfl⟩⟩
    · exact ⟨false, 0, .timeout hp, rfl, hpoll, hstop, rfl, rfl⟩
    · exact ⟨true, x.respLeft, .broken hi hp, rfl, hpoll, hstop, rfl, rfl⟩
    · exact ⟨true, x.respLeft, .badCrc hp hframe hcrc, rfl, hpoll, hstop, rfl, rfl⟩
    · exact ⟨false, x.respLeft, .stray hp hframe hcrc hresp hno, rfl, hpoll, hstop, rfl, rfl⟩
  have hfind : u.findDrop d.line d.addr = some d := by
    rw [State.findDrop, hu]
    exact State.findDrop_of_mem hpool hd
  have hconns : u.conns = s.conns := by rw [hu]
  have hserves : u.conns[d.conn].refuses = false := by
    rw [hconns, Conn.refuses, beq_eq_false_iff_ne.mpr (hpool.2.2.1 d hd).2.2.1, beq_eq_false_iff_ne.mpr hnot]
    rfl
  have hurgent : u.urgent = false := by rw [hu]; exact hset.1
  have hline : ({ ({ y with bad := x.bad, respLeft := r } : Line).space with bad := y.bad } : Line) =
      { y with phase := .spacing, te := false, respLeft := 0, spaceLeft := x.spacing, cut := false } := by
    rw [Line.space, ← hyspacing]
  have hend (hlt : y.bad ≤ 8) : exec i s = .next (State.finish (if y.bad = 8
      then (u.takeMiss d.line d.addr).lineFaults d.line else (u.takeMiss d.line d.addr).takeStop d.line)) := by
    have hmin : (if spoiled then min 8 (x.bad + 1) else 0) = y.bad := by
      rw [hbad] at hlt ⊢
      cases spoiled with
      | false => rfl
      | true => exact min_eq_right hlt
    rw [hmiss.exec_eq hx.symm hpoll, haddr, ← hypolled, hu]
    exact congrArg (fun t : State => Host.Outcome.next t.finish)
      (State.endMiss_at (s := { s with att := att }) hmin hline)
  have hself : u.lines[d.line] = { y with
      phase := .spacing, te := false, respLeft := 0, spaceLeft := x.spacing, cut := false } := by
    rw [hu, getElem_set_fin, if_pos rfl]
  have htaken : (u.takeMiss d.line d.addr).lines = u.lines := State.takeMiss_lines ..
  have htself : (u.takeMiss d.line d.addr).lines[d.line] = { y with
      phase := .spacing, te := false, respLeft := 0, spaceLeft := x.spacing, cut := false } := by
    rw [htaken, hself]
  refine ⟨fun hlt => ?_, fun height => ?_⟩
  · have hmissed : exec i s = .next (u.takeMiss d.line d.addr).finish := by
      rw [hend hlt.le, if_neg hlt.ne]
      refine congrArg (fun t : State => Host.Outcome.next t.finish) (if_neg ?_)
      rw [htself]
      exact Bool.eq_false_iff.mp hystop
    have hdrops : u.drops = s.drops := by rw [hu]
    have hthird (hlive : d.state = .live) (h2 : d.missed = 2) : exec i s = .next (State.finish
        (if u.conns[d.conn].state = .active ∨ u.conns[d.conn].state = .suspended
          then (u.freshened d.conn ds demand u.conns[d.conn].state).gainCause d.conn .comms
          else u.freshened d.conn ds demand u.conns[d.conn].state)) := by
      have hds' : ds = u.drops.map (fun e => if e.line = d.line ∧ e.addr = d.addr
          then { e with missed := min 255 (e.missed + 1), state := .silent } else e) := by
        simpa only [hlive, h2, and_self, if_true, hdrops] using hds
      rw [hmissed, State.takeMiss_silences hfind hserves hlive h2 hds' hdemand]
    refine ⟨fun hno => ?_, fun hlive h2 => ⟨fun hact => ?_, fun hst => ?_⟩⟩
    · have hds' : ds = u.drops.map (fun e => if e.line = d.line ∧ e.addr = d.addr
          then { e with missed := min 255 (e.missed + 1) } else e) := by
        simpa only [if_neg (not_and_or.mpr hno), hdrops] using hds
      rw [hmissed, State.takeMiss_counts hfind (hconns ▸ hnot) hno hds']
      exact congrArg _ (State.finish_of_quiet hurgent)
    · have hact' : u.conns[d.conn].state = .active := hconns ▸ hact
      have hmoves : s.conns[d.conn].demandMoves demand s.engine.deadband .active =
          decide (demand ≠ s.conns[d.conn].demand ∧ (s.engine.deadband ≤ demand - s.conns[d.conn].demandSnap ∨
            s.engine.deadband ≤ s.conns[d.conn].demandSnap - demand)) := by
        rw [Conn.demandMoves]
        simp only [true_and, demandGap_le_iff]
      rw [hthird hlive h2, if_pos (.inl hact'), hact', State.freshened_silenced hact',
        State.finish_wanted (by exact hurgent), ← hmoves, hu]
      rfl
    · have hst' : u.conns[d.conn].state = .pending ∨ u.conns[d.conn].state = .suspended := hconns ▸ hst
      rw [hthird hlive h2, State.freshened_comms hst', State.finish_of_quiet (by exact hurgent), hu]
  · rw [hend height.le, if_pos height]
    obtain ⟨hpend, hunit⟩ := State.lineFaults_finish_raises (u.takeMiss d.line d.addr) d.line
    refine ⟨_, rfl, hpend, hunit, ?_, fun id hl hact => ?_⟩
    · rw [State.lineFaults_finish_lines, htself, htaken, hu, Vector.set_set, Line.gone, Line.quiet]
      simp only [hystop]
    · obtain ⟨st, hhand⟩ := State.takeMiss_handedOn hfind hserves
      have hact' : u.conns[id].state = .active := hconns ▸ hact
      obtain ⟨hline', hst'⟩ := hhand.stays (.inl hact')
      have hl' : u.conns[id].line = d.line := hconns ▸ hl
      refine (State.lineFaults_finish_holdsLine ?_ (hline'.trans hl') hst').1
      rw [htself]
      exact hystate

end Sys2Proof.Machine
end

section
/-! PROOFS. A stop pending, taken in the event that ends the exchange (O49). -/

namespace Sys2Proof.Machine

/-! ## The end of an event -/

/-- An event that wanted a pass ends with the engine COMPUTING (02 R31). -/
theorem State.finish_computing {s : State} (h : s.urgent = true) : s.finish.computing = true := by
  rw [State.finish_of_urgent h]
  show ({ s with urgent := false } : State).startOrRerun.computing = true
  unfold State.startOrRerun
  split
  next hc => exact hc
  next => rfl

/-- A VACANT record is not in a snapshot. -/
theorem State.finish_vacant {s : State} {id : Fin 96} {gen : Nat} (h : s.conns[id] = Conn.vacant gen) :
    s.finish.conns[id] = Conn.vacant gen := by
  rcases s.finish_conn id with k | k <;> rw [k, h]
  rfl

/-- The lines, the branches, the drives, the port and the queue. -/
def State.outer (s : State) : Vector Line 8 × Vector Branch 8 × Vector Drive 8 × Port × List Instr :=
  (s.lines, s.branches, s.drives, s.port, s.pending)

theorem State.finish_drops_outer (s : State) : s.finish.drops = s.drops ∧ s.finish.outer = s.outer := by
  cases h : s.urgent with
  | false =>
    rw [State.finish_of_quiet h]
    exact ⟨rfl, rfl⟩
  | true =>
    rw [State.finish_of_urgent h]
    show ({ s with urgent := false } : State).startOrRerun.drops = s.drops ∧
      ({ s with urgent := false } : State).startOrRerun.outer = s.outer
    unfold State.startOrRerun
    split <;> exact ⟨rfl, rfl⟩

/-! ## The end of an exchange -/

/-- What the report or the miss that ends an exchange on a line leaves of the state before it, the line itself written
already: only the connection polled changes, and with a pass wanted if it leaves ACTIVE. -/
structure State.ExchangeEnds (l : Fin 8) (s v : State) : Prop where
  other : ∀ j : Fin 96, s.conns[j].line ≠ l → v.conns[j] = s.conns[j]
  served : ∀ j : Fin 96, s.conns[j].line = l → s.conns[j].refuses = false →
    v.conns[j].line = l ∧ v.conns[j].refuses = false ∧ (v.conns[j].state = .pending → s.conns[j].state = .pending)
  active : ∀ j : Fin 96, s.conns[j].state = .active → v.conns[j].state = .active ∨ v.urgent = true
  retiring : ∀ j : Fin 96, s.conns[j].state = .retiring →
    v.conns[j] = s.conns[j] ∨ v.conns[j] = Conn.vacant s.conns[j].gen
  drops : v.drops.filter (fun e => e.line ≠ l) = s.drops.filter (fun e => e.line ≠ l)
  outer : v.outer = s.outer

/-- Slots changed at places of one line, and nowhere else. -/
theorem filter_line_map {ds : List Drop} {l : Fin 8} {f : Drop → Drop} (hline : ∀ e, (f e).line = e.line)
    (hf : ∀ e ∈ ds, e.line ≠ l → f e = e) :
    (ds.map f).filter (fun e => e.line ≠ l) = ds.filter (fun e => e.line ≠ l) := by
  have hp : (fun e : Drop => decide (e.line ≠ l)) ∘ f = fun e => decide (e.line ≠ l) := by
    funext e
    rw [Function.comp_apply, hline]
  rw [List.filter_map, hp]
  refine (List.map_congr_left fun e he => ?_).trans (List.map_id _)
  obtain ⟨hmem, hne⟩ := List.mem_filter.mp he
  exact hf e hmem (of_decide_eq_true hne)

theorem dropsAt_filter (ds : List Drop) (d : Drop) {f : Drop → Drop} (hline : ∀ e, (f e).line = e.line) :
    (dropsAt ds d f).filter (fun e => e.line ≠ d.line) = ds.filter (fun e => e.line ≠ d.line) := by
  refine filter_line_map (fun e => ?_) fun e _ hne => if_neg fun h => hne h.1
  split
  · exact hline e
  · rfl

section
variable {s v : State} {d : Drop} {f : Drop → Drop} (hd : d ∈ s.drops) (hpool : s.PoolRight)
  (hkeep : ∀ e, (f e).line = e.line ∧ (f e).addr = e.addr ∧ (f e).conn = e.conn)
include hd hpool hkeep

omit hd in
/-- A slot stays on the line of its connection. -/
theorem State.PoolRight.line_dropsAt {e : Drop} (he : e ∈ dropsAt s.drops d f) : s.conns[e.conn].line = e.line := by
  obtain ⟨e0, hmem, rfl⟩ := List.mem_map.mp he
  have hown := (hpool.2.2.1 e0 hmem).2.2.2
  by_cases h : e0.line = d.line ∧ e0.addr = d.addr
  · simp only [if_pos h, hkeep, hown]
  · simp only [if_neg h, hown]

/-- A report or a miss of a connection in service ends the exchange. -/
theorem State.HandedOn.exchangeEnds (hc : s.conns[d.conn].refuses = false)
    (h : State.HandedOn d.conn { s with drops := dropsAt s.drops d f } v) : s.ExchangeEnds d.line v := by
  have hown : s.conns[d.conn].line = d.line := (hpool.2.2.1 d hd).2.2.2
  obtain ⟨share, hdrops, hshare⟩ := h.drops
  refine ⟨fun j hj => h.others j fun e => hj (e ▸ hown), fun j hj hc => ?_, fun j hj => ?_, fun j hj => ?_, ?_, ?_⟩
  · by_cases hjd : j = d.conn
    · subst hjd
      exact ⟨h.line.trans hj, h.serves, h.pending⟩
    · rw [h.others j hjd]
      exact ⟨hj, hc, fun k => k⟩
  · by_cases hjd : j = d.conn
    · subst hjd
      exact h.active hj
    · rw [h.others j hjd]
      exact .inl hj
  · refine .inl (h.others j fun hjd => ?_)
    subst hjd
    rw [Conn.refuses, hj] at hc
    cases hc
  · refine (congrArg _ hdrops).trans (Eq.trans (filter_line_map (fun _ => rfl) fun e he hne => ?_)
      (dropsAt_filter s.drops d fun e => (hkeep e).1))
    have hplace := State.PoolRight.line_dropsAt hpool hkeep he
    have hconn : e.conn ≠ d.conn := fun k => hne (by rw [← hplace, ← hown]; simp only [k])
    rw [hshare e hconn]
  · obtain ⟨h1, h2, h3, h4, h5⟩ := h.apart
    rw [State.outer, State.outer, h1, h2, h3, h4, h5]

/-- A report or a miss of a RETIRING connection ends the exchange. -/
theorem State.closing_exchangeEnds (hret : s.conns[d.conn].state = .retiring) (closes : Bool) :
    s.ExchangeEnds d.line (s.closing closes d.conn (dropsAt s.drops d f)) := by
  have hown : s.conns[d.conn].line = d.line := (hpool.2.2.1 d hd).2.2.2
  have hfilter := dropsAt_filter s.drops d fun e => (hkeep e).1
  by_cases hlast : closes = true ∧ ∀ e ∈ dropsAt s.drops d f, e.conn = d.conn → e.closed = true
  · rw [State.closing_last hlast.1 hlast.2]
    have hother (j : Fin 96) (hj : j ≠ d.conn) :
        (s.conns.set d.conn (Conn.vacant s.conns[d.conn].gen))[j] = s.conns[j] := by
      rw [getElem_set_fin, if_neg (Ne.symm hj)]
    have hne {j : Fin 96} (hj : s.conns[j].state ≠ .retiring) : j ≠ d.conn := fun k => hj (by subst k; exact hret)
    refine ⟨fun j hj => hother j fun k => hj (k ▸ hown), fun j hj hc => ?_, fun j hj => ?_, fun j _ => ?_, ?_, rfl⟩
    · have hj' : s.conns[j].state ≠ .retiring := fun k => by
        rw [Conn.refuses, k] at hc
        cases hc
      dsimp only
      rw [hother j (hne hj')]
      exact ⟨hj, hc, fun k => k⟩
    · dsimp only
      rw [hother j (hne (by rw [hj]; decide))]
      exact .inl hj
    · by_cases hjd : j = d.conn
      · subst hjd
        exact .inr (by rw [getElem_set_fin, if_pos rfl])
      · exact .inl (hother j hjd)
    · dsimp only
      rw [← hfilter, List.filter_filter]
      refine List.filter_congr fun e he => ?_
      have hplace := State.PoolRight.line_dropsAt hpool hkeep he
      by_cases hl : e.line = d.line
      · simp [hl]
      · have hconn : e.conn ≠ d.conn := fun k => hl (by rw [← hplace, ← hown]; simp only [k])
        simp [hconn]
  · rw [State.closing_open (by
      by_contra hno
      rw [not_or] at hno
      refine hlast ⟨by simpa using hno.1, fun e he hconn => ?_⟩
      by_contra hopen
      exact hno.2 ⟨e, he, hconn, by simpa using hopen⟩)]
    exact ⟨fun _ _ => rfl, fun _ hj hc => ⟨hj, hc, fun k => k⟩, fun _ hj => .inl hj, fun _ _ => .inl rfl, hfilter, rfl⟩

end

/-! ## The stop taken -/

/-- The line leaves a record alone that is another line's, and one that is neither in service nor RETIRING. -/
theorem Conn.lineLost_other {c : Conn} {l : Fin 8} (hold : Nat) (h : c.line ≠ l ∨ c.state = .pending ∨ c.state = .vacant) :
    c.lineLost l hold = c := by
  unfold Conn.lineLost
  split
  next hline =>
    rcases (h.resolve_left fun k => k hline) with hst | hst <;> rw [hst]
  next => rfl

theorem Conn.lineLost_retiring {c : Conn} {l : Fin 8} (hold : Nat) (hline : c.line = l) (hst : c.state = .retiring) :
    c.lineLost l hold = Conn.vacant c.gen := by
  unfold Conn.lineLost
  rw [if_pos hline, hst]

namespace State.ExchangeEnds

section
variable {s v : State} {l : Fin 8} (h : s.ExchangeEnds l v) (hpoll : v.lines[l].state = .polling) (y : Line) {j : Fin 96}
include h hpoll

/-- The connections of the line in service hold LINE (05 R93). -/
theorem left_holdsLine (hline : s.conns[j].line = l) (hst : s.conns[j].state = .active ∨ s.conns[j].state = .suspended) :
    (v.left l y).finish.conns[j].HoldsLine := by
  obtain ⟨hl, hserves, hpend⟩ := h.served j hline (Conn.refuses_eq_false_iff.mpr (.inr hst))
  have hne : v.conns[j].state ≠ .pending := fun k => by
    have hp := hpend k
    rcases hst with hs | hs <;> rw [hs] at hp <;> cases hp
  refine State.finish_holdsLine ?_
  rw [State.left_conn hpoll]
  exact Conn.lineLost_holdsLine _ hl ((Conn.refuses_eq_false_iff.mp hserves).resolve_left hne)

/-- The RETIRING connections of the line are closed out (05 R93, 06 R131). -/
theorem left_retiring (hline : s.conns[j].line = l) (hst : s.conns[j].state = .retiring) :
    (v.left l y).finish.conns[j] = Conn.vacant s.conns[j].gen := by
  refine State.finish_vacant ?_
  rw [State.left_conn hpoll]
  rcases h.retiring j hst with k | k
  · rw [k]
    exact Conn.lineLost_retiring _ hline hst
  · rw [k]
    exact Conn.lineLost_other _ (.inr (.inr rfl))

/-- A PENDING connection of the line stays so, or has entered service and lost its line. -/
theorem left_pending (hline : s.conns[j].line = l) (hst : s.conns[j].state = .pending) :
    (v.left l y).finish.conns[j].state = .pending ∨ (v.left l y).finish.conns[j].HoldsLine := by
  obtain ⟨hl, hserves, -⟩ := h.served j hline (Conn.refuses_eq_false_iff.mpr (.inl hst))
  rcases Conn.refuses_eq_false_iff.mp hserves with hp | hs
  · have hleft : (v.left l y).conns[j].state = .pending := by
      rw [State.left_conn hpoll, Conn.lineLost_other _ (.inr (.inl hp)), hp]
    left
    rcases State.finish_conn (v.left l y) j with k | k <;> rw [k] <;> exact hleft
  · right
    refine State.finish_holdsLine ?_
    rw [State.left_conn hpoll]
    exact Conn.lineLost_holdsLine _ hl hs

/-- A connection that was ACTIVE wants a pass, by the end of the exchange or by the loss of its line (01 R15). -/
theorem left_computing (hline : s.conns[j].line = l) (hst : s.conns[j].state = .active) :
    (v.left l y).finish.computing = true := by
  refine State.finish_computing ?_
  rw [State.left_polling hpoll]
  show ((List.finRange 96).any (v.suspends l) || v.urgent) = true
  rcases h.active j hst with k | k
  · have hl := (h.served j hline (Conn.refuses_eq_false_iff.mpr (.inr (.inl hst)))).1
    rw [List.any_eq_true.mpr ⟨j, List.mem_finRange j, (v.suspends_iff l).mpr ⟨hl, k⟩⟩, Bool.true_or]
  · rw [k, Bool.or_true]

/-- The connections of the other lines keep their records (05 R93). -/
theorem left_other (hline : s.conns[j].line ≠ l) : (v.left l y).finish.conns[j] = { s.conns[j] with
    moved := (v.left l y).finish.conns[j].moved, demandSnap := (v.left l y).finish.conns[j].demandSnap } := by
  have hleft : (v.left l y).conns[j] = s.conns[j] := by
    rw [State.left_conn hpoll, h.other j hline, Conn.lineLost_other _ (.inl hline)]
  rcases State.finish_conn (v.left l y) j with k | k <;> rw [k, hleft]

/-- The slots of the other lines stay in use, unchanged. -/
theorem left_drops (hpool : s.PoolRight) : (v.left l y).finish.drops.filter (fun e => e.line ≠ l) =
    s.drops.filter (fun e => e.line ≠ l) := by
  rw [(State.finish_drops_outer _).1, State.left_polling hpoll, ← h.drops]
  show (v.drops.filter (fun e => !v.retires l e.conn)).filter (fun e => e.line ≠ l) = _
  rw [List.filter_filter]
  refine List.filter_congr fun e he => ?_
  by_cases hl : e.line = l
  · simp [hl]
  · have hmem : e ∈ s.drops.filter (fun e => e.line ≠ l) := h.drops ▸ List.mem_filter.mpr ⟨he, decide_eq_true hl⟩
    have hown : s.conns[e.conn].line ≠ l := by
      rw [(hpool.2.2.1 e (List.mem_filter.mp hmem).1).2.2.2]
      exact hl
    have hkept : v.retires l e.conn = false := by
      rw [← Bool.not_eq_true, State.retires_iff, h.other _ hown]
      exact fun k => hown k.1
    rw [hkept, decide_eq_true hl]
    rfl

/-- Branches, drives, port and queue are as they were, and of the lines only the one that stops has changed. -/
theorem left_outer : (v.left l y).finish.outer = (s.lines.set l y, s.branches, s.drives, s.port, s.pending) := by
  rw [(State.finish_drops_outer _).2, State.left_polling hpoll]
  exact congrArg (fun o : Vector Line 8 × Vector Branch 8 × Vector Drive 8 × Port × List Instr =>
    (o.1.set l y, o.2)) h.outer

end

end State.ExchangeEnds

/-- With no report and no miss to hand on there is nothing that changes. -/
theorem State.ExchangeEnds.refl (s : State) (l : Fin 8) : s.ExchangeEnds l s :=
  ⟨fun _ _ => rfl, fun _ hj hc => ⟨hj, hc, fun k => k⟩, fun _ hj => .inl hj, fun _ _ => .inl rfl, rfl, rfl⟩

end Sys2Proof.Machine
end

section
/-! PROOFS. A stop pending at the end of an exchange by a report, by a miss or by a cut (O49). -/

namespace Sys2Proof.Machine

/-! ## A report or a miss handed on -/

/-- A report, or a miss when there is none, handed on for a drop. -/
def State.handOn (s : State) (d : Drop) : Option Report → State
  | none => s.takeMiss d.line d.addr
  | some r => s.takeReport d.line d.addr r

/-- What a report, or a miss when there is none, has left of a drop (06 R117, R123). -/
def Drop.answers (e d : Drop) : Option Report → Prop
  | none => e.missed = min 255 (d.missed + 1)
  | some r => e.missed = 0 ∧ e.state = .live ∧ e.demand = r.demand

section
variable {s v : State} {d : Drop} (hd : d ∈ s.drops) (hpool : s.PoolRight)
include hd

/-- The slot of the drop, after its change. -/
theorem State.HandedOn.mem_drops {f : Drop → Drop} {r : Option Report}
    (hans : ∀ n : Nat, ({ f d with share := n } : Drop).answers d r)
    (hkeep : ∀ e, (f e).line = e.line ∧ (f e).addr = e.addr ∧ (f e).conn = e.conn)
    (h : State.HandedOn d.conn { s with drops := dropsAt s.drops d f } v) :
    ∃ e ∈ v.drops, e.line = d.line ∧ e.addr = d.addr ∧ v.conns[e.conn].refuses = false ∧ e.answers d r := by
  obtain ⟨share, hdrops, -⟩ := h.drops
  obtain ⟨hline, haddr, hconn⟩ := hkeep d
  refine ⟨{ f d with share := share (f d) }, ?_, hline, haddr, ?_, hans _⟩
  · rw [hdrops]
    exact List.mem_map_of_mem (List.mem_map.mpr ⟨d, hd, if_pos ⟨rfl, rfl⟩⟩)
  · simp only [hconn, h.serves]

include hpool

/-- A report or a miss ends the exchange with its drop, whose slot it keeps unless the connection is RETIRING. -/
theorem State.handOn_ends (hpoll : s.lines[d.line].state = .polling) (r : Option Report) :
    s.ExchangeEnds d.line (s.handOn d r) ∧ (s.conns[d.conn].state ≠ .retiring →
      ∃ e ∈ (s.handOn d r).drops, e.line = d.line ∧ e.addr = d.addr ∧ (s.handOn d r).conns[e.conn].refuses = false ∧
        e.answers d r) := by
  have hfind : s.findDrop d.line d.addr = some d := State.findDrop_of_mem hpool hd
  obtain ⟨-, -, hvacant, hown⟩ := hpool.2.2.1 d hd
  by_cases hret : s.conns[d.conn].state = .retiring
  · refine ⟨?_, fun h => absurd hret h⟩
    cases r with
    | none =>
      rw [State.handOn, State.takeMiss_retiring hfind hret, State.closeMiss_eq s d rfl]
      exact State.closing_exchangeEnds hd hpool (by exact fun _ => ⟨rfl, rfl, rfl⟩) hret _
    | some r =>
      rw [State.handOn, State.takeReport_retiring hfind hret rfl]
      exact State.closing_exchangeEnds hd hpool (by exact fun _ => ⟨rfl, rfl, rfl⟩) hret _
  · have hc : s.conns[d.conn].refuses = false := by
      rw [Conn.refuses, beq_eq_false_iff_ne.mpr hvacant, beq_eq_false_iff_ne.mpr hret]
      rfl
    cases r with
    | none =>
      obtain ⟨st, h⟩ := State.takeMiss_handedOn hfind hc
      exact ⟨h.exchangeEnds hd hpool (by exact fun _ => ⟨rfl, rfl, rfl⟩) hc,
        fun _ => h.mem_drops hd (by exact fun _ => rfl) (by exact fun _ => ⟨rfl, rfl, rfl⟩)⟩
    | some r =>
      obtain ⟨st, hst, h⟩ := State.takeReport_handedOn hfind hc (by simp only [hown, hpoll]) r
      exact ⟨h.exchangeEnds hd hpool (by exact fun _ => ⟨rfl, rfl, rfl⟩) hc,
        fun _ => h.mem_drops hd (by exact fun _ => ⟨rfl, hst, rfl⟩) (by exact fun _ => ⟨rfl, rfl, rfl⟩)⟩

end

/-! ## The stop taken -/

/-- A stop pending takes the line to READY (05 R91). -/
theorem State.takeStop_left {s : State} {l : Fin 8} {z : Line} (hz : s.lines[l] = z) (hstop : z.stop = true) :
    s.takeStop l = s.left l (z.gone .ready) := by
  refine (if_pos (by rw [hz, hstop])).trans ?_
  rw [State.lineGoes_eq_left, hz]

/-- With no report and no miss to hand on, the line goes from its exchange to READY (05 R91, R96). -/
theorem State.space_takeStop {s : State} {l : Fin 8} {x : Line} (hx : s.lines[l] = x) (hstop : x.stop = true) :
    (s.modLine l Line.space).takeStop l = s.left l (x.gone .ready) := by
  have hset := State.lines_set_self s l x.space
  rw [State.modLine_eq hx, State.takeStop_left hset hstop]
  unfold State.left State.isPolling
  rw [hset, hx, Vector.set_set]
  rfl

/-- The exchange with a drop whose reply is awaited is cut, and a stop pending taken (05 R91, R96). -/
theorem State.cutExchange_stops {s : State} {l : Fin 8} {x : Line} {a : Nat} (hx : s.lines[l] = x)
    (hpoll : x.state = .polling) (haddr : x.polled = a) (hphase : x.phase = .awaiting ∨ x.phase = .receiving)
    (hstop : x.stop = true) : s.cutExchange l a = s.left l (x.gone .ready) := by
  unfold State.cutExchange
  dsimp only
  rw [hx, if_pos ⟨hpoll, haddr⟩, if_neg (by rcases hphase with k | k <;> rw [k] <;> decide),
    if_pos (Line.inExchange_of hphase), State.space_takeStop hx hstop]

/-- The exchange ends with a valid report, whether or not a stop is pending (05 R91, R96). -/
theorem State.endReport_at {s : State} {l : Fin 8} {z y : Line} (r : Report) (hy : { z.space with bad := 0 } = y) :
    ({ s with lines := s.lines.set l z } : State).endReport l r =
      (({ s with lines := s.lines.set l y } : State).takeReport l z.polled r).takeStop l := by
  unfold State.endReport
  rw [State.lines_set_self, State.modLine_set, hy]

/-! ## REMOVE DROP of the drop whose reply is awaited -/

section
variable {s : State} {id j : Fin 96}

/-- The demand recomputed leaves suspension and its causes. -/
theorem State.recompute_holdsLine (noted : ConnState) (h : s.conns[j].HoldsLine) :
    (s.recompute id noted).conns[j].HoldsLine := by
  rw [State.recompute_conns]
  split
  · exact h
  · rw [getElem_set_fin]
    split
    next he => subst he; exact h
    next => exact h

/-- A connection that holds LINE does not return to ACTIVE when it loses COMMS (01 R18). -/
theorem State.testComms_holdsLine (hid : s.conns[id].HoldsLine) (h : s.conns[j].HoldsLine) :
    (s.testComms id).conns[j].HoldsLine := by
  unfold State.testComms
  split
  · exact h
  · have hleft : (s.conns[id].dropCause .comms).noCause = false := by
      rw [Conn.dropCause_comms_noCause, hid.2]
      rfl
    rw [State.loseCause_left hid.1 hleft, getElem_set_fin]
    split
    next he => subst he; exact h
    next => exact h

/-- What REMOVE DROP does after the cut leaves the connections that hold LINE suspended with it (01 R26). -/
theorem State.removeDropFrom_holdsLine {x : Drop} {w : State}
    (hw : (s.freeSlot x.line x.addr).cutExchange x.line x.addr = w)
    (hid : w.conns[id].HoldsLine) (h : w.conns[j].HoldsLine) : (s.removeDropFrom id x).conns[j].HoldsLine := by
  have hrec {i : Fin 96} (hi : w.conns[i].HoldsLine) : (w.recompute id w.conns[id].state).conns[i].HoldsLine :=
    State.recompute_holdsLine _ hi
  obtain ⟨v, hv⟩ : ∃ v, (if x.state = .silent then (w.recompute id w.conns[id].state).testComms id
      else w.recompute id w.conns[id].state) = v := ⟨_, rfl⟩
  have hkept {i : Fin 96} (hi : w.conns[i].HoldsLine) : v.conns[i].HoldsLine := by
    rw [← hv]
    split
    · exact State.testComms_holdsLine (hrec hid) (hrec hi)
    · exact hrec hi
  rw [State.removeDropFrom_eq (t := w.recompute id w.conns[id].state) (by rw [hw]), hv,
    State.testService_other (by rw [(hkept hid).1]; decide)]
  dsimp only
  split
  · show (v.conns.set id { v.conns[id] with moved := true })[j].HoldsLine
    rw [getElem_set_fin]
    split
    next he => subst he; exact hkept h
    next => exact hkept h
  · exact hkept h

end

/-! ## The stop, in both of its forms -/

/-- A miss short of the eighth bad end is handed on before a stop pending is taken (05 R91, R96). -/
theorem State.Misses.exec_stops {s : State} {i : Instr} {x z : Line} {d : Drop} {att : Attention} {spoiled : Bool}
    (hx : s.lines[d.line] = x) (hpoll : x.state = .polling) (haddr : d.addr = x.polled)
    (h : s.Misses d.line x i z spoiled att) (hbad : spoiled = true → z.bad < 7) (hz : z.polled = x.polled) :
    exec i s = .next ((({ s with att := att, lines := s.lines.set d.line { z.space with
      bad := if spoiled then z.bad + 1 else 0 } } : State).handOn d none).takeStop d.line).finish := by
  have hmin : (if spoiled then min 8 (z.bad + 1) else 0) = if spoiled then z.bad + 1 else 0 := by
    split
    next hs => exact min_eq_right (by have := hbad hs; omega)
    next => rfl
  have hlt : (if spoiled then z.bad + 1 else 0) ≠ 8 := by
    split
    next hs => have := hbad hs; omega
    next => decide
  rw [h.exec_eq hx hpoll, State.endMiss_at (s := { s with att := att }) hmin rfl, hz, ← haddr]
  exact congrArg (fun t : State => Host.Outcome.next t.finish) (if_neg hlt)

/-- The polled drop's REPORT is handed on before a stop pending is taken (05 R91, R101). -/
theorem exec_report_stops {s : State} {x : Line} {d : Drop} {bytes : List Byte} (hx : s.lines[d.line] = x)
    (hpoll : x.state = .polling) (haddr : d.addr = x.polled) (hp : x.phase = .awaiting ∨ x.phase = .receiving)
    (hframe : completeFrame bytes = true) (hcrc : crcGood bytes = true) (hrep : isReportOf d.line x.polled bytes = true) :
    exec (.frameReceived d.line bytes) s = .next ((({ s with lines := s.lines.set d.line { x.space with
      bad := 0, assembling := false } } : State).handOn d (some (reportOf bytes))).takeStop d.line).finish := by
  refine congrArg (fun t : State => Host.Outcome.next t.finish) ?_
  rw [State.frameIn_exchange hx hp hpoll hframe]
  dsimp only
  rw [if_pos hcrc, if_pos hrep, State.endReport_at _ rfl, State.handOn, haddr]
  rfl

/-- POLL_SENT of a cut exchange with a stop pending (05 R91, R96). -/
theorem exec_pollSent_stops {s : State} {l : Fin 8} {x : Line} (hx : s.lines[l] = x) (hpoll : x.state = .polling)
    (hp : x.phase = .sending) (hcut : x.cut = true) (hstop : x.stop = true) (echo : Option (List Byte)) :
    exec (.pollSent l echo) s = .next (s.left l (x.gone .ready)).finish := by
  rw [exec_pollSent_polling hx hp (by rw [hpoll]; decide), State.pollOut, hx, if_pos hcut, State.space_takeStop hx hstop]

/-- Settles O49. -/
theorem stopPendingEndsExchange : Obligations.StopPendingEndsExchange := by
  refine ⟨?_, ?_⟩
  · rintro s i l x y d bytes r hset hpool rfl hpoll hstop hd rfl haddr hcase
    obtain ⟨att, z, hexec, hzpoll, hzstop, hgone⟩ : ∃ (att : Attention) (z : Line), exec i s = .next ((({ s with
        att := att, lines := s.lines.set d.line z } : State).handOn d r).takeStop d.line).finish ∧
        z.state = .polling ∧ z.stop = true ∧ z.gone .ready = y.gone .ready := by
      have hmiss {i : Instr} {z : Line} {spoiled : Bool} {att : Attention} :=
        State.Misses.exec_stops (i := i) (z := z) (spoiled := spoiled) (att := att) rfl hpoll haddr
      rcases hcase with ⟨rfl, hp, rfl, rfl⟩ | ⟨hp, ⟨hi, hbad, rfl, rfl⟩ | ⟨rfl, hframe, ⟨hcrc, hbad, rfl, rfl⟩ |
        ⟨hcrc, hno, hresp, rfl, rfl⟩ | ⟨hcrc, h13, h32, hl, ha, rfl, rfl⟩⟩⟩
      · exact ⟨_, _, hmiss (.timeout hp) nofun rfl, hpoll, hstop, rfl⟩
      · exact ⟨_, _, hmiss (.broken hi hp) (fun _ => hbad) rfl, hpoll, hstop, rfl⟩
      · exact ⟨_, _, hmiss (.badCrc hp hframe hcrc) (fun _ => hbad) rfl, hpoll, hstop, rfl⟩
      · exact ⟨_, _, hmiss (.stray hp hframe hcrc hresp hno) nofun rfl, hpoll, hstop, rfl⟩
      · exact ⟨s.att, _, exec_report_stops rfl hpoll haddr hp hframe hcrc (isReportOf_iff.mpr ⟨h13, h32, hl, ha⟩),
          hpoll, hstop, rfl⟩
    let u : State := { s with att := att, lines := s.lines.set d.line z }
    have huself : u.lines[d.line] = z := State.lines_set_self { s with att := att } d.line z
    obtain ⟨hends, hslot⟩ := State.handOn_ends (s := u) hd hpool (by rw [huself]; exact hzpoll) r
    have hself : (u.handOn d r).lines[d.line] = z := by
      have hlines : (u.handOn d r).lines = u.lines := congrArg Prod.fst hends.outer
      rw [hlines, huself]
    have hvpoll : (u.handOn d r).lines[d.line].state = .polling := by rw [hself]; exact hzpoll
    rw [State.takeStop_left hself hzstop, hgone] at hexec
    have houter := hends.left_outer hvpoll (y.gone .ready)
    refine ⟨_, hexec, ?_, fun id hline => ⟨fun hst => hends.left_holdsLine hvpoll _ hline hst,
      fun hst => hends.left_retiring hvpoll _ hline hst, fun hst => hends.left_pending hvpoll _ hline hst,
      fun hst => hends.left_computing hvpoll _ hline hst⟩, fun id hline => hends.left_other hvpoll _ hline,
      hends.left_drops hvpoll _ hpool, fun hst => ?_, ?_⟩
    · exact (congrArg Prod.fst houter).trans (Vector.set_set ..)
    · obtain ⟨e, he, hline, ha, hc, hans⟩ := hslot hst
      have hstays : (u.handOn d r).retires d.line e.conn = false := by
        rw [← Bool.not_eq_true, State.retires_iff]
        rintro ⟨-, hret⟩
        rw [Conn.refuses, hret] at hc
        cases hc
      refine ⟨e, ?_, hline, ha, by cases r <;> exact hans⟩
      rw [(State.finish_drops_outer _).1, State.left_polling hvpoll]
      exact List.mem_filter.mpr ⟨he, by rw [hstays]; rfl⟩
    · have hrest := congrArg Prod.snd houter
      exact ⟨congrArg (·.1) hrest, congrArg (·.2.1) hrest, congrArg (·.2.2.1) hrest, congrArg (·.2.2.2) hrest⟩
  · rintro s i l x echo a b id hset hpool rfl hpoll hstop hcase
    rcases hcase with ⟨rfl, hp, hcut⟩ | ⟨rfl, hready, hp, ha, hst, hline, hb, ⟨d, hd, haddr⟩, hlen⟩
    · have hends := State.ExchangeEnds.refl s l
      refine ⟨_, exec_pollSent_stops rfl hpoll hp hcut hstop echo, congrArg Prod.fst (hends.left_outer hpoll _),
        fun id hline hst => hends.left_holdsLine hpoll _ hline hst⟩
    · obtain ⟨hmem, rfl⟩ := State.mem_dropsOf.mp hd
      have hdl : d.line = l := (hpool.2.2.1 d hmem).2.2.2.symm.trans hline
      subst hdl
      have hcut : ((s.acting .removeDrop 1 [a]).freeSlot d.line d.addr).cutExchange d.line d.addr =
          ((s.acting .removeDrop 1 [a]).freeSlot d.line d.addr).left d.line (s.lines[d.line].gone .ready) :=
        State.cutExchange_stops (s := (s.acting .removeDrop 1 [a]).freeSlot d.line d.addr) rfl hpoll haddr.symm hp hstop
      have hholds {j : Fin 96} (hjl : s.conns[j].line = d.line)
          (hj : s.conns[j].state = .active ∨ s.conns[j].state = .suspended) :
          (((s.acting .removeDrop 1 [a]).freeSlot d.line d.addr).left d.line
            (s.lines[d.line].gone .ready)).conns[j].HoldsLine := by
        rw [State.left_conn (s := (s.acting .removeDrop 1 [a]).freeSlot d.line d.addr) hpoll]
        exact Conn.lineLost_holdsLine _ hjl hj
      refine ⟨_, exec_removeDrop hready hpool ha (Conn.refuses_eq_false_iff.mpr (.inr (.inl hst))) hd
        (haddr.trans hb.symm) hlen, ?_, fun j hjl hj => ?_⟩
      · rw [State.finish_lines]
        refine (State.removeDropFrom_keeps hcut).1.trans ?_
        rw [State.left_polling (s := (s.acting .removeDrop 1 [a]).freeSlot d.line d.addr) hpoll]
        rfl
      · exact State.finish_holdsLine (State.removeDropFrom_holdsLine hcut (hholds hline (.inl hst)) (hholds hjl hj))

end Sys2Proof.Machine
end

section
/-! PROOFS. What the connections, the lines, the engine and the plant leave alone: the branches and the drives (O58). -/

namespace Sys2Proof.Machine

/-- The branch meters and the valve drives. -/
def State.branchSide (s : State) : Vector Branch 8 × Vector Drive 8 := (s.branches, s.drives)

namespace State

variable (s : State)

/-! ## The end of an event -/

@[simp] theorem finish_branchSide : s.finish.branchSide = s.branchSide := by
  unfold finish startOrRerun
  dsimp only
  split
  · split <;> rfl
  · rfl

/-! ## Connections -/

theorem recompute_branchSide (id : Fin 96) (noted : ConnState) :
    (s.recompute id noted).branchSide = s.branchSide := by
  unfold recompute compareDemand
  split
  · dsimp only
    split
    · split <;> rfl
    · rfl
  · rfl

theorem gainCause_branchSide (id : Fin 96) (cause : SuspendCause) :
    (s.gainCause id cause).branchSide = s.branchSide := by
  unfold gainCause enterSuspended
  split
  · dsimp only
    split <;> rfl
  · rfl
  · rfl

theorem loseCause_branchSide (id : Fin 96) (cause : SuspendCause) :
    (s.loseCause id cause).branchSide = s.branchSide := by
  unfold loseCause
  split
  · dsimp only
    split <;> rfl
  · rfl

theorem testService_branchSide (id : Fin 96) : (s.testService id).branchSide = s.branchSide := by
  unfold testService enterActive
  split
  · dsimp only
    split
    · rfl
    · exact gainCause_branchSide _ id .line
  · rfl

theorem testComms_branchSide (id : Fin 96) : (s.testComms id).branchSide = s.branchSide := by
  unfold testComms
  split
  · rfl
  · exact s.loseCause_branchSide id .comms

theorem vacantIfClosed_branchSide (id : Fin 96) : (s.vacantIfClosed id).branchSide = s.branchSide := by
  unfold vacantIfClosed
  split <;> rfl

theorem clearStanding_branchSide (id : Fin 96) : (s.clearStanding id).branchSide = s.branchSide := by
  rw [clearStanding_eq]
  rfl

theorem retire_branchSide (id : Fin 96) : (s.retire id).branchSide = s.branchSide := by
  unfold retire closeAll
  dsimp only
  split
  · exact s.clearStanding_branchSide id
  · exact (vacantIfClosed_branchSide _ id).trans (s.clearStanding_branchSide id)

theorem suspendConn_branchSide (id : Fin 96) : (s.suspendConn id).branchSide = s.branchSide := by
  unfold suspendConn
  split
  · exact s.gainCause_branchSide id .supervisor
  · split
    · rfl
    · dsimp only
      split <;> rfl
  · rfl

theorem lineLost_branchSide (l : Fin 8) (id : Fin 96) : (lineLost l s id).branchSide = s.branchSide := by
  unfold lineLost closeAll
  split
  · split
    · exact s.gainCause_branchSide id .line
    · exact s.gainCause_branchSide id .line
    · exact vacantIfClosed_branchSide _ id
    · rfl
  · rfl

theorem leavePolling_branchSide (l : Fin 8) : (s.leavePolling l).branchSide = s.branchSide :=
  leavePolling_keeps (P := fun t => t.branchSide = s.branchSide) (fun t id h => (t.lineLost_branchSide l id).trans h) s rfl

theorem lineBack_branchSide (l : Fin 8) (id : Fin 96) : (lineBack l s id).branchSide = s.branchSide := by
  unfold lineBack
  split
  · exact s.loseCause_branchSide id .line
  · rfl

theorem enterPolling_branchSide (l : Fin 8) : (s.enterPolling l).branchSide = s.branchSide :=
  enterPolling_keeps (P := fun t => t.branchSide = s.branchSide) (fun t id h => (t.lineBack_branchSide l id).trans h) s rfl

/-! ## Reports and misses -/

theorem scoreReport_branchSide (id : Fin 96) (r : Report) : (s.scoreReport id r).branchSide = s.branchSide := by
  unfold scoreReport
  dsimp only
  split
  · rfl
  · split <;> split <;> rfl

theorem applyReport_branchSide (d : Drop) (noted : ConnState) (r : Report) :
    (s.applyReport d noted r).branchSide = s.branchSide := by
  have hlive : (if (d.state != .live) = true then s.dropBecomes d.line d.addr d.conn .live else s).branchSide =
      s.branchSide := by
    split <;> rfl
  unfold applyReport
  dsimp only
  generalize (if (d.state != .live) = true then s.dropBecomes d.line d.addr d.conn .live else s) = t at hlive
  have hscore : (if noted = .active then (t.recompute d.conn noted).scoreReport d.conn r
      else t.recompute d.conn noted).branchSide = s.branchSide := by
    split
    · exact (scoreReport_branchSide _ _ _).trans ((recompute_branchSide _ _ _).trans hlive)
    · exact (recompute_branchSide _ _ _).trans hlive
  split
  · split
    · exact (testService_branchSide _ _).trans hscore
    · split
      · exact (testComms_branchSide _ _).trans hscore
      · exact hscore
  · exact hscore

theorem takeReport_branchSide (l : Fin 8) (addr : Nat) (r : Report) :
    (s.takeReport l addr r).branchSide = s.branchSide := by
  unfold takeReport closeDrop
  split
  · rfl
  · dsimp only
    split
    · split
      · exact vacantIfClosed_branchSide _ _
      · rfl
    · exact applyReport_branchSide _ _ _ _

theorem takeMiss_branchSide (l : Fin 8) (addr : Nat) : (s.takeMiss l addr).branchSide = s.branchSide := by
  unfold takeMiss
  split
  · rfl
  · split
    · unfold closeMiss closeDrop
      split
      · dsimp only
        split
        · exact vacantIfClosed_branchSide _ _
        · rfl
      · rfl
    · unfold countMiss
      dsimp only
      split
      · split
        · exact (gainCause_branchSide _ _ _).trans (recompute_branchSide _ _ _)
        · exact recompute_branchSide _ _ _
      · rfl

/-! ## Lines -/

section lines
variable (l : Fin 8)

theorem lineGoes_branchSide (st : LineState) : (s.lineGoes l st).branchSide = s.branchSide := by
  unfold lineGoes
  dsimp only
  split
  · exact leavePolling_branchSide _ l
  · rfl

theorem lineFaults_branchSide : (s.lineFaults l).branchSide = s.branchSide := s.lineGoes_branchSide l .faulted

theorem takeStop_branchSide : (s.takeStop l).branchSide = s.branchSide := by
  unfold takeStop
  split
  · exact s.lineGoes_branchSide l .ready
  · rfl

theorem select_branchSide : (s.select l).branchSide = s.branchSide := by
  unfold select selectPolling
  split
  · split
    · rfl
    · split <;> rfl
  · rfl
  · rfl

theorem selectOrWait_branchSide : (s.selectOrWait l).branchSide = s.branchSide := by
  unfold selectOrWait
  split
  · rfl
  · exact s.select_branchSide l

theorem selectIfDue_branchSide : (s.selectIfDue l).branchSide = s.branchSide := by
  unfold selectIfDue
  split
  · exact s.select_branchSide l
  · rfl

theorem endReport_branchSide (r : Report) : (s.endReport l r).branchSide = s.branchSide :=
  (takeStop_branchSide _ l).trans (takeReport_branchSide _ l _ r)

theorem endMiss_branchSide (spoiled : Bool) : (s.endMiss l spoiled).branchSide = s.branchSide := by
  unfold endMiss
  dsimp only
  generalize (if spoiled then min 8 (s.lines[l].bad + 1) else 0) = bad
  split
  · exact (lineFaults_branchSide _ l).trans (takeMiss_branchSide _ l _)
  · exact (takeStop_branchSide _ l).trans (takeMiss_branchSide _ l _)

theorem cutExchange_branchSide (addr : Nat) : (s.cutExchange l addr).branchSide = s.branchSide := by
  unfold cutExchange
  dsimp only
  split
  · split
    · rfl
    · split
      · exact takeStop_branchSide _ l
      · rfl
  · rfl

theorem removeDropFrom_branchSide (id : Fin 96) (d : Drop) : (s.removeDropFrom id d).branchSide = s.branchSide := by
  have hcut := (s.freeSlot d.line d.addr).cutExchange_branchSide d.line d.addr
  unfold removeDropFrom
  dsimp only
  generalize (s.freeSlot d.line d.addr).cutExchange d.line d.addr = t at hcut
  have hdemand := (t.recompute_branchSide id t.conns[id].state).trans hcut
  generalize t.recompute id t.conns[id].state = u at hdemand
  have hcomms : (if d.state = .silent then u.testComms id else u).branchSide = s.branchSide := by
    split
    · exact (u.testComms_branchSide id).trans hdemand
    · exact hdemand
  have hserve := (testService_branchSide _ id).trans hcomms
  split <;> exact hserve

theorem setLatch_branchSide : (s.setLatch l).branchSide = s.branchSide := by
  unfold setLatch
  dsimp only
  split <;> rfl

theorem frameOutside_branchSide (bytes : List Byte) : (s.frameOutside l bytes).branchSide = s.branchSide :=
  selectIfDue_branchSide _ l

/-- A frame that ends an exchange in a miss, or is none of an exchange. -/
theorem spoiled_branchSide {b spoiled : Bool} :
    (if b = true then s.endMiss l spoiled else s.selectIfDue l).branchSide = s.branchSide := by
  split
  · exact s.endMiss_branchSide l spoiled
  · exact s.selectIfDue_branchSide l

theorem frameBreaks_branchSide : (s.frameBreaks l).branchSide = s.branchSide := spoiled_branchSide _ l

theorem frameIn_branchSide (bytes : List Byte) : (s.frameIn l bytes).branchSide = s.branchSide := by
  unfold frameIn
  split
  · dsimp only
    split
    · exact (spoiled_branchSide _ l).trans (setLatch_branchSide _ l)
    · split
      · split
        · exact endReport_branchSide _ l _
        · unfold strayInExchange
          dsimp only
          split
          · rfl
          · exact endMiss_branchSide _ l false
      · exact frameOutside_branchSide _ l bytes
  · rfl

theorem checkEcho_branchSide (echo : Option (List Byte)) : (s.checkEcho l echo).branchSide = s.branchSide := by
  refine (takeStop_branchSide _ l).trans ?_
  show (if goodEcho l s.lines[l].polled echo = true then _ else _ : State).branchSide = _
  split
  · rfl
  · exact setLatch_branchSide _ l

theorem pollOut_branchSide : (s.pollOut l).branchSide = s.branchSide := by
  unfold pollOut
  split
  · exact takeStop_branchSide _ l
  · rfl

theorem startLine_branchSide : (s.startLine l).branchSide = s.branchSide := by
  unfold startLine
  dsimp only
  split
  · exact (select_branchSide _ l).trans (enterPolling_branchSide _ l)
  · exact select_branchSide _ l

theorem stopLine_branchSide : (s.stopLine l).branchSide = s.branchSide := by
  unfold stopLine
  dsimp only
  split
  · rfl
  · exact s.lineGoes_branchSide l .ready

theorem resetLine_branchSide : (s.resetLine l).branchSide = s.branchSide := by
  unfold resetLine
  dsimp only
  split
  · exact leavePolling_branchSide _ l
  · rfl

theorem responseExpires_branchSide : (s.responseExpires l).branchSide = s.branchSide := by
  unfold responseExpires
  split
  · exact endMiss_branchSide _ l false
  · rfl
  · rfl

theorem spacingEnds_branchSide : (s.spacingEnds l).branchSide = s.branchSide := by
  unfold spacingEnds
  split
  · exact selectOrWait_branchSide _ l
  · rfl

theorem idleSelects_branchSide : (s.idleSelects l).branchSide = s.branchSide := by
  unfold idleSelects
  split
  · exact s.selectOrWait_branchSide l
  · rfl

theorem tickLine_branchSide : (s.tickLine l).branchSide = s.branchSide := by
  unfold tickLine
  dsimp only
  split
  · split
    · exact (finish_branchSide _).trans (s.responseExpires_branchSide l)
    · rfl
  · split
    · split
      · exact (finish_branchSide _).trans (s.spacingEnds_branchSide l)
      · rfl
    · exact (finish_branchSide _).trans (s.idleSelects_branchSide l)

end lines

/-! ## The plant and the engine -/

theorem offerTrigger_branchSide (old new : Nat) : (s.offerTrigger old new).branchSide = s.branchSide := by
  unfold offerTrigger
  split
  · rfl
  · split <;> rfl

theorem assertTrip_branchSide : s.assertTrip.branchSide = s.branchSide := by
  unfold assertTrip tripAssertion
  dsimp only
  split <;> rfl

theorem sampleTrip_branchSide (asserted : Bool) : (s.sampleTrip asserted).branchSide = s.branchSide := by
  unfold sampleTrip
  split
  · rfl
  · split
    · rfl
    · split
      · exact s.assertTrip_branchSide
      · rfl

theorem intervalTick_branchSide : s.intervalTick.branchSide = s.branchSide := by
  unfold intervalTick startOrRerun
  dsimp only
  split
  · split <;> rfl
  · rfl

theorem tickInterval_branchSide : s.tickInterval.branchSide = s.branchSide := by
  unfold tickInterval
  split
  · exact (finish_branchSide _).trans s.intervalTick_branchSide
  · rfl

theorem holdExpires_branchSide (id : Fin 96) : (s.holdExpires id).branchSide = s.branchSide := by
  unfold holdExpires
  split <;> rfl

theorem tickHold_branchSide (id : Fin 96) : (s.tickHold id).branchSide = s.branchSide := by
  unfold tickHold
  split
  · split
    · exact (finish_branchSide _).trans (s.holdExpires_branchSide id)
    · rfl
  · rfl

/-! ## The results of a pass -/

theorem writeRec_branchSide (p : Snapshot) (r : SnapRec) : (writeRec p s r).branchSide = s.branchSide := by
  rw [writeRec_eq]
  rfl

theorem publishCauses_branchSide (p : Snapshot) : (s.publishCauses p).branchSide = s.branchSide := by
  rw [publishCauses_eq]
  rfl

theorem afterPublish_branchSide : s.afterPublish.branchSide = s.branchSide := by
  unfold afterPublish
  dsimp only
  split <;> rfl

/-! ## The port -/

theorem placeMsb_branchSide : s.placeMsb.branchSide = s.branchSide := by
  have hcapture : s.capture.branchSide = s.branchSide := by
    unfold capture
    split <;> rfl
  unfold placeMsb
  split
  · rfl
  · split
    · exact hcapture
    · rfl

theorem byteDone_branchSide : s.byteDone.branchSide = s.branchSide := s.placeMsb_branchSide

theorem endOpen_branchSide : s.endOpen.branchSide = s.branchSide := by
  unfold endOpen
  split <;> rfl

theorem selectPort_branchSide : s.selectPort.branchSide = s.branchSide := by
  unfold selectPort
  split
  · rfl
  · exact placeMsb_branchSide (s.modPort _)

theorem fallingEdge_branchSide (rose : Option Bool) : (s.fallingEdge rose).branchSide = s.branchSide := by
  unfold fallingEdge
  split
  · split
    · exact s.placeMsb_branchSide
    · split
      · exact s.placeMsb_branchSide
      · rfl
  · rfl

end State

/-! ## Field commands -/

theorem editField_branchSide {s t : State} {pos : Nat} {f : List Byte} {e : FieldEnd}
    (hf : editField pos f s = some (t, e)) : t.branchSide = s.branchSide := by
  have key (r : State × FieldEnd) (hr : r.1.branchSide = s.branchSide) (h : some r = some (t, e)) :
      t.branchSide = s.branchSide := by
    cases h
    exact hr
  unfold editField at hf
  split at hf
  · refine key _ ?_ hf
    unfold editId
    split
    · split <;> rfl
    · rfl
  · refine key _ ?_ hf
    unfold editClass
    split <;> rfl
  · exact key _ rfl hf
  · exact key _ rfl hf
  · refine key _ ?_ hf
    unfold editMax State.scaleShares
    dsimp only
    split <;> rfl
  · exact key _ rfl hf
  · refine key _ ?_ hf
    unfold editHold
    dsimp only
    split <;> rfl
  · cases hf

end Sys2Proof.Machine
end

section
/-! PROOFS. What an event can do to the branches and the drives, said once (O58): a claim about them that keeps each of these
laws holds after every step. -/

namespace Sys2Proof.Machine

/-- What the claims about meters and drives speak of in a branch. -/
def Branch.registers (b : Branch) : GateMode × GateState × Nat × Nat × Nat × Bool × Nat :=
  (b.mode, b.gate, b.live, b.last, b.flow, b.cascade, b.base)

/-- A claim about the branches and the drives that every operation on them keeps. -/
structure BranchLaw (P : State → Prop) : Prop where
  frame : ∀ {s t}, P s → t.branchSide = s.branchSide → P t
  /-- A branch changed in none of its registers. -/
  touch : ∀ {s} {n : Fin 8} {f : Branch → Branch}, (f s.branches[n]).registers = s.branches[n].registers → P s →
    P (s.modBranch n f)
  /-- A live count written. -/
  live : ∀ {s n v}, v ≤ 65535 → P s → P (s.modBranch n (fun b => { b with live := v }))
  gateOpens : ∀ {s} {n : Fin 8}, s.branches[n].gate = .armed → P s →
    P (s.modBranch n (fun b => { b with gate := .counting, elapsed := 0, live := 0 }))
  gateCloses : ∀ {s} {n : Fin 8}, s.branches[n].gate = .counting → P s → P (s.modBranch n Branch.closeGate)
  setMeter : ∀ {s n k prescale mode}, s.consumed n = false → P s → P (s.setMeter n k prescale mode)
  startCascade : ∀ {s} {n : Fin 8}, isEven n = true → s.branches[n].mode = .openGate → P s → P (s.startCascade n)
  endCascade : ∀ {s n}, P s → P (s.endCascade n)
  setBase : ∀ {s} {n : Fin 8} {w}, w ≤ s.drives[n].travel → P s → P (s.setBase n w)
  storeTarget : ∀ {s n} {v : Drive → Nat}, P s → P (s.modDrive n (fun d => d.storeTarget (v d)))
  configureDrive : ∀ {s n g}, P s → P (s.configureDrive n g)
  homeValve : ∀ {s n home}, P s → P (s.homeValve n home)
  stepExpires : ∀ {s n}, P s → P (s.stepExpires n)
  homingExpires : ∀ {s n home}, P s → P (s.homingExpires n home)
  encoderSample : ∀ {s n a b}, P s → P (s.encoderSample n a b)
  reset : ∀ trip selLow, P (State.afterReset trip selLow)

namespace BranchLaw

variable {P : State → Prop} {s t : State} {n : Fin 8}

/-! ## Gates and counts -/

theorem finish (h : BranchLaw P) (hs : P s) : P s.finish := h.frame hs s.finish_branchSide

theorem overrange (h : BranchLaw P) (hs : P s) : P (s.overrange n) := by
  unfold State.overrange
  split
  · exact hs
  · exact h.frame (h.touch (n := n) (f := fun b => { b with liveOver := true }) rfl hs) rfl

/-- A live count below its top counted on (07 R139). -/
theorem countOn (h : BranchLaw P) (hlt : s.branches[n].live < 65535) (hs : P s) :
    P (s.modBranch n (fun b => { b with live := b.live + 1 })) :=
  h.live (n := n) (v := s.branches[n].live + 1) hlt hs

theorem countEdge (h : BranchLaw P) (hs : P s) : P (s.countEdge n) := by
  unfold State.countEdge
  split
  · unfold State.countCascade
    split
    · next hlow => exact h.countOn hlow hs
    · split
      · next hhigh =>
        refine h.countOn (n := partner n) ?_ (h.live (n := n) (Nat.zero_le 65535) hs)
        rw [State.modBranch_get_ne _ _ (partner_ne n).symm]
        exact hhigh
      · exact h.overrange hs
  · unfold State.countPlain
    split
    · next hlt => exact h.countOn hlt hs
    · exact h.overrange hs

theorem edge (h : BranchLaw P) (hs : P s) : P (s.edge n) := by
  have hdivide : P (s.modBranch n Branch.divide) := by
    refine h.touch ?_ hs
    unfold Branch.divide
    split <;> rfl
  unfold State.edge
  dsimp only
  split
  · exact h.countEdge hdivide
  · exact hdivide

theorem meterEdge (h : BranchLaw P) (hs : P s) : P (s.meterEdge n) := by
  unfold State.meterEdge
  split
  · exact hs
  · split
    · exact h.edge hs
    · exact h.edge hs
    · exact hs

theorem gateStart (h : BranchLaw P) {high : Bool} (hs : P s) : P (s.gateStart n high) := by
  unfold State.gateStart
  split
  · next harmed =>
    have hopen := h.gateOpens harmed hs
    dsimp only
    split
    · exact h.edge hopen
    · exact hopen
  · exact hs

theorem trimClosed (h : BranchLaw P) (hs : P s) : P (s.trimClosed n) := by
  have hdrive := h.storeTarget (n := n) (v := fun d => d.target - s.branches[n].trim) hs
  unfold State.trimClosed
  dsimp only
  split
  · exact hdrive
  · exact h.frame (h.touch (n := n) (f := fun b => { b with overdrawn := true }) rfl hdrive) rfl

theorem relax (h : BranchLaw P) (hs : P s) : P (s.relax n) := by
  unfold State.relax
  dsimp only
  generalize min s.branches[n].base (s.drives[n].target + s.branches[n].trim) = v
  exact h.touch (n := n) (f := fun b => { b with overdrawn := if v = b.base then false else b.overdrawn }) rfl
    (h.storeTarget (n := n) (v := fun _ => v) hs)

theorem regulate (h : BranchLaw P) (hs : P s) : P (s.regulate n) := by
  have hrun := h.touch (n := n) (f := fun b => { b with overRun := b.runAfter b.flow }) rfl hs
  unfold State.regulate
  dsimp only
  split
  · split
    · exact h.trimClosed hrun
    · exact hrun
  · split
    · exact hrun
    · split
      · exact h.relax hrun
      · exact hrun

theorem gateClose (h : BranchLaw P) (hs : P s) : P (s.gateClose n) := by
  unfold State.gateClose
  split
  · next hcount => exact h.regulate (h.gateCloses hcount hs)
  · exact hs

/-! ## Publication and the Timebase -/

theorem publish (h : BranchLaw P) (hs : P s) : P s.publish := by
  cases hsnap : s.engine.snap with
  | some p =>
    rw [State.publish_eq hsnap]
    have hrecs : P ((s.written p).foldl (State.writeRec p) s) :=
      foldl_invariant (fun t r ht => h.frame ht (t.writeRec_branchSide p r)) _ hs
    have hbranch (t : State) (b : Fin 8) (ht : P t) : P (State.writeBranch p t b) := by
      rw [State.writeBranch_eq]
      exact h.frame (h.touch (n := b) (f := p.branchAfter b) rfl ht) rfl
    have hengine (t : State) (ht : P t) : P { t with engine := t.engine.results p (s.written p) } := h.frame ht rfl
    have hbranches := foldl_invariant hbranch (List.finRange 8) (hengine _ hrecs)
    exact h.frame (h.frame hbranches (State.publishCauses_branchSide _ p)) (State.afterPublish_branchSide _)
  | none =>
    rw [State.publish, hsnap]
    exact hs

theorem tickPass (h : BranchLaw P) (hs : P s) : P s.tickPass := by
  unfold State.tickPass
  split
  · split
    · exact h.finish (h.publish hs)
    · exact h.frame hs rfl
  · exact hs

theorem tickGate (h : BranchLaw P) (hs : P s) : P (s.tickGate n) := by
  unfold State.tickGate
  dsimp only
  split
  · exact h.finish (h.gateStart (h.frame (t := { s with free := s.free + 1 }) hs rfl))
  · split
    · exact h.finish (h.gateClose hs)
    · exact h.touch rfl hs
  · exact hs

theorem tickSecond (h : BranchLaw P) (hs : P s) : P s.tickSecond := by
  have hholds := foldl_invariant (fun t id ht => h.frame ht (t.tickHold_branchSide id)) (List.finRange 96) hs
  have hgates := foldl_invariant (f := State.tickGate) (fun _ _ => h.tickGate) (List.finRange 8) hholds
  exact h.frame hgates (State.tickInterval_branchSide _)

theorem tick (h : BranchLaw P) (hs : P s) : P s.tick := by
  have htrip : P ({ s with now := Moment.start } : State).tickTrip :=
    h.finish (h.frame hs (State.sampleTrip_branchSide { s with now := Moment.start } _))
  have hlines := foldl_invariant (fun t l ht => h.frame ht (t.tickLine_branchSide l)) (List.finRange 8) htrip
  have hmilli : P s.milli := h.tickPass hlines
  rw [State.tick_eq]
  generalize s.milli = u at hmilli
  split
  · exact h.tickSecond (h.frame hmilli rfl)
  · exact h.frame hmilli rfl

/-! ## Commands of the host -/

theorem withId (hs : P s) {v : Nat} {k : Fin 96 → State × Result} (hk : ∀ id, P (k id).1) : P (withId s v k).1 := by
  unfold Machine.withId
  split
  · exact hk _
  · exact hs

theorem withUnit (hs : P s) {v : Nat} {k : Fin 8 → State × Result} (hk : ∀ u, P (k u).1) : P (withUnit s v k).1 := by
  unfold Machine.withUnit
  split
  · exact hk _
  · exact hs

theorem withGroup (hs : P s) {v : Nat} {k : Fin 6 → State × Result} (hk : ∀ g, P (k g).1) :
    P (withGroup s v k).1 := by
  unfold Machine.withGroup
  split
  · exact hk _
  · exact hs

/-- The commands of connections and drops leave branches and drives alone. -/
theorem connAct (h : BranchLaw P) (hs : P s) {a : List Byte} : P (doCreateConnection a s).1 ∧ P (doSuspend a s).1 ∧
    P (doResume a s).1 ∧ P (doRetireConnection a s).1 ∧ P (doAddDrop a s).1 ∧ P (doRemoveDrop a s).1 ∧
    P (doClearShortfall a s).1 := by
  refine ⟨withId hs fun id => ?_, withId hs fun id => ?_, withId hs fun id => ?_, withId hs fun id => ?_,
    withId hs fun id => ?_, withId hs fun id => ?_, withId hs fun id => ?_⟩
  · split
    · exact hs
    · refine withUnit hs fun l => h.frame hs ?_
      rw [State.create_eq]
      rfl
  · split
    · exact h.frame hs (s.suspendConn_branchSide id)
    · exact hs
  · split
    · dsimp only
      split
      · exact h.frame hs (s.loseCause_branchSide id .supervisor)
      · exact hs
    · exact hs
  · split
    · exact hs
    · exact h.frame hs (s.retire_branchSide id)
  · split
    · exact hs
    · split
      · exact hs
      · split
        · exact hs
        · split
          · exact hs
          · exact h.frame hs (State.recompute_branchSide (s.takeSlot _) id _)
  · split
    · exact hs
    · split
      · exact hs
      · split
        · exact hs
        · exact h.frame hs (s.removeDropFrom_branchSide id _)
  · split
    · exact hs
    · exact h.frame hs (s.clearStanding_branchSide id)

/-- The commands of the lines leave branches and drives alone. -/
theorem lineAct (h : BranchLaw P) (hs : P s) {a : List Byte} : P (doLineInit a s).1 ∧ P (doStartLine a s).1 ∧
    P (doStopLine a s).1 ∧ P (doLineReset a s).1 ∧ P (doClearLineErrors a s).1 := by
  refine ⟨withUnit hs fun l => ?_, withUnit hs fun l => ?_, withUnit hs fun l => ?_, withUnit hs fun l => ?_,
    withUnit hs fun l => h.frame hs rfl⟩
  · split
    · exact hs
    · split
      · exact h.frame hs rfl
      · exact hs
  · split
    · exact h.frame hs (s.startLine_branchSide l)
    · exact hs
  · split
    · exact hs
    · exact h.frame hs (s.stopLine_branchSide l)
  · exact h.frame hs (s.resetLine_branchSide l)

theorem doSetMeter (h : BranchLaw P) (hs : P s) {a : List Byte} : P (doSetMeter a s).1 := by
  refine withUnit hs fun n => ?_
  split
  · exact hs
  · split
    · exact hs
    · split
      · exact hs
      · next hc => exact h.setMeter (Bool.eq_false_iff.mpr hc) hs

theorem doSetCascade (h : BranchLaw P) (hs : P s) {a : List Byte} : P (doSetCascade a s).1 := by
  refine withUnit hs fun n => ?_
  split
  · exact hs
  · next heven =>
    split
    · exact hs
    · split
      · split
        · next hopen => exact h.startCascade (by simpa using heven) hopen hs
        · exact hs
      · split
        · exact h.endCascade hs
        · exact hs

theorem setLimit (h : BranchLaw P) (hs : P s) {limit : Nat} : P (s.setLimit n limit) := by
  have hwritten := h.touch (n := n) (f := fun b => { b with limit := limit }) rfl hs
  unfold State.setLimit
  dsimp only
  split
  · exact hwritten
  · exact h.frame hwritten rfl

theorem doSetValveDrive (h : BranchLaw P) (hs : P s) {a : List Byte} : P (doSetValveDrive a s).1 := by
  refine withUnit hs fun n => ?_
  split
  · exact hs
  · exact h.configureDrive hs

theorem wholeAct (h : BranchLaw P) (hs : P s) {c : Cmd} {a : List Byte} {home : Bool} : P (wholeAct c a home s).1 := by
  obtain ⟨hcreate, hsuspend, hresume, hretire, hadd, hremove, hclear⟩ := h.connAct hs (a := a)
  obtain ⟨hinit, hstart, hstop, hreset, herrors⟩ := h.lineAct hs (a := a)
  cases c
  case createConnection => exact hcreate
  case suspend => exact hsuspend
  case resume => exact hresume
  case retireConnection => exact hretire
  case addDrop => exact hadd
  case removeDrop => exact hremove
  case setStreamPointer => exact withId hs fun _ => h.frame hs rfl
  case runPass => exact h.frame hs rfl
  case setDemoteThreshold => exact h.frame hs rfl
  case clearShortfall => exact hclear
  case setEmergencyOffer => exact h.frame hs (State.offerTrigger_branchSide { s with plant := _ } _ _)
  case clearTrip =>
    unfold Machine.wholeAct doClearTrip
    dsimp only
    split
    · exact hs
    · exact h.frame hs rfl
  case lineInit => exact hinit
  case startLine => exact hstart
  case stopLine => exact hstop
  case lineReset => exact hreset
  case clearLineErrors => exact herrors
  case setCommsHold => exact h.frame hs rfl
  case setMeter => exact h.doSetMeter hs
  case setBranchLimit => exact withUnit hs fun _ => h.setLimit hs
  case setCascade => exact h.doSetCascade hs
  case setValveDrive => exact h.doSetValveDrive hs
  case homeValve => exact withUnit hs fun _ => h.homeValve hs
  case ackAttention => exact withGroup hs fun _ => h.frame hs rfl
  case setGroupLevel => exact withGroup hs fun _ => h.frame hs rfl
  case setThreshold => exact h.frame hs rfl
  all_goals exact hs

theorem regField (h : BranchLaw P) (hs : P s) {pos : Nat} {f : List Byte} {e : FieldEnd}
    (hf : regField pos f s = some (t, e)) : P t := by
  unfold Machine.regField regBranch at hf
  split at hf
  · split at hf <;> cases hf
    · exact hs
    · exact h.frame hs rfl
  · cases hf
    exact h.setBase (Nat.min_le_left _ _) hs
  · cases hf
    exact h.touch rfl hs
  · cases hf

theorem fieldOf (h : BranchLaw P) (hs : P s) {c : Cmd} {pos : Nat} {f : List Byte} {e : FieldEnd}
    (hf : fieldOf c pos f s = some (t, e)) : P t := by
  unfold Machine.fieldOf at hf
  split at hf
  · exact h.frame hs (editField_branchSide hf)
  · unfold passField at hf
    split at hf <;> cases hf <;> exact h.frame hs rfl
  · unfold offerField at hf
    split at hf <;> cases hf
    · exact h.frame hs (State.offerTrigger_branchSide { s with plant := _ } _ _)
    · exact h.frame hs rfl
  · exact h.regField hs hf
  · cases hf

/-! ## The port byte by byte -/

theorem finishWhole (h : BranchLaw P) (hs : P s) {c : Cmd} {a : List Byte} {home : Bool} : P (s.finishWhole c a home) :=
  h.frame (h.wholeAct hs) rfl

theorem collect (h : BranchLaw P) (hs : P s) {b : Byte} {home : Bool} : P (s.collect b home) := by
  unfold State.collect
  split
  · exact hs
  · split
    · unfold State.collectWhole
      split
      · exact h.frame hs rfl
      · split
        · exact h.finishWhole hs
        · exact h.frame hs rfl
    · unfold State.collectRead
      split <;> exact h.frame hs rfl
    · unfold State.collectField
      split
      · exact h.frame hs rfl
      · next hf =>
        have ht := h.fieldOf hs hf
        unfold State.nextField
        split <;> exact h.frame ht rfl
      · next hf => exact h.frame (h.fieldOf hs hf) rfl

theorem paramByte (h : BranchLaw P) (hs : P s) {b : Byte} {home : Bool} : P (s.paramByte b home) := by
  have ht := h.frame hs s.byteDone_branchSide
  unfold State.paramByte
  split
  · refine h.finish ?_
    split
    · exact ht
    · exact h.collect ht
    · exact h.frame ht rfl
  · exact hs

theorem commandByte (h : BranchLaw P) (hs : P s) {code : Byte} : P (s.commandByte code) := by
  have ht := h.frame hs ((State.endOpen_branchSide _).trans s.byteDone_branchSide)
  unfold State.commandByte
  split
  · refine h.finish ?_
    split
    · unfold State.openCmd
      split
      · split
        · exact h.frame ht rfl
        · exact h.finishWhole ht
      · exact h.frame ht rfl
    · exact h.frame ht rfl
  · exact hs

theorem send (h : BranchLaw P) (hs : P s) {c : Cmd} {params : List Byte} {home : Bool} : P (s.send c params home) :=
  foldl_invariant (P := P) (f := fun t b => t.paramByte b home) (fun _ _ ht => h.paramByte ht) params (h.commandByte hs)

/-! ## Events and steps -/

/-- An event that may find its condition not met. -/
theorem ite {c : Prop} [Decidable c] (hs : P s) (ht : P t) : P (if c then t else s) := by
  split
  · exact ht
  · exact hs

theorem exec (h : BranchLaw P) (hs : P s) {i : Instr} (he : exec i s = .next t) : P t := by
  have key : ∀ {u : State}, P u → (Host.Outcome.next u : Answer) = .next t → P t := by
    rintro u hu he
    cases he
    exact hu
  have still {u : State} (hu : u.branchSide = s.branchSide) : P u.finish := h.finish (h.frame hs hu)
  cases i
  case badCommand code => exact key (h.commandByte hs) he
  case parameterByte b home => exact key (h.paramByte hs) he
  case dataBytePeriod => exact key (ite hs (h.paramByte hs)) he
  case selAssert => exact key (still s.selectPort_branchSide) he
  case selRelease => exact key (still (u := s.releasePort) rfl) he
  case sckFallingEdge rose => exact key (still (s.fallingEdge_branchSide rose)) he
  case partReset trip =>
    refine key (u := { State.afterReset trip s.port.selLow with free := s.free, pending := s.pending }) ?_ he
    exact h.frame (h.reset trip s.port.selLow) rfl
  case tripInputSample asserted => exact key (still (s.sampleTrip_branchSide asserted)) he
  case qualifiedAssertion => exact key (ite (still s.assertTrip_branchSide) hs) he
  case qualifiedDeassertion => exact key (ite hs (still (u := s.deassertTrip) rfl)) he
  case intervalTick => exact key (still s.intervalTick_branchSide) he
  case publication => exact key (h.finish (h.publish hs)) he
  case commsHoldExpiry id => exact key (still (s.holdExpires_branchSide id)) he
  case idleLineSelection l => exact key (still (s.idleSelects_branchSide l)) he
  case pollSpacingExpiry l => exact key (still (s.spacingEnds_branchSide l)) he
  case pollSent l echo =>
    refine key (ite hs (still ?_)) he
    split
    · exact s.checkEcho_branchSide l echo
    · exact s.pollOut_branchSide l
  case replyStart l => exact key (ite hs (still (u := s.modLine l _) rfl)) he
  case responseTimeout l => exact key (still (s.responseExpires_branchSide l)) he
  case frameReceived l bytes => exact key (still (s.frameIn_branchSide l bytes)) he
  case brokenFrame l => exact key (ite hs (still (s.frameBreaks_branchSide l))) he
  case gapLimitExpiry l => exact key (ite hs (still (s.frameBreaks_branchSide l))) he
  case contention l => exact key (ite hs (still (s.lineFaults_branchSide l))) he
  case meterEdge n => exact key (h.finish (h.meterEdge hs)) he
  case gateArmedStart n high => exact key (h.finish (h.gateStart hs)) he
  case gateClose n => exact key (h.finish (h.gateClose hs)) he
  case stepTimerExpiry n => exact key (h.finish (h.stepExpires hs)) he
  case homingStepExpiry n home => exact key (h.finish (h.homingExpires hs)) he
  case encoderSample n a b => exact key (h.finish (h.encoderSample hs)) he
  all_goals exact key (h.send hs) he

/-- Every step keeps a claim that the laws of branches and drives keep. -/
theorem step (h : BranchLaw P) (hs : P s) (he : step s = .next t) : P t := by
  unfold Machine.step at he
  split at he
  · exact Host.Outcome.next.inj he ▸ h.tick hs
  · next rest _ => exact h.exec (s := { s with pending := rest }) (h.frame hs rfl) he

end BranchLaw
end Sys2Proof.Machine
end

section
/-! PROOFS. The meters (O58): gates follow their modes, counts stay within 16 bits, and both halves of a cascade agree. -/

namespace Sys2Proof.Machine

/-- What the claim about the meters says of branch `n` alone. -/
def Branch.MeterRight (n : Fin 8) (b : Branch) : Prop :=
  gateAllowed b.mode b.gate = true ∧ b.live ≤ 65535 ∧ b.last ≤ 65535 ∧ b.flow ≤ 65535 ∧
    (b.cascade = true → b.mode = if isEven n then .openGate else .off)

namespace Branch.MeterRight

variable {n : Fin 8} {b c : Branch}

/-- The claim looks at the registers alone. -/
theorem of_registers (hb : b.MeterRight n) (h : c.registers = b.registers) : c.MeterRight n := by
  simp only [registers, Prod.mk.injEq] at h
  obtain ⟨hmode, hgate, hlive, hlast, hflow, hcascade, -⟩ := h
  rw [MeterRight, hmode, hgate, hlive, hlast, hflow, hcascade]
  exact hb

theorem withLive (hb : b.MeterRight n) {v : Nat} (hv : v ≤ 65535) : ({ b with live := v } : Branch).MeterRight n := by
  obtain ⟨hgate, -, hlast, hflow, hmode⟩ := hb
  exact ⟨hgate, hv, hlast, hflow, hmode⟩

/-- The timed modes, which allow ARMED, allow COUNTING (07 R135). -/
theorem gateAllowed_counting (mode : GateMode) : gateAllowed mode .counting = gateAllowed mode .armed := by
  cases mode <;> rfl

theorem opens (hb : b.MeterRight n) (harmed : b.gate = .armed) :
    ({ b with gate := .counting, elapsed := 0, live := 0 } : Branch).MeterRight n := by
  obtain ⟨hgate, -, hlast, hflow, hmode⟩ := hb
  rw [harmed, ← gateAllowed_counting] at hgate
  exact ⟨hgate, Nat.zero_le _, hlast, hflow, hmode⟩

/-- The last gate count was a live count, and the measured flow saturates (07 R140). -/
theorem closes (hb : b.MeterRight n) : b.closeGate.MeterRight n := by
  obtain ⟨hgate, hlive, -, -, hmode⟩ := hb
  exact ⟨hgate, Nat.zero_le _, hlive, b.measure_le, hmode⟩

/-- A mode starts in a gate state that it allows (07 R136). -/
theorem gateAllowed_start (mode : GateMode) : gateAllowed mode mode.start = true := by cases mode <;> rfl

theorem setMeter (hb : b.MeterRight n) (k prescale : Nat) {mode : GateMode}
    (hmode : b.cascade = true → mode = if isEven n then .openGate else .off) :
    (b.setMeter k prescale mode).MeterRight n := by
  obtain ⟨-, -, hlast, -, -⟩ := hb
  exact ⟨gateAllowed_start mode, Nat.zero_le _, hlast, Nat.zero_le _, hmode⟩

/-- A branch that is no half of a cascade any more. -/
theorem released (hb : b.MeterRight n) : ({ b with cascade := false } : Branch).MeterRight n := by
  obtain ⟨hgate, hlive, hlast, hflow, -⟩ := hb
  exact ⟨hgate, hlive, hlast, hflow, nofun⟩

/-- The high half of a cascade is OFF and its gate SHUT (07 R144). -/
theorem consume (hb : b.MeterRight n) (hodd : isEven n = false) : b.consume.MeterRight n := by
  obtain ⟨hgate, -, hlast, hflow, -⟩ := hb
  have hoff (c : Branch) (hc : c.mode = .off) : c.cascade = true → c.mode = if isEven n then .openGate else .off :=
    fun _ => by rw [hc, hodd]; rfl
  unfold Branch.consume
  split
  · next h => exact ⟨hgate, Nat.zero_le _, hlast, hflow, hoff _ h⟩
  · exact ⟨rfl, Nat.zero_le _, hlast, Nat.zero_le _, hoff _ rfl⟩

end Branch.MeterRight

/-- The claim, cut into what it says of each branch and of each pair. -/
theorem State.metersRight_iff {s : State} : s.MetersRight ↔
    (∀ n : Fin 8, s.branches[n].MeterRight n) ∧ ∀ n : Fin 8, s.branches[n].cascade = s.branches[partner n].cascade := by
  refine ⟨fun h => ⟨fun n => ?_, fun n => ?_⟩, fun ⟨hb, hc⟩ n => ?_⟩
  · obtain ⟨hgate, hlive, hlast, hflow, -, hmode⟩ := h n
    exact ⟨hgate, hlive, hlast, hflow, hmode⟩
  · obtain ⟨-, -, -, -, hcascade, -⟩ := h n
    exact hcascade
  · obtain ⟨hgate, hlive, hlast, hflow, hmode⟩ := hb n
    exact ⟨hgate, hlive, hlast, hflow, hc n, hmode⟩

/-- Two changes of one branch are one. -/
theorem State.modBranch_modBranch (s : State) (n : Fin 8) (f g : Branch → Branch) :
    (s.modBranch n f).modBranch n g = s.modBranch n (fun b => g (f b)) := by
  simp [State.modBranch]

/-! ## Drives -/

section drives
variable (s : State) (n : Fin 8) (home : Bool)

theorem State.homeValve_branches : (s.homeValve n home).branches = s.branches := by
  unfold State.homeValve
  dsimp only
  split <;> rfl

theorem State.stepExpires_branches : (s.stepExpires n).branches = s.branches := by
  unfold State.stepExpires
  split
  · split <;> rfl
  · rfl

theorem State.homingExpires_branches : (s.homingExpires n home).branches = s.branches := by
  unfold State.homingExpires
  split
  · dsimp only
    split
    · rfl
    · split <;> rfl
  · rfl

theorem State.encoderSample_branches (a b : Bool) : (s.encoderSample n a b).branches = s.branches := by
  unfold State.encoderSample
  dsimp only
  split
  · rfl
  · split
    · split <;> rfl
    · split <;> rfl

end drives

/-! ## Branches written -/

namespace State.MetersRight

variable {s t : State} {n : Fin 8}

theorem branch (hs : s.MetersRight) (n : Fin 8) : s.branches[n].MeterRight n := (metersRight_iff.mp hs).1 n

theorem pair (hs : s.MetersRight) (n : Fin 8) : s.branches[n].cascade = s.branches[partner n].cascade :=
  (metersRight_iff.mp hs).2 n

theorem of_branches (hs : s.MetersRight) (h : t.branches = s.branches) : t.MetersRight := by
  rw [MetersRight, h]
  exact hs

/-- One branch written, which stays in its pair as it was. -/
theorem modBranch (hs : s.MetersRight) {f : Branch → Branch} (hb : (f s.branches[n]).MeterRight n)
    (hc : (f s.branches[n]).cascade = s.branches[n].cascade) : (s.modBranch n f).MetersRight := by
  have hcascade (m : Fin 8) : (s.modBranch n f).branches[m].cascade = s.branches[m].cascade := by
    by_cases h : n = m
    · subst h
      rw [modBranch_get_self, hc]
    · rw [modBranch_get_ne _ _ h]
  refine metersRight_iff.mpr ⟨fun m => ?_, fun m => ?_⟩
  · by_cases h : n = m
    · subst h
      rw [modBranch_get_self]
      exact hb
    · rw [modBranch_get_ne _ _ h]
      exact hs.branch m
  · rw [hcascade, hcascade]
    exact hs.pair m

/-- Both branches of a pair written, which agree. -/
theorem modPair (hs : s.MetersRight) {o : Fin 8} (ho : partner n = o) {f g : Branch → Branch}
    (hb : (f s.branches[n]).MeterRight n) (hd : (g s.branches[o]).MeterRight o)
    (hc : (f s.branches[n]).cascade = (g s.branches[o]).cascade) : ((s.modBranch n f).modBranch o g).MetersRight := by
  have hne : o ≠ n := ho ▸ partner_ne n
  have hback : partner o = n := ho ▸ partner_partner n
  generalize ht : (s.modBranch n f).modBranch o g = t
  have hself : t.branches[n] = f s.branches[n] := by
    rw [← ht, modBranch_get_ne _ _ hne, modBranch_get_self]
  have hother : t.branches[o] = g s.branches[o] := by
    rw [← ht, modBranch_get_self, modBranch_get_ne _ _ hne.symm]
  have hrest (m : Fin 8) (hn : n ≠ m) (ho : o ≠ m) : t.branches[m] = s.branches[m] := by
    rw [← ht, modBranch_get_ne _ _ ho, modBranch_get_ne _ _ hn]
  refine metersRight_iff.mpr ⟨fun m => ?_, fun m => ?_⟩
  · by_cases hn : n = m
    · subst hn
      rw [hself]
      exact hb
    · by_cases hm : o = m
      · subst hm
        rw [hother]
        exact hd
      · rw [hrest m hn hm]
        exact hs.branch m
  · by_cases hn : n = m
    · subst hn
      simp only [ho, hself, hother, hc]
    · by_cases hm : o = m
      · subst hm
        simp only [hback, hself, hother, hc]
      · have hn' : n ≠ partner m := fun e => hm (by rw [← ho, e, partner_partner])
        have hm' : o ≠ partner m := fun e => hn (by rw [← hback, e, partner_partner])
        rw [hrest m hn hm, hrest _ hn' hm']
        exact hs.pair m

/-! ## Commands -/

/-- The cascade ends in both halves (07 R146). -/
theorem endCascade (hs : s.MetersRight) : (s.endCascade n).MetersRight :=
  hs.modPair rfl (hs.branch n).released ((hs.branch (partner n)).released.withLive (Nat.zero_le _)) rfl

/-- SET METER leaves a cascaded branch in OPEN or ends its cascade (07 R136, R146). -/
theorem setMeter (hs : s.MetersRight) {k prescale : Nat} {mode : GateMode} (hc : s.consumed n = false) :
    (s.setMeter n k prescale mode).MetersRight := by
  have hb := hs.branch n
  unfold State.setMeter
  dsimp only
  split
  · next hcascaded =>
    obtain ⟨heven, hcascade⟩ := Bool.and_eq_true_iff.mp hcascaded
    split
    · next hopen =>
      refine hs.modPair rfl (hb.setMeter k prescale fun _ => ?_) ((hs.branch (partner n)).withLive (Nat.zero_le _))
        (hs.pair n)
      rw [hopen, heven]
      rfl
    · rw [State.endCascade, modBranch_modBranch]
      exact hs.modPair rfl (hb.released.setMeter k prescale nofun)
        ((hs.branch (partner n)).released.withLive (Nat.zero_le _)) rfl
  · next hplain =>
    have hfree : s.branches[n].cascade = false := by
      cases heven : isEven n
      · simpa [State.consumed, heven] using hc
      · simpa [heven] using hplain
    exact hs.modBranch (hb.setMeter k prescale fun h => absurd (hfree.symm.trans h) (by decide)) rfl

/-- SET CASCADE 1 finds the even branch in OPEN and forces the odd one OFF (07 R143, R144). -/
theorem startCascade (hs : s.MetersRight) (heven : isEven n = true) (hopen : s.branches[n].mode = .openGate) :
    (s.startCascade n).MetersRight := by
  have hodd : isEven (partner n) = false := by rw [isEven_partner, heven]; rfl
  obtain ⟨hgate, -, hlast, hflow, -⟩ := hs.branch n
  exact hs.modPair (n := partner n) (partner_partner n) ((hs.branch (partner n)).consume hodd)
    ⟨hgate, Nat.zero_le _, hlast, hflow, fun _ => by rw [heven]; exact hopen⟩ rfl

/-- Every branch is OFF and every count 0 after reset (07 R154). -/
theorem afterReset (trip selLow : Bool) : (State.afterReset trip selLow).MetersRight := by
  have hreset (m : Fin 8) : (State.afterReset trip selLow).branches[m] = Branch.reset := Vector.getElem_replicate _
  refine metersRight_iff.mpr ⟨fun m => ?_, fun m => ?_⟩
  · rw [hreset]
    exact ⟨rfl, Nat.zero_le _, Nat.zero_le _, Nat.zero_le _, nofun⟩
  · rw [hreset, hreset]

end State.MetersRight

/-- The meters: a claim that the laws of branches and drives keep. -/
theorem metersRight_law : BranchLaw State.MetersRight where
  frame hs h := hs.of_branches (congrArg Prod.fst h)
  touch {s n f} h hs := hs.modBranch ((hs.branch n).of_registers h) (by
    simp only [Branch.registers, Prod.mk.injEq] at h
    obtain ⟨-, -, -, -, -, hcascade, -⟩ := h
    exact hcascade)
  live {s n v} hv hs := hs.modBranch ((hs.branch n).withLive hv) rfl
  gateOpens {s n} harmed hs := hs.modBranch ((hs.branch n).opens harmed) rfl
  gateCloses {s n} _ hs := hs.modBranch (hs.branch n).closes rfl
  setMeter hc hs := hs.setMeter hc
  startCascade heven hopen hs := hs.startCascade heven hopen
  endCascade hs := hs.endCascade
  setBase {s n w} _ hs := hs.modBranch (n := n) (f := fun b => { b with base := w }) (hs.branch n) rfl
  storeTarget hs := hs
  configureDrive {s n g} hs := hs.modBranch (n := n) (f := fun b => { b with base := min b.base g.travel }) (hs.branch n) rfl
  homeValve hs := hs.of_branches (State.homeValve_branches ..)
  stepExpires hs := hs.of_branches (State.stepExpires_branches ..)
  homingExpires hs := hs.of_branches (State.homingExpires_branches ..)
  encoderSample hs := hs.of_branches (State.encoderSample_branches ..)
  reset := State.MetersRight.afterReset

/-- Settles O58: every operation on a branch keeps what is said of it and of its pair, so every step does. -/
theorem everyStepKeepsMeters : Obligations.EveryStepKeepsMeters :=
  fun _ _ hs he => metersRight_law.step hs he

end Sys2Proof.Machine
end

section
/-! PROOFS. The edges of a meter: its divider, its live count, the carry of a cascade and the overrange (O34). -/

namespace Sys2Proof.Machine

/-! ## Branches written -/

/-- One branch written, its old record known. -/
theorem State.modBranch_eq {s : State} {n : Fin 8} {b : Branch} (hb : s.branches[n] = b) (f : Branch → Branch) :
    s.modBranch n f = { s with branches := s.branches.set n (f b) } := by
  rw [← hb]
  rfl

/-- The branch just written. -/
theorem State.written_get (s : State) (n : Fin 8) (b : Branch) :
    ({ s with branches := s.branches.set n b } : State).branches[n] = b := by
  rw [getElem_set_fin, if_pos rfl]

/-- A branch written once more. -/
theorem State.modBranch_written (s : State) (n : Fin 8) (b : Branch) (f : Branch → Branch) :
    ({ s with branches := s.branches.set n b } : State).modBranch n f = { s with branches := s.branches.set n (f b) } := by
  rw [State.modBranch_eq (State.written_get s n b), Vector.set_set]

/-- Another branch written after it. -/
theorem State.modBranch_other (s : State) {n o : Fin 8} (hne : n ≠ o) (b : Branch) (f : Branch → Branch) :
    ({ s with branches := s.branches.set n b } : State).modBranch o f =
      { s with branches := (s.branches.set n b).set o (f s.branches[o]) } :=
  State.modBranch_eq ((getElem_set_fin ..).trans (if_neg hne)) f

/-- The odd branch above an even one is its partner (07 R143). -/
theorem partner_of_even {n o : Fin 8} (hn : n.val % 2 = 0) (ho : o.val = n.val + 1) : partner n = o := by
  revert n o
  decide

/-! ## A counted edge -/

section count
variable {s : State} {n : Fin 8}

/-- A live count below its top counts on, in a cascade or outside (07 R139, R145). -/
theorem State.countEdge_below (h : s.branches[n].live < 65535) :
    s.countEdge n = s.modBranch n (fun b => { b with live := b.live + 1 }) := by
  unfold State.countEdge
  split
  · exact if_pos h
  · exact if_pos h

/-- A full live count that has no count above it to carry into (07 R139, R145). -/
theorem State.countEdge_full (h : 65535 ≤ s.branches[n].live)
    (hup : s.branches[n].cascade = false ∨ 65535 ≤ s.branches[partner n].live) : s.countEdge n = s.overrange n := by
  unfold State.countEdge
  split
  · next hc =>
    have hhigh : 65535 ≤ s.branches[partner n].live :=
      hup.resolve_left fun k => absurd ((Bool.and_eq_true_iff.mp hc).2.symm.trans k) (by decide)
    exact (if_neg (Nat.not_lt.mpr h)).trans (if_neg (Nat.not_lt.mpr hhigh))
  · exact if_neg (Nat.not_lt.mpr h)

/-- The carry of a cascade: the low half at its top, the high half below (07 R145). -/
theorem State.countEdge_carry (heven : isEven n = true) (hc : s.branches[n].cascade = true)
    (h : 65535 ≤ s.branches[n].live) (hup : s.branches[partner n].live < 65535) : s.countEdge n =
      (s.modBranch n (fun b => { b with live := 0 })).modBranch (partner n) (fun b => { b with live := b.live + 1 }) := by
  unfold State.countEdge
  rw [if_pos (by rw [heven, hc]; rfl), State.countCascade, if_neg (Nat.not_lt.mpr h), if_pos hup]

/-- The first counted edge at the top (07 R139). -/
theorem State.overrange_first (h : s.branches[n].liveOver = false) : s.overrange n =
    (s.modBranch n (fun b => { b with liveOver := true })).raiseUnit .meterOverrange n :=
  if_neg (Bool.eq_false_iff.mp h)

/-- A counted edge at the top with the flag set (07 R139; assumption log 38). -/
theorem State.overrange_again (h : s.branches[n].liveOver = true) : s.overrange n = s := if_pos h

end count

/-! ## The divider -/

/-- The divider changes its phase alone (07 R138). -/
theorem Branch.divide_eq (b : Branch) :
    b.divide = { b with divider := if b.prescale = 1 then b.divider else !b.divider } := by
  unfold Branch.divide
  split <;> rfl

/-- An edge that the divider holds back (07 R138). -/
theorem State.edge_held {s : State} {n : Fin 8} {b : Branch} (hb : s.branches[n] = b) (hp : b.prescale ≠ 1)
    (hd : b.divider = false) : s.edge n = { s with branches := s.branches.set n { b with divider := true } } := by
  have hpass : s.branches[n].passes = false := by
    rw [hb, Branch.passes, hd, beq_eq_false_iff_ne.mpr hp]
    rfl
  unfold State.edge
  dsimp only
  rw [hpass, if_neg Bool.false_ne_true, State.modBranch_eq hb, Branch.divide_eq, if_neg hp, hd]
  rfl

/-- An edge that the divider passes on (07 R138). -/
theorem State.edge_passed {s : State} {n : Fin 8} {b : Branch} (hb : s.branches[n] = b) (hpass : b.passes = true) :
    s.edge n = ({ s with branches := s.branches.set n b.divide } : State).countEdge n := by
  unfold State.edge
  dsimp only
  rw [hb, if_pos hpass, State.modBranch_eq hb]

/-- A passed edge below the top (07 R138, R139, R145). -/
theorem State.edge_below {s : State} {n : Fin 8} {b : Branch} (hb : s.branches[n] = b) (hpass : b.passes = true)
    (hlt : b.live < 65535) :
    s.edge n = { s with branches := s.branches.set n { b.divide with live := b.live + 1 } } := by
  have hlive : b.divide.live = b.live := by rw [Branch.divide_eq]
  rw [State.edge_passed hb hpass, State.countEdge_below (by rw [State.written_get, hlive]; exact hlt),
    State.modBranch_written, hlive]

/-- The branch that a passed edge leaves: every edge passes at prescale 1, every second at prescale 2 (07 R138). -/
theorem Branch.passes_of {b d : Branch}
    (h : b.prescale = 1 ∧ d = b ∨ b.prescale ≠ 1 ∧ b.divider = true ∧ d = { b with divider := false }) :
    b.passes = true ∧ b.divide = d ∧ ∃ v, d = { b with divider := v } := by
  rw [Branch.divide_eq, Branch.passes]
  rcases h with ⟨hp, rfl⟩ | ⟨hp, hd, rfl⟩
  · rw [if_pos hp]
    exact ⟨by rw [hp]; rfl, rfl, _, rfl⟩
  · rw [if_neg hp, hd, Bool.or_true]
    exact ⟨rfl, rfl, _, rfl⟩

/-! ## A rising edge -/

/-- A gate that is SHUT or ARMED ignores its input (07 R138). -/
theorem State.meterEdge_ignored {s : State} {n : Fin 8}
    (h : s.branches[n].gate = .shut ∨ s.branches[n].gate = .armed) : s.meterEdge n = s := by
  unfold State.meterEdge
  split
  · rfl
  · rcases h with h | h <;> rw [h]

/-- The odd branch of a cascade ignores its input (07 R144). -/
theorem State.meterEdge_consumed {s : State} {n : Fin 8} (h : s.consumed n = true) : s.meterEdge n = s := if_pos h

/-- A gate that counts passes its input to the divider (07 R138). -/
theorem State.meterEdge_counts {s : State} {n : Fin 8} (hc : s.consumed n = false)
    (h : s.branches[n].gate = .counting ∨ s.branches[n].gate = .totalizing) : s.meterEdge n = s.edge n := by
  refine (if_neg (Bool.eq_false_iff.mp hc)).trans ?_
  rcases h with h | h <;> rw [h]

/-- What a counted edge leaves at the top (07 R139): the flag, and METER_OVERRANGE the first time. -/
theorem State.overrange_written {s : State} (h : s.Settled) (n : Fin 8) (d : Branch) :
    (d.liveOver = false → (({ s with branches := s.branches.set n d } : State).overrange n).finish = ({ s with
      branches := s.branches.set n { d with liveOver := true }
      att := s.att.raiseUnit .meterOverrange n } : State).attend) ∧
    (d.liveOver = true → (({ s with branches := s.branches.set n d } : State).overrange n).finish =
      { s with branches := s.branches.set n d }) := by
  have hget := State.written_get s n d
  refine ⟨fun ho => ?_, fun ho => ?_⟩
  · rw [State.overrange_first (by rw [hget, ho]), State.modBranch_written]
    exact State.finish_of_quiet h.1
  · rw [State.overrange_again (by rw [hget, ho])]
    exact State.finish_of_settled h

/-- Edges of a branch whose gate counts: held back by the divider, or passed on and counted below the top. -/
theorem exec_meterEdge {s : State} {n : Fin 8} {b : Branch} (h : s.Settled) (hb : s.branches[n] = b)
    (hc : s.consumed n = false) (hg : b.gate = .counting ∨ b.gate = .totalizing) :
    (b.prescale ≠ 1 → b.divider = false →
      exec (.meterEdge n) s = .next { s with branches := s.branches.set n { b with divider := true } }) ∧
    (∀ d : Branch, (b.prescale = 1 ∧ d = b ∨ b.prescale ≠ 1 ∧ b.divider = true ∧ d = { b with divider := false }) →
      exec (.meterEdge n) s = .next (({ s with branches := s.branches.set n d } : State).countEdge n).finish ∧
      (b.live < 65535 → exec (.meterEdge n) s = .next { s with
        branches := s.branches.set n { d with live := b.live + 1 } })) := by
  have hexec : exec (.meterEdge n) s = .next (s.edge n).finish :=
    congrArg (fun t : State => Host.Outcome.next t.finish) (State.meterEdge_counts hc (hb ▸ hg))
  refine ⟨fun hp hd => ?_, fun d hd => ?_⟩
  · rw [hexec, State.edge_held hb hp hd]
    exact congrArg _ (State.finish_of_settled h)
  · obtain ⟨hpass, rfl, -⟩ := Branch.passes_of hd
    refine ⟨by rw [hexec, State.edge_passed hb hpass], fun hlt => ?_⟩
    rw [hexec, State.edge_below hb hpass hlt]
    exact congrArg _ (State.finish_of_settled h)

/-- Settles O34: outside a cascade a full count has nothing to carry into; the low half of a cascade carries into its partner
until that is full too. -/
theorem meterEdgesCount : Obligations.MeterEdgesCount := by
  refine ⟨?_, ?_⟩
  · rintro s n _ hset rfl hc
    refine ⟨fun hg => ?_, fun hg => ?_⟩
    · exact congrArg _ ((congrArg State.finish (State.meterEdge_ignored hg)).trans (State.finish_of_settled hset))
    · have hfree : s.consumed n = false := by rw [State.consumed, hc, Bool.and_false]
      obtain ⟨hheld, hpassed⟩ := exec_meterEdge hset rfl hfree hg
      refine ⟨hheld, fun d hd => ?_⟩
      obtain ⟨hcount, hbelow⟩ := hpassed d hd
      obtain ⟨-, -, v, rfl⟩ := Branch.passes_of hd
      obtain ⟨hfirst, hagain⟩ := State.overrange_written hset n { s.branches[n] with divider := v }
      have hfull (htop : 65535 ≤ s.branches[n].live) :=
        State.countEdge_full (s := { s with branches := s.branches.set n { s.branches[n] with divider := v } }) (n := n)
          (by rw [State.written_get]; exact htop) (.inl (by rw [State.written_get]; exact hc))
      refine ⟨hbelow, fun htop ho => ?_, fun htop ho => ?_⟩
      · rw [hcount, hfull htop, hfirst ho]
      · rw [hcount, hfull htop, hagain ho]
  · rintro s n o _ hset hn ho rfl hc hg
    obtain rfl := partner_of_even hn ho
    have heven : isEven n = true := beq_iff_eq.mpr hn
    have hfree : s.consumed n = false := by rw [State.consumed, heven]; rfl
    obtain ⟨hheld, hpassed⟩ := exec_meterEdge hset rfl hfree (.inr hg)
    refine ⟨fun hco => ?_, hheld, fun d hd => ?_⟩
    · have hconsumed : s.consumed (partner n) = true := by rw [State.consumed, isEven_partner, heven, hco]; rfl
      exact congrArg _ ((congrArg State.finish (State.meterEdge_consumed hconsumed)).trans (State.finish_of_settled hset))
    · obtain ⟨hcount, hbelow⟩ := hpassed d hd
      obtain ⟨-, -, v, rfl⟩ := Branch.passes_of hd
      obtain ⟨hfirst, hagain⟩ := State.overrange_written hset n { s.branches[n] with divider := v }
      generalize ht : ({ s with branches := s.branches.set n { s.branches[n] with divider := v } } : State) = t
        at hcount hfirst hagain
      have hself : t.branches[n] = { s.branches[n] with divider := v } := ht ▸ State.written_get ..
      have hother : t.branches[partner n] = s.branches[partner n] := by
        rw [← ht]
        exact (getElem_set_fin ..).trans (if_neg (partner_ne n).symm)
      have hfull (htop : 65535 ≤ s.branches[n].live) (hup : 65535 ≤ s.branches[partner n].live) :
          t.countEdge n = t.overrange n :=
        State.countEdge_full (by rw [hself]; exact htop) (.inr (by rw [hother]; exact hup))
      refine ⟨hbelow, fun htop hup => ?_, fun htop hup hlo => ?_, fun htop hup hlo => ?_⟩
      · rw [hcount, State.countEdge_carry heven (by rw [hself]; exact hc) (by rw [hself]; exact htop)
          (by rw [hother]; exact hup), ← ht, State.modBranch_written, State.modBranch_other _ (partner_ne n).symm]
        exact congrArg _ (State.finish_of_settled hset)
      · rw [hcount, hfull htop hup, hfirst hlo]
      · rw [hcount, hfull htop hup, hagain hlo]

end Sys2Proof.Machine
end

section
/-! PROOFS. A gate that starts and a gate that closes: the first edge, the measured flow and overdraw regulation (O35). -/

namespace Sys2Proof.Machine

/-! ## The start of a gate -/

/-- Only an ARMED gate starts (07 R137, assumption log 4). -/
theorem State.gateStart_other {s : State} {n : Fin 8} (h : s.branches[n].gate ≠ .armed) (high : Bool) :
    s.gateStart n high = s := if_neg h

/-- A gate that has just started (07 R137). -/
def Branch.started (b : Branch) : Branch := { b with gate := .counting, elapsed := 0, live := 0 }

/-- An ARMED gate starts, and a high input is one edge for its divider (07 R137). -/
theorem State.gateStart_eq {s : State} {n : Fin 8} {b : Branch} (hb : s.branches[n] = b) (h : b.gate = .armed)
    (high : Bool) : s.gateStart n high = if high then
      ({ s with branches := s.branches.set n b.started } : State).edge n
      else { s with branches := s.branches.set n b.started } := by
  unfold State.gateStart
  rw [hb, if_pos h, State.modBranch_eq hb]
  rfl

/-- The first edge of a gate: the divider, which kept its phase while the gate was ARMED, passes it or not (07 R137,
R138). -/
theorem State.edge_started {s : State} {n : Fin 8} (b : Branch) :
    ({ s with branches := s.branches.set n b.started } : State).edge n = { s with branches := s.branches.set n { b with
      gate := .counting, elapsed := 0, live := if b.prescale = 1 ∨ b.divider = true then 1 else 0
      divider := if b.prescale = 1 then b.divider else !b.divider } } := by
  have hself := State.written_get s n b.started
  by_cases hpass : b.prescale = 1 ∨ b.divider = true
  · have hpasses : b.started.passes = true := by simpa [Branch.passes, Branch.started] using hpass
    refine (State.edge_below hself hpasses (Nat.zero_lt_succ _)).trans ?_
    rw [Vector.set_set, Branch.divide_eq, if_pos hpass]
    rfl
  · obtain ⟨hp, hd⟩ := not_or.mp hpass
    refine (State.edge_held hself hp (Bool.eq_false_iff.mpr hd)).trans ?_
    rw [Vector.set_set, if_neg hpass, if_neg hp, Bool.eq_false_iff.mpr hd]
    rfl

/-! ## Overdraw regulation -/

section regulation
variable {s : State} {n : Fin 8} {b : Branch} (hb : s.branches[n] = b)
include hb

/-- A trim of the target (07 R149): OVERDRAWN is set, and reported when it was clear. -/
theorem State.trimClosed_eq : s.trimClosed n = { s with
    branches := s.branches.set n { b with overdrawn := true }
    drives := s.drives.set n (s.drives[n].storeTarget (s.drives[n].target - b.trim))
    att := if b.overdrawn then s.att else s.att.raiseUnit .overdrawn n } := by
  subst hb
  unfold State.trimClosed
  dsimp only
  cases hover : s.branches[n].overdrawn with
  | false =>
    rw [if_neg Bool.false_ne_true, if_neg Bool.false_ne_true]
    rfl
  | true =>
    have hself : s.branches.set n { s.branches[n] with overdrawn := true } = s.branches := by
      rw [← hover]
      exact Vector.set_getElem_self _
    rw [if_pos rfl, if_pos rfl, hself]
    rfl

/-- A relaxation of an OVERDRAWN branch, which ends at its base (07 R149, R150). -/
theorem State.relax_eq (h : b.overdrawn = true) {v : Nat} (hv : v = min b.base (s.drives[n].target + b.trim)) :
    s.relax n = { s with
      branches := s.branches.set n { b with overdrawn := decide (v ≠ b.base) }
      drives := s.drives.set n (s.drives[n].storeTarget v) } := by
  have hdrawn : decide (v ≠ b.base) = if v = b.base then false else b.overdrawn := by
    rw [h]
    by_cases hvb : v = b.base <;> simp [hvb]
  rw [hdrawn, hv]
  subst hb
  rfl

/-- Overdraw regulation, once the run has been counted (07 R149). -/
theorem State.regulate_eq {run : Nat} (hrun : b.runAfter b.flow = run) {t : State}
    (ht : t = { s with branches := s.branches.set n { b with overRun := run } }) : s.regulate n =
      if bandTop b.limit < b.flow then (if 3 ≤ run then t.trimClosed n else t)
      else if b.limit < b.flow then t
      else if b.overdrawn then t.relax n
      else t := by
  subst hb hrun ht
  rfl

/-- The gate above the band that is not the third in a row (07 R149). -/
theorem State.regulate_above {run : Nat} (hover : bandTop b.limit < b.flow) (hr : run = satSucc 255 b.overRun)
    (hrun : run < 3) : s.regulate n = { s with branches := s.branches.set n { b with overRun := run } } := by
  rw [State.regulate_eq hb ((if_pos hover).trans hr.symm) rfl, if_pos hover, if_neg (Nat.not_le.mpr hrun)]

/-- The third gate in a row above the band (07 R149). -/
theorem State.regulate_trims {run : Nat} (hover : bandTop b.limit < b.flow) (hr : run = satSucc 255 b.overRun)
    (hrun : 3 ≤ run) : s.regulate n = { s with
      branches := s.branches.set n { b with overRun := run, overdrawn := true }
      drives := s.drives.set n (s.drives[n].storeTarget (s.drives[n].target - b.trim))
      att := if b.overdrawn then s.att else s.att.raiseUnit .overdrawn n } := by
  rw [State.regulate_eq hb ((if_pos hover).trans hr.symm) rfl, if_pos hover, if_pos hrun,
    State.trimClosed_eq (State.written_get ..), Vector.set_set]

/-- A flow within the band, or at most the limit with OVERDRAWN clear, ends the run (07 R149). -/
theorem State.regulate_rests (hband : b.flow ≤ bandTop b.limit) (h : b.limit < b.flow ∨ b.overdrawn = false) :
    s.regulate n = { s with branches := s.branches.set n { b with overRun := 0 } } := by
  rw [State.regulate_eq hb (if_neg (Nat.not_lt.mpr hband)) rfl, if_neg (Nat.not_lt.mpr hband)]
  split
  · rfl
  · next hlim => exact if_neg (Bool.eq_false_iff.mp (h.resolve_left hlim))

/-- A flow at most the limit relaxes an OVERDRAWN branch (07 R149). -/
theorem State.regulate_relaxes (hlim : b.flow ≤ b.limit) (h : b.overdrawn = true) {v : Nat}
    (hv : v = min b.base (s.drives[n].target + b.trim)) : s.regulate n = { s with
      branches := s.branches.set n { b with overRun := 0, overdrawn := decide (v ≠ b.base) }
      drives := s.drives.set n (s.drives[n].storeTarget v) } := by
  have hband : ¬ bandTop b.limit < b.flow := Nat.not_lt.mpr (hlim.trans (Nat.le_add_right _ _))
  rw [State.regulate_eq hb (if_neg hband) rfl, if_neg hband, if_neg (Nat.not_lt.mpr hlim), if_pos h,
    State.relax_eq (b := { b with overRun := 0 }) (State.written_get ..) h hv, Vector.set_set]

end regulation

/-- A gate that closes (07 R140). -/
theorem State.gateClose_eq {s : State} {n : Fin 8} (h : s.branches[n].gate = .counting) : s.gateClose n =
    ({ s with branches := s.branches.set n s.branches[n].closeGate } : State).regulate n := if_pos h

/-- Settles O35: the gate that closes is written first, and regulation acts on what was written. -/
theorem gatesOpenAndClose : Obligations.GatesOpenAndClose := by
  refine ⟨?_, ?_⟩
  · rintro s n _ hset rfl
    refine ⟨fun hg high => ?_, fun hg _ => ⟨?_, ?_⟩⟩
    · exact congrArg _ ((congrArg State.finish (State.gateStart_other hg high)).trans (State.finish_of_settled hset))
    · exact congrArg _ ((congrArg State.finish (State.gateStart_eq rfl hg false)).trans (State.finish_of_settled hset))
    · exact congrArg _ ((congrArg State.finish ((State.gateStart_eq rfl hg true).trans (State.edge_started _))).trans
        (State.finish_of_settled hset))
  · rintro s n _ c q run v hset rfl rfl rfl rfl rfl
    refine ⟨fun hg => ?_, fun hg => ?_⟩
    · exact congrArg _ ((congrArg State.finish (if_neg hg)).trans (State.finish_of_settled hset))
    · have hclosed := State.written_get s n s.branches[n].closeGate
      have key {t : State} (ht : ({ s with branches := s.branches.set n s.branches[n].closeGate } : State).regulate n = t) :
          exec (.gateClose n) s = .next t.finish :=
        congrArg (fun t : State => Host.Outcome.next t.finish) ((State.gateClose_eq hg).trans ht)
      refine ⟨fun hover hrun => ?_, fun hover hrun => ?_, fun hlim hband => ?_, fun hlim hdrawn => ?_,
        fun hlim hdrawn => ?_⟩
      · rw [key (State.regulate_above hclosed hover rfl hrun), Vector.set_set]
        exact congrArg _ (State.finish_of_settled hset)
      · rw [key (State.regulate_trims hclosed hover rfl hrun), Vector.set_set]
        exact congrArg _ (State.finish_of_quiet hset.1)
      · rw [key (State.regulate_rests hclosed hband (.inl hlim)), Vector.set_set]
        exact congrArg _ (State.finish_of_settled hset)
      · rw [key (State.regulate_rests hclosed (hlim.trans (Nat.le_add_right _ _)) (.inr hdrawn)), Vector.set_set]
        exact congrArg _ (State.finish_of_settled hset)
      · rw [key (State.regulate_relaxes hclosed hlim hdrawn rfl), Vector.set_set]
        exact congrArg _ (State.finish_of_settled hset)

end Sys2Proof.Machine
end

section
/-! PROOFS. SET METER and SET CASCADE on a ready port (O31, O33). -/

namespace Sys2Proof.Machine

/-! ## SET METER -/

/-- The byte event that completes SET METER, its five parameter bytes sent to a ready port. -/
theorem State.send_setMeter {s : State} (h : s.Ready) (a k l p m : Byte) : s.send .setMeter [a, k, l, p, m] false =
    ((s.acting .setMeter 4 [a, k, l, p]).finishWhole .setMeter [a, k, l, p, m] false).finish :=
  State.send_whole h rfl [a, k, l, p] m false (by decide : 4 < 5) rfl rfl

/-- The five gate modes have the codes 0 to 4 (07 R136). -/
theorem gateModeOf_code (g : GateMode) : gateModeOf g.code = some g := by cases g <;> rfl

theorem gateModeOf_eq_none {v : Nat} (h : 4 < v) : gateModeOf v = none := by
  obtain ⟨w, rfl⟩ := Nat.exists_eq_add_of_lt h
  rw [show 4 + w + 1 = w + 5 by omega]
  rfl

/-- SET METER on a branch: its checks (07 R136). -/
theorem doSetMeter_eq {s : State} {n : Fin 8} {a : Byte} (ha : a.toNat = n.val) (k l p m : Byte) :
    doSetMeter [a, k, l, p, m] s =
      if p.toNat ≠ 1 ∧ p.toNat ≠ 2 then (s, .badParam)
      else match gateModeOf m.toNat with
        | none => (s, .badParam)
        | some mode =>
          if s.consumed n then (s, .badState)
          else (s.setMeter n (max 1 (k.toNat * 256 + l.toNat)) p.toNat mode,
            clampResult (k.toNat * 256 + l.toNat == 0)) :=
  withUnit_unit (u := n) ha

theorem doSetMeter_badParam {s : State} {a p m : Byte} (h : 7 < a.toNat ∨ (p.toNat ≠ 1 ∧ p.toNat ≠ 2) ∨ 4 < m.toNat)
    (k l : Byte) : doSetMeter [a, k, l, p, m] s = (s, .badParam) := by
  by_cases ha : 7 < a.toNat
  · exact withUnit_bad ha
  · have hlt : a.toNat < 8 := by omega
    rw [doSetMeter_eq (n := ⟨a.toNat, hlt⟩) rfl]
    split
    · rfl
    · next hp =>
      rw [gateModeOf_eq_none ((h.resolve_left ha).resolve_left hp)]

/-- SET METER with a good prescale and mode byte (07 R136). -/
theorem doSetMeter_mode {s : State} {n : Fin 8} {a p m : Byte} {g : GateMode} (ha : a.toNat = n.val)
    (hp : p.toNat = 1 ∨ p.toNat = 2) (hm : m.toNat = g.code) (k l : Byte) : doSetMeter [a, k, l, p, m] s =
      if s.consumed n then (s, .badState)
      else (s.setMeter n (max 1 (k.toNat * 256 + l.toNat)) p.toNat g, clampResult (k.toNat * 256 + l.toNat == 0)) := by
  rw [doSetMeter_eq ha, if_neg (by omega), hm, gateModeOf_code]

/-- SET METER on a branch of no cascade (07 R136). -/
theorem State.setMeter_plain {s : State} {n : Fin 8} {b : Branch} (hb : s.branches[n] = b) (hc : b.cascade = false)
    (k p : Nat) (g : GateMode) : s.setMeter n k p g = { s with branches := s.branches.set n (b.setMeter k p g) } := by
  refine (if_neg ?_).trans (State.modBranch_eq hb _)
  rw [hb, hc, Bool.and_false]
  exact Bool.false_ne_true

/-- SET METER on the even branch of a cascade: OPEN restarts the total, and any other mode ends the cascade (07 R146). -/
theorem State.setMeter_cascaded {s : State} {n o : Fin 8} {b : Branch} (hb : s.branches[n] = b) (hc : b.cascade = true)
    (hn : n.val % 2 = 0) (ho : o.val = n.val + 1) (k p : Nat) (g : GateMode) : s.setMeter n k p g = { s with
      branches := if g = .openGate then (s.branches.set n (b.setMeter k p g)).set o { s.branches[o] with live := 0 }
        else (s.branches.set n { b.setMeter k p g with cascade := false }).set o
          { s.branches[o] with cascade := false, live := 0 } } := by
  obtain rfl := partner_of_even hn ho
  have hne : n ≠ partner n := (partner_ne n).symm
  refine (if_pos ?_).trans ?_
  · rw [hb, hc, isEven, hn]
    rfl
  · rw [State.modBranch_eq hb, State.endCascade, State.modBranch_written, State.modBranch_other _ hne,
      State.modBranch_other _ hne]
    split <;> rfl

/-- SET METER's result: CLAMPED when K was 0 (07 R136). -/
theorem setMeter_result (k l : Nat) : clampResult (k * 256 + l == 0) = okOrClamped (k = 0 ∧ l = 0) := by
  have hzero : (k * 256 + l == 0) = decide (k = 0 ∧ l = 0) := by
    rw [beq_eq_decide]
    exact decide_eq_decide.mpr (by omega)
  rw [hzero]
  rfl

/-- SET METER accepted, on a ready port (07 R136). -/
theorem exec_setMeter {s u : State} {n : Fin 8} {a p m : Byte} {g : GateMode} (h : s.Ready) (ha : a.toNat = n.val)
    (hp : p.toNat = 1 ∨ p.toNat = 2) (hm : m.toNat = g.code) (hc : s.consumed n = false) (k l : Byte)
    (hu : (s.acting .setMeter 4 [a, k, l, p]).setMeter n (max 1 (k.toNat * 256 + l.toNat)) p.toNat g = u) :
    exec (.setMeter [a, k, l, p, m]) s = .next (u.closeWith (okOrClamped (k.toNat = 0 ∧ l.toNat = 0))).finish := by
  have hdo := (doSetMeter_mode (s := s.acting .setMeter 4 [a, k, l, p]) ha hp hm k l).trans
    (if_neg (Bool.eq_false_iff.mp hc))
  rw [hu, setMeter_result] at hdo
  exact congrArg _ ((State.send_setMeter h a k l p m).trans (State.finishWhole_act (c := .setMeter) hdo))

/-- Settles O31: the settings are those of `Branch.setMeter`, written into a branch of no cascade or into the even one of a
pair. -/
theorem setMeterActs : Obligations.SetMeterActs := by
  intro s a k l p m h
  refine ⟨fun hbad => ?_, ?_⟩
  · refine congrArg Host.Outcome.next ((State.send_setMeter h a k l p m).trans ?_)
    exact State.finishWhole_refused h.2.2 (doSetMeter_badParam hbad k l)
  · rintro n o _ c g ha rfl hp hm
    refine ⟨fun ⟨hodd, hc⟩ => ?_, fun hset => ?_⟩
    · have hconsumed : s.consumed n = true := by rw [State.consumed, isEven, hodd, hc]; rfl
      refine congrArg Host.Outcome.next ((State.send_setMeter h a k l p m).trans ?_)
      exact State.finishWhole_refused h.2.2 ((doSetMeter_mode ha hp hm k l).trans (if_pos hconsumed))
    · have hwritten : c = s.branches[n].setMeter (max 1 (k.toNat * 256 + l.toNat)) p.toNat g := by
        rw [hset]
        cases g <;> rfl
      rw [hwritten]
      refine ⟨fun hc => ?_, fun hn hc ho => ?_⟩
      · have hfree : s.consumed n = false := by rw [State.consumed, hc, Bool.and_false]
        rw [exec_setMeter h ha hp hm hfree k l
          (State.setMeter_plain (s := s.acting .setMeter 4 [a, k, l, p]) rfl hc _ _ _)]
        exact congrArg _ (State.finish_of_settled h.2.2)
      · have hfree : s.consumed n = false := by rw [State.consumed, isEven, hn]; rfl
        rw [exec_setMeter h ha hp hm hfree k l
          (State.setMeter_cascaded (s := s.acting .setMeter 4 [a, k, l, p]) rfl hc hn ho _ _ _)]
        exact congrArg _ (State.finish_of_settled h.2.2)

/-! ## SET CASCADE -/

/-- SET CASCADE on a branch: its checks in order (07 R143). -/
theorem doSetCascade_eq {s : State} {n : Fin 8} {a : Byte} (ha : a.toNat = n.val) (v : Byte) : doSetCascade [a, v] s =
    if !isEven n then (s, .badParam)
    else if 1 < v.toNat then (s, .badParam)
    else if v.toNat = 1 then
      if s.branches[n].mode = .openGate then (s.startCascade n, .ok) else (s, .badState)
    else if s.branches[n].cascade then (s.endCascade n, .ok)
    else (s, .ok) :=
  withUnit_unit (u := n) ha

theorem doSetCascade_badParam {s : State} {a v : Byte} (h : 7 < a.toNat ∨ a.toNat % 2 = 1 ∨ 1 < v.toNat) :
    doSetCascade [a, v] s = (s, .badParam) := by
  by_cases ha : 7 < a.toNat
  · exact withUnit_bad ha
  · have hlt : a.toNat < 8 := by omega
    rw [doSetCascade_eq (n := ⟨a.toNat, hlt⟩) rfl]
    split
    · rfl
    · next heven =>
      refine if_pos ((h.resolve_left ha).resolve_left fun hodd => heven ?_)
      simp [isEven, hodd]

/-- SET CASCADE on an even branch with a setting (07 R143, R144, R146). -/
theorem doSetCascade_even {s : State} {n : Fin 8} {a : Byte} (ha : a.toNat = n.val) (hn : n.val % 2 = 0) (v : Byte) :
    (v.toNat = 1 → doSetCascade [a, v] s =
      if s.branches[n].mode = .openGate then (s.startCascade n, .ok) else (s, .badState)) ∧
    (v.toNat = 0 → doSetCascade [a, v] s = if s.branches[n].cascade then (s.endCascade n, .ok) else (s, .ok)) := by
  have heven : ¬ (!isEven n) = true := by
    rw [isEven, hn]
    decide
  refine ⟨fun hv => ?_, fun hv => ?_⟩
  · rw [doSetCascade_eq ha, if_neg heven, hv, if_neg (Nat.lt_irrefl 1), if_pos rfl]
  · rw [doSetCascade_eq ha, if_neg heven, hv, if_neg (by decide), if_neg (by decide)]

/-- The high half of a cascade: OFF, unless it was, and in either case consumed with its count at 0 (07 R144). -/
theorem Branch.consume_eq (d : Branch) : d.consume =
    if d.mode = .off then { d with cascade := true, live := 0, liveOver := false }
    else { d with cascade := true, live := 0, liveOver := false, mode := .off, gate := .shut, divider := false,
                  elapsed := 0, flow := 0, flowValid := false, overRun := 0 } := by
  unfold Branch.consume
  split <;> rfl

/-- A cascade that starts (07 R144). -/
theorem State.startCascade_eq {s : State} {n o : Fin 8} (ho : partner n = o) : s.startCascade n = { s with
    branches := (s.branches.set o s.branches[o].consume).set n
      { s.branches[n] with cascade := true, live := 0, liveOver := false } } := by
  subst ho
  exact State.modBranch_other s (partner_ne n) _ _

/-- A cascade that ends (07 R146). -/
theorem State.endCascade_eq {s : State} {n o : Fin 8} (ho : partner n = o) : s.endCascade n = { s with
    branches := (s.branches.set n { s.branches[n] with cascade := false }).set o
      { s.branches[o] with cascade := false, live := 0 } } := by
  subst ho
  exact State.modBranch_other s (partner_ne n).symm _ _

/-- Settles O33. -/
theorem setCascadeActs : Obligations.SetCascadeActs := by
  intro s a v h
  refine ⟨fun hbad => ?_, ?_⟩
  · exact congrArg _ (exec_two_refused h .setCascade a v false (doSetCascade_badParam hbad))
  · rintro n o _ _ ha hn ho rfl rfl
    have hpartner := partner_of_even hn ho
    obtain ⟨hone, hzero⟩ := doSetCascade_even (s := s.acting .setCascade 1 [a]) ha hn v
    refine ⟨fun hv hmode => ?_, fun hv hmode => ?_, fun hv hc => ?_, fun hv hc => ?_⟩
    · exact congrArg _ (exec_two_refused h .setCascade a v false ((hone hv).trans (if_neg hmode)))
    · rw [← Branch.consume_eq]
      have hact := (hone hv).trans ((if_pos hmode).trans (congrArg (·, Result.ok) (State.startCascade_eq hpartner)))
      exact congrArg _ ((exec_two_act h .setCascade a v false hact).trans (State.finish_of_settled h.2.2))
    · have hact := (hzero hv).trans (if_neg (Bool.eq_false_iff.mp hc))
      exact congrArg _ ((exec_two_act h .setCascade a v false hact).trans (State.finish_of_settled h.2.2))
    · have hact := (hzero hv).trans ((if_pos hc).trans (congrArg (·, Result.ok) (State.endCascade_eq hpartner)))
      exact congrArg _ ((exec_two_act h .setCascade a v false hact).trans (State.finish_of_settled h.2.2))

end Sys2Proof.Machine
end

section
/-! PROOFS. SET BRANCH LIMIT and SET REGULATION on a ready port (O32). -/

namespace Sys2Proof.Machine

/-! ## SET BRANCH LIMIT -/

/-- The byte event that completes SET BRANCH LIMIT, its three parameter bytes sent to a ready port. -/
theorem State.send_setBranchLimit {s : State} (h : s.Ready) (a k l : Byte) : s.send .setBranchLimit [a, k, l] false =
    ((s.acting .setBranchLimit 2 [a, k]).finishWhole .setBranchLimit [a, k, l] false).finish :=
  State.send_whole h rfl [a, k] l false (by decide : 2 < 3) rfl rfl

theorem doSetBranchLimit_badParam {s : State} {a : Byte} (ha : 7 < a.toNat) (k l : Byte) :
    doSetBranchLimit [a, k, l] s = (s, .badParam) := withUnit_bad ha

/-- A limit stored: one that differs sets pending (07 R147). -/
theorem State.setLimit_eq (s : State) (n : Fin 8) (limit : Nat) : s.setLimit n limit = { s with
    branches := s.branches.set n { s.branches[n] with limit := limit }
    engine := { s.engine with pend := s.engine.pend || decide (limit ≠ s.branches[n].limit) } } := by
  unfold State.setLimit
  dsimp only
  split
  next h => rw [decide_eq_false (not_not.mpr h), Bool.or_false]; rfl
  next h => rw [decide_eq_true h, Bool.or_true]; rfl

theorem doSetBranchLimit_eq {s : State} {n : Fin 8} {a : Byte} (ha : a.toNat = n.val) (k l : Byte) :
    doSetBranchLimit [a, k, l] s = (s.setLimit n (k.toNat * 256 + l.toNat), .ok) := withUnit_unit (u := n) ha

/-! ## SET REGULATION byte by byte -/

/-- A field refused (09 R184). -/
theorem State.collectField_refused {s t : State} {c : Cmd} {f : List Byte} {r : Result}
    (hf : fieldOf c (s.port.pos + 1) f s = some (t, .refused r)) : s.collectField c f = t.closeWith r := by
  rw [State.collectField, hf]

/-- The branch byte of SET REGULATION (07 R151). -/
theorem regField_branch {s : State} {a : Byte} (ha : a.toNat ≤ 7) :
    fieldOf .setRegulation 1 [a] s = some (s.setTarget a.toNat, .applied false) :=
  congrArg some (if_neg (Nat.not_lt.mpr ha))

theorem regField_badParam {s : State} {a : Byte} (ha : 7 < a.toNat) :
    fieldOf .setRegulation 1 [a] s = some (s, .refused .badParam) := congrArg some (if_pos ha)

/-- The branch that the branch byte has named. -/
theorem State.regTarget_eq {s : State} {n : Fin 8} (h : s.port.target = n.val) : s.regTarget = n := by
  rw [State.regTarget, h]
  exact Fin.ext (Nat.mod_eq_of_lt n.isLt)

/-- The base field: the base brought into the travel of the drive (07 R151). -/
theorem regField_base {s : State} {n : Fin 8} (h : s.port.target = n.val) (a b : Byte) {w : Nat}
    (hw : w = min s.drives[n].travel (a.toNat * 256 + b.toNat)) :
    fieldOf .setRegulation 3 [a, b] s = some (s.setBase n w, .applied (w != a.toNat * 256 + b.toNat)) := by
  subst hw
  exact congrArg (fun m => some (regBase m (a.toNat * 256 + b.toNat) s)) (State.regTarget_eq h)

/-- The trim field: at least 1 (07 R151). -/
theorem regField_trim {s : State} {n : Fin 8} (h : s.port.target = n.val) (v : Byte) :
    fieldOf .setRegulation 4 [v] s = some (s.modBranch n (fun b => { b with trim := max 1 v.toNat }),
      .applied (max 1 v.toNat != v.toNat)) :=
  congrArg (fun m => some (regTrim m v.toNat s)) (State.regTarget_eq h)

section bytes
variable {s : State} (h : s.Settled) {p : Port} (hl : p.listening = true)
include hl

/-- A parameter byte of an open SET REGULATION, whatever branch it has named (09 R184). -/
theorem State.paramByte_regulation (pos : Nat) (held : List Byte) (n : Nat) (cl : Bool) (b : Byte) :
    ({ s with port := p.opened .setRegulation pos held n cl } : State).paramByte b false =
      (({ s with port := (p.opened .setRegulation pos held n cl).period 0 } : State).collectField .setRegulation
        (held ++ [b])).finish := by
  have hsel : p.selLow = true ∧ p.seenHigh = true := (Port.listening_iff _).mp hl
  exact State.paramByte_field (s := { s with port := p.opened .setRegulation pos held n cl })
    ((Port.listening_iff _).mpr hsel) rfl rfl rfl b false

include h

/-- The branch byte that names a branch. -/
theorem State.paramByte_regulation_branch {n : Fin 8} {a : Byte} (ha : a.toNat = n.val) :
    ({ s with port := p.opened .setRegulation 0 [] 0 false } : State).paramByte a false =
      { s with port := p.opened .setRegulation 1 [] n.val false } := by
  have hf := regField_branch (s := { s with port := (p.opened .setRegulation 0 [] 0 false).period 0 }) (a := a) (by omega)
  rw [State.paramByte_regulation hl, List.nil_append, State.collectField_applied hf, ha, State.nextField,
    if_neg (by exact (by decide : ¬ 0 + 1 = 4))]
  exact State.finish_of_settled h

/-- The branch byte that names none. -/
theorem State.paramByte_regulation_badParam {a : Byte} (ha : 7 < a.toNat) :
    ({ s with port := p.opened .setRegulation 0 [] 0 false } : State).paramByte a false =
      { s with port := p.closed .badParam } := by
  have hf := regField_badParam (s := { s with port := (p.opened .setRegulation 0 [] 0 false).period 0 }) ha
  rw [State.paramByte_regulation hl, List.nil_append, State.collectField_refused hf]
  exact State.finish_of_settled h

/-- The two bytes of the base field. -/
theorem State.paramByte_regulation_base (n : Fin 8) (cl : Bool) (a b : Byte) {w : Nat}
    (hw : w = min s.drives[n].travel (a.toNat * 256 + b.toNat)) :
    (({ s with port := p.opened .setRegulation 1 [] n.val cl } : State).paramByte a false).paramByte b false =
      { s.setBase n w with port := p.opened .setRegulation 3 [] n.val (cl || (w != a.toNat * 256 + b.toNat)) } := by
  have hheld : ({ s with port := p.opened .setRegulation 1 [] n.val cl } : State).paramByte a false =
      { s with port := p.opened .setRegulation 2 [a] n.val cl } := by
    rw [State.paramByte_regulation hl, State.collectField_none rfl]
    exact State.finish_of_settled h
  have hf := regField_base (s := { s with port := (p.opened .setRegulation 2 [a] n.val cl).period 0 }) rfl a b hw
  rw [hheld, State.paramByte_regulation hl, List.singleton_append, State.collectField_applied hf, State.nextField,
    if_neg (by exact (by decide : ¬ 2 + 1 = 4))]
  exact State.finish_of_settled h

/-- The byte of the trim field, the last of the command. -/
theorem State.paramByte_regulation_trim (n : Fin 8) (cl : Bool) (v : Byte) :
    ({ s with port := p.opened .setRegulation 3 [] n.val cl } : State).paramByte v false =
      { s.modBranch n (fun b => { b with trim := max 1 v.toNat }) with
        port := p.closed (clampResult (cl || (max 1 v.toNat != v.toNat))) } := by
  have hf := regField_trim (s := { s with port := (p.opened .setRegulation 3 [] n.val cl).period 0 }) (n := n) rfl v
  rw [State.paramByte_regulation hl, List.nil_append, State.collectField_applied hf, State.nextField, if_pos (by rfl)]
  exact State.finish_of_settled h

end bytes

/-- A branch changed after its base was stored. -/
theorem State.setBase_modBranch (s : State) (n : Fin 8) (w : Nat) (f : Branch → Branch) :
    (s.setBase n w).modBranch n f = { s with
      branches := s.branches.set n (f { s.branches[n] with base := w })
      drives := s.drives.set n
        (s.drives[n].storeTarget (if s.branches[n].overdrawn then min s.drives[n].target w else w)) } :=
  State.modBranch_written
    { s with
      drives := s.drives.set n
        (s.drives[n].storeTarget (if s.branches[n].overdrawn then min s.drives[n].target w else w)) }
    n { s.branches[n] with base := w } f

/-- Settles O32. -/
theorem limitAndRegulationSettings : Obligations.LimitAndRegulationSettings := by
  refine ⟨fun s a k l h => ⟨fun ha => ?_, fun n ha => ?_⟩, fun s a k l v h => ⟨fun ha => ?_, ?_⟩⟩
  · refine congrArg Host.Outcome.next ((State.send_setBranchLimit h a k l).trans ?_)
    exact State.finishWhole_refused h.2.2 (doSetBranchLimit_badParam ha k l)
  · have hact := (doSetBranchLimit_eq (s := s.acting .setBranchLimit 2 [a, k]) ha k l).trans
      (congrArg (·, Result.ok) (State.setLimit_eq _ n _))
    refine congrArg Host.Outcome.next ((State.send_setBranchLimit h a k l).trans ?_)
    exact (State.finishWhole_act (c := .setBranchLimit) hact).trans (State.finish_of_settled h.2.2)
  · have hopen : s.send .setRegulation [] false = _ := State.send_field_nil h (by decide)
    refine congrArg Host.Outcome.next ?_
    exact (congrArg (State.paramByte · a false) hopen).trans (State.paramByte_regulation_badParam h.2.2 h.1 ha)
  · rintro n w ha hw
    have hopen : s.send .setRegulation [] false = _ := State.send_field_nil h (by decide)
    have hbranch : s.send .setRegulation [a] false = _ :=
      (congrArg (State.paramByte · a false) hopen).trans (State.paramByte_regulation_branch h.2.2 h.1 ha)
    have hbase : s.send .setRegulation [a, k, l] false = _ :=
      (congrArg (fun t => (State.paramByte t k false).paramByte l false) hbranch).trans
        (State.paramByte_regulation_base h.2.2 h.1 n false k l hw)
    have htrim : s.send .setRegulation [a, k, l, v] false = _ :=
      (congrArg (State.paramByte · v false) hbase).trans
        (State.paramByte_regulation_trim (s := s.setBase n w) h.2.2 h.1 n _ v)
    have hclamped : (w != k.toNat * 256 + l.toNat) = decide (w ≠ k.toNat * 256 + l.toNat) := by
      rw [bne, beq_eq_decide, decide_not]
    have hzero : (max 1 v.toNat != v.toNat) = decide (v.toNat = 0) := by
      rw [bne, beq_eq_decide, ← decide_not]
      exact decide_eq_decide.mpr (by omega)
    refine ⟨congrArg Host.Outcome.next (hbase.trans ?_), congrArg Host.Outcome.next (htrim.trans ?_)⟩
    · rw [Bool.false_or, hclamped]
      rfl
    · rw [Bool.false_or, hclamped, hzero, ← Bool.decide_or, State.setBase_modBranch]
      rfl

end Sys2Proof.Machine
end

section
/-! PROOFS. What the events of a drive do to the state, case by case (08 R161, R164, R168, R169). -/

namespace Sys2Proof.Machine

/-! ## Drives written -/

/-- One drive written, its old record known. -/
theorem State.modDrive_eq {s : State} {n : Fin 8} {d : Drive} (hd : s.drives[n] = d) (f : Drive → Drive) :
    s.modDrive n f = { s with drives := s.drives.set n (f d) } := by
  rw [← hd]
  rfl

/-- Two changes of one drive are one. -/
theorem State.modDrive_modDrive (s : State) (n : Fin 8) (f g : Drive → Drive) :
    (s.modDrive n f).modDrive n g = s.modDrive n (fun d => g (f d)) := by
  simp [State.modDrive]

/-! ## A step-timer expiry in MOVING -/

section events
variable {s : State} {n : Fin 8}

/-- An expiry outside MOVING cannot arise (assumption log 4). -/
theorem State.stepExpires_other (h : s.drives[n].state ≠ .moving) : s.stepExpires n = s := if_neg h

/-- The step just completed is a stall (08 R166). -/
theorem State.stepExpires_stalled (h : s.drives[n].state = .moving) (hs : s.drives[n].stalled = true) :
    s.stepExpires n = s.faultDrive n .stall :=
  (if_pos h).trans (if_pos hs)

/-- The check has passed (08 R161 steps 2 to 4). -/
theorem State.stepExpires_passed (h : s.drives[n].state = .moving) (hs : s.drives[n].stalled = false) :
    s.stepExpires n = (s.modDrive n Drive.advance).noteRestart n (s.drives[n].position != s.drives[n].target) :=
  (if_pos h).trans (if_neg (Bool.eq_false_iff.mp hs))

/-! ## Homing -/

/-- A drive that HOME VALVE has sent into HOMING, with the level of its home switch (08 R168). -/
def Drive.toHoming (d : Drive) (home : Bool) : Drive :=
  { d with state := .homing, known := false, homingSteps := 0, stepPending := false, timer := 0, homeSample := home }

/-- A drive with the latest level of its home switch stored (08 R171). -/
def Drive.switched (d : Drive) (home : Bool) : Drive := { d with homeSample := home }

/-- HOME VALVE with the switch asserted homes the drive at once (08 R168, R170). -/
theorem State.homeValve_asserted : s.homeValve n true =
    ((s.noteRestart n false).modDrive n (fun d => (d.toHoming true).home)).raiseUnit .homeDone n :=
  congrArg (State.raiseUnit · .homeDone n) (State.modDrive_modDrive (s.noteRestart n false) n _ _)

/-- HOME VALVE with the switch at rest starts the homing (08 R168). -/
theorem State.homeValve_starts : s.homeValve n false =
    (s.noteRestart n false).modDrive n (fun d => { d.toHoming false with coils := true, timer := d.interval }) :=
  State.modDrive_modDrive (s.noteRestart n false) n (fun d => d.toHoming false)
    (fun d => { d with coils := true, timer := d.interval })

/-- An expiry outside HOMING cannot arise (assumption log 4). -/
theorem State.homingExpires_other (h : s.drives[n].state ≠ .homing) (home : Bool) : s.homingExpires n home = s := if_neg h

/-- An expiry in HOMING that reads the switch asserted (08 R169 step 1, R170). -/
theorem State.homingExpires_asserted (h : s.drives[n].state = .homing) : s.homingExpires n true =
    ((s.modDrive n (fun d => (d.switched true).home)).raiseUnit .homeDone n).noteRestart n
      (s.drives[n].target != 0) :=
  (if_pos h).trans <| congrArg (fun t : State => (t.raiseUnit .homeDone n).noteRestart n (s.drives[n].target != 0))
    (State.modDrive_modDrive s n _ _)

/-- An expiry in HOMING at the homing limit (08 R169 step 2, R171). -/
theorem State.homingExpires_limit (h : s.drives[n].state = .homing)
    (hl : s.drives[n].homingLimit ≤ s.drives[n].homingSteps) : s.homingExpires n false =
    (s.modDrive n (fun d => (d.switched false).toFault .homeLimit)).raiseUnit .homeFailed n :=
  (if_pos h).trans <| (if_pos hl).trans <| congrArg (State.raiseUnit · .homeFailed n) (State.modDrive_modDrive s n _ _)

/-- An expiry in HOMING below the homing limit (08 R169 step 3). -/
theorem State.homingExpires_steps (h : s.drives[n].state = .homing)
    (hl : s.drives[n].homingSteps < s.drives[n].homingLimit) : s.homingExpires n false =
    (s.modDrive n (fun d => (d.switched false).homingStep)).noteRestart n true :=
  (if_pos h).trans <| (if_neg (Nat.not_le.mpr hl)).trans <| congrArg (State.noteRestart · n true)
    (State.modDrive_modDrive s n _ _)

/-! ## The encoder -/

/-- A drive with the latest sample of its encoder inputs stored (08 R164). -/
def Drive.sampled (d : Drive) (a b : Bool) : Drive := { d with encA := a, encB := b, encSeen := true }

/-- The first sample after reset (assumption log 17). -/
theorem State.encoderSample_first (h : s.drives[n].encSeen = false) (a b : Bool) :
    s.encoderSample n a b = s.modDrive n (fun d => d.sampled a b) := by
  unfold State.encoderSample
  dsimp only
  rw [h]
  rfl

/-- A later sample (08 R164, R165): two changed inputs are illegal, one is a count. -/
theorem State.encoderSample_seen (h : s.drives[n].encSeen = true) (a b : Bool) : s.encoderSample n a b =
    if s.drives[n].encA ≠ a ∧ s.drives[n].encB ≠ b then
      if s.drives[n].state = .fault then s.modDrive n (fun d => d.sampled a b)
      else (s.modDrive n (fun d => (d.sampled a b).toFault .encoder)).raiseUnit .valveFault n
    else if s.drives[n].encA ≠ a ∨ s.drives[n].encB ≠ b then
      s.modDrive n (fun d => (d.sampled a b).count (quadrature s.drives[n].encA a b))
    else s.modDrive n (fun d => d.sampled a b) := by
  unfold State.encoderSample
  dsimp only
  rw [h]
  simp only [State.faultDrive, State.modDrive_modDrive, Bool.not_true, Bool.false_eq_true, if_false, Bool.and_eq_true,
    Bool.or_eq_true, bne_iff_ne]
  rfl

end events

end Sys2Proof.Machine
end

section
/-! PROOFS. The drives (O57): state, coils, target and known position of a drive agree, and every regulation base lies in its
drive's travel. -/

namespace Sys2Proof.Machine

/-! ## One drive -/

namespace Drive.Right

variable {d : Drive}

/-- The first step toward a target, or a further one, leaves the drive MOVING with its new position known (08 R159, R161). -/
theorem takeStep (hle : d.target ≤ d.travel) (ht : usesPosition d.excitation d.target = true)
    (hpos : d.position ≤ d.travel) (hp : usesPosition d.excitation d.position = true) (hne : d.target ≠ d.position)
    (hk : d.known = true) (hc : d.coils = true) : ({ d.takeStep with state := .moving } : Drive).Right := by
  obtain ⟨hup, hdown⟩ := Drive.nextPosition_between hp ht
  have hnext : d.nextPosition ≤ d.travel := by
    rcases Nat.lt_or_gt_of_ne hne with h | h
    · exact (hdown h).2.le.trans hpos
    · exact (hup h).2.trans hle
  exact ⟨⟨fun _ => .inr rfl, fun _ => hk⟩, ⟨fun _ => .inr (.inr rfl), fun _ => hc⟩, fun _ => rfl, hle, ht,
    fun _ => ⟨hnext, Drive.nextPosition_uses hp ht, rfl⟩, nofun⟩

/-- A drive that is right but for standing away from its target is right once it follows (08 R161). -/
theorem follow (hk : d.known = true ↔ d.state = .idle ∨ d.state = .moving)
    (hc : d.coils = true ↔ d.state = .homing ∨ d.state = .idle ∨ d.state = .moving)
    (hs : d.stepPending = true → d.state = .moving) (hle : d.target ≤ d.travel)
    (ht : usesPosition d.excitation d.target = true)
    (hpos : d.known = true → d.position ≤ d.travel ∧ usesPosition d.excitation d.position = true ∧ d.phase = d.position % 8) :
    d.follow.Right := by
  unfold Drive.follow
  split
  · next h =>
    obtain ⟨hidle, hne⟩ := h
    have hknown := hk.mpr (.inl hidle)
    obtain ⟨hin, huses, -⟩ := hpos hknown
    exact takeStep hle ht hin huses hne hknown (hc.mpr (.inr (.inl hidle)))
  · next h => exact ⟨hk, hc, hs, hle, ht, hpos, fun hidle => (not_not.mp fun hne => h ⟨hidle, hne⟩).symm⟩

/-- A target received (08 R160). -/
theorem storeTarget (hd : d.Right) (v : Nat) : (d.storeTarget v).Right := by
  obtain ⟨hk, hc, hs, -, -, hpos, -⟩ := hd
  exact follow hk hc hs (roundTarget_le ..) (roundTarget_uses ..) hpos

/-- A drive in FAULT knows no position, and its coils are off (08 R167). -/
theorem toFault (hd : d.Right) (why : FaultReason) : (d.toFault why).Right := by
  obtain ⟨-, -, -, hle, ht, -, -⟩ := hd
  exact ⟨by simp [Drive.toFault], by simp [Drive.toFault], nofun, hle, ht, nofun, nofun⟩

/-- An expiry in MOVING ends at the target or takes one more step (08 R161). -/
theorem advance (hd : d.Right) (hm : d.state = .moving) : d.advance.Right := by
  obtain ⟨hk, hc, -, hle, ht, hpos, -⟩ := hd
  have hknown := hk.mpr (.inr hm)
  have hcoils := hc.mpr (.inr (.inr hm))
  unfold Drive.advance
  split
  · next harrived =>
    exact ⟨⟨fun _ => .inl rfl, fun _ => hknown⟩, ⟨fun _ => .inr (.inl rfl), fun _ => hcoils⟩, nofun, hle, ht, hpos,
      fun _ => harrived⟩
  · next haway =>
    obtain ⟨hin, huses, -⟩ := hpos hknown
    have hstate : d.takeStep = { d.takeStep with state := .moving } := by rw [← hm]; rfl
    rw [hstate]
    exact takeStep hle ht hin huses (Ne.symm haway) hknown hcoils

/-- The home event stands the drive at 0, from where it follows its target (08 R170). -/
theorem home (hle : d.target ≤ d.travel) (ht : usesPosition d.excitation d.target = true) : d.home.Right := by
  refine follow (by simp) (by simp) nofun hle ht fun _ => ⟨Nat.zero_le _, ?_, rfl⟩
  show usesPosition d.excitation 0 = true
  cases d.excitation <;> rfl

/-- In HOMING no position is known, so the phase index, the counts and the timer are free (08 R168, R169). -/
theorem homing (hst : d.state = .homing) (hk : d.known = false) (hc : d.coils = true) (hs : d.stepPending = false)
    (hle : d.target ≤ d.travel) (ht : usesPosition d.excitation d.target = true) : d.Right := by
  refine ⟨?_, ?_, ?_, hle, ht, ?_, ?_⟩ <;> simp [hst, hk, hc, hs]

theorem homingStep (hd : d.Right) (hst : d.state = .homing) : d.homingStep.Right := by
  obtain ⟨hk, hc, hs, hle, ht, -, -⟩ := hd
  have hunknown : d.known = false := Bool.eq_false_iff.mpr fun h => by simpa [hst] using hk.mp h
  have hnone : d.stepPending = false := Bool.eq_false_iff.mpr fun h => by simpa [hst] using hs h
  exact homing (d := d.homingStep) hst hunknown (hc.mpr (.inl hst)) hnone hle ht

/-- A new configuration brings the target into the new travel; the position stays known only where it means what it meant
(08 R158). -/
theorem configure (hd : d.Right) (g : DriveConfig) (restarted : Bool) : (d.configure g restarted).Right := by
  obtain ⟨hk, hc, hs, hle, ht, hpos, hidle⟩ := hd
  unfold Drive.configure
  dsimp only
  split
  · exact ⟨by simp, by simp, nofun, roundTarget_le .., roundTarget_uses .., nofun, nofun⟩
  · next hsame =>
    simp only [Drive.rescaled, Bool.or_eq_true, bne_iff_ne, not_or, not_not] at hsame
    obtain ⟨⟨htravel, hexc⟩, -⟩ := hsame
    have htarget : roundTarget g.excitation g.travel d.target = d.target := by
      rw [← htravel, ← hexc]
      exact roundTarget_of_uses hle ht
    rw [htarget, ← htravel, ← hexc]
    split <;> exact ⟨hk, hc, hs, hle, ht, hpos, hidle⟩

end Drive.Right

/-! ## Travel -/

theorem Drive.follow_travel (d : Drive) : d.follow.travel = d.travel := by
  unfold Drive.follow
  split <;> rfl

theorem Drive.storeTarget_travel (d : Drive) (v : Nat) : (d.storeTarget v).travel = d.travel := Drive.follow_travel _

theorem Drive.home_travel (d : Drive) : d.home.travel = d.travel := Drive.follow_travel _

theorem Drive.advance_travel (d : Drive) : d.advance.travel = d.travel := by
  unfold Drive.advance
  split <;> rfl

theorem Drive.configure_travel (d : Drive) (g : DriveConfig) (restarted : Bool) :
    (d.configure g restarted).travel = g.travel := by
  unfold Drive.configure
  dsimp only
  split
  · rfl
  · split <;> rfl

/-! ## Drives and bases -/

namespace State.DrivesRight

variable {s t : State} {n : Fin 8}

/-- The claim looks at the drives and at the bases of the branches. -/
theorem of_bases (hs : s.DrivesRight) (hd : t.drives = s.drives)
    (hb : ∀ m : Fin 8, t.branches[m].base = s.branches[m].base) : t.DrivesRight := fun m => by
  rw [hd, hb]
  exact hs m

/-- One branch written, its base as it was. -/
theorem modBranch (hs : s.DrivesRight) {f : Branch → Branch} (hf : (f s.branches[n]).base = s.branches[n].base) :
    (s.modBranch n f).DrivesRight := by
  refine hs.of_bases rfl fun m => ?_
  by_cases h : n = m
  · subst h
    rw [modBranch_get_self, hf]
  · rw [modBranch_get_ne _ _ h]

/-- One drive written, its travel as it was. -/
theorem modDrive (hs : s.DrivesRight) {f : Drive → Drive} (hf : (f s.drives[n]).Right)
    (ht : (f s.drives[n]).travel = s.drives[n].travel) : (s.modDrive n f).DrivesRight := fun m => by
  by_cases h : n = m
  · subst h
    rw [modDrive_get_self, ht]
    exact ⟨hf, (hs n).2⟩
  · rw [modDrive_get_ne _ _ h]
    exact hs m

/-- A drive and its branch written together. -/
theorem modBoth (hs : s.DrivesRight) {f : Drive → Drive} {g : Branch → Branch} (hf : (f s.drives[n]).Right)
    (hg : (g s.branches[n]).base ≤ (f s.drives[n]).travel) : ((s.modDrive n f).modBranch n g).DrivesRight := fun m => by
  by_cases h : n = m
  · subst h
    rw [modBranch_get_self, modBranch_drives, modDrive_get_self]
    exact ⟨hf, hg⟩
  · rw [modBranch_get_ne _ _ h, modBranch_drives, modDrive_get_ne _ _ h]
    exact hs m

/-- A cascade that ends or starts, and SET METER on its even branch, keep every base (07 R136, R144, R146). -/
theorem endCascade (hs : s.DrivesRight) : (s.endCascade n).DrivesRight :=
  modBranch (modBranch hs rfl) rfl

theorem startCascade (hs : s.DrivesRight) : (s.startCascade n).DrivesRight := by
  refine modBranch (modBranch hs ?_) rfl
  rw [Branch.consume]
  dsimp only
  split <;> rfl

theorem setMeter (hs : s.DrivesRight) {k prescale : Nat} {mode : GateMode} : (s.setMeter n k prescale mode).DrivesRight := by
  have hset : (s.modBranch n (fun b => b.setMeter k prescale mode)).DrivesRight := modBranch hs rfl
  unfold State.setMeter
  dsimp only
  split
  · split
    · exact modBranch hset rfl
    · exact endCascade hset
  · exact hset

/-- A regulation base stored within the travel, with the target it gives (07 R151). -/
theorem setBase (hs : s.DrivesRight) {w : Nat} (hw : w ≤ s.drives[n].travel) : (s.setBase n w).DrivesRight :=
  hs.modBoth (f := fun d => d.storeTarget (if s.branches[n].overdrawn then min d.target w else w))
    (g := fun b => { b with base := w }) ((hs n).1.storeTarget _) (by rw [Drive.storeTarget_travel]; exact hw)

/-! ## The events of a drive -/

theorem homeValve (hs : s.DrivesRight) {home : Bool} : (s.homeValve n home).DrivesRight := by
  obtain ⟨-, -, -, hle, ht, -, -⟩ := (hs n).1
  cases home with
  | true =>
    rw [homeValve_asserted]
    exact modDrive (s := s.noteRestart n false) (n := n) (f := fun d => (d.toHoming true).home) hs
      (Drive.Right.home hle ht) (Drive.home_travel _)
  | false =>
    rw [homeValve_starts]
    exact modDrive (s := s.noteRestart n false) hs (Drive.Right.homing rfl rfl rfl rfl hle ht) rfl

theorem stepExpires (hs : s.DrivesRight) : (s.stepExpires n).DrivesRight := by
  have hd := (hs n).1
  by_cases hm : s.drives[n].state = .moving
  · cases hst : s.drives[n].stalled with
    | true =>
      rw [stepExpires_stalled hm hst]
      exact modDrive (n := n) (f := fun d => d.toFault .stall) hs (hd.toFault .stall) rfl
    | false =>
      rw [stepExpires_passed hm hst]
      exact modDrive hs (hd.advance hm) (Drive.advance_travel _)
  · rw [stepExpires_other hm]
    exact hs

theorem homingExpires (hs : s.DrivesRight) {home : Bool} : (s.homingExpires n home).DrivesRight := by
  have hd (home : Bool) : (s.drives[n].switched home).Right := (hs n).1
  obtain ⟨-, -, -, hle, ht, -, -⟩ := (hs n).1
  by_cases hh : s.drives[n].state = .homing
  · cases home with
    | true =>
      rw [homingExpires_asserted hh]
      exact modDrive (n := n) (f := fun d => (d.switched true).home) hs (Drive.Right.home hle ht) (Drive.home_travel _)
    | false =>
      rcases Nat.lt_or_ge s.drives[n].homingSteps s.drives[n].homingLimit with hl | hl
      · rw [homingExpires_steps hh hl]
        exact modDrive (n := n) (f := fun d => (d.switched false).homingStep) hs ((hd false).homingStep hh) rfl
      · rw [homingExpires_limit hh hl]
        exact modDrive (n := n) (f := fun d => (d.switched false).toFault .homeLimit) hs ((hd false).toFault _) rfl
  · rw [homingExpires_other hh]
    exact hs

theorem encoderSample (hs : s.DrivesRight) {a b : Bool} : (s.encoderSample n a b).DrivesRight := by
  have hd : (s.drives[n].sampled a b).Right := (hs n).1
  have hstored : (s.modDrive n (fun d => d.sampled a b)).DrivesRight := modDrive hs hd rfl
  cases hseen : s.drives[n].encSeen with
  | false =>
    rw [encoderSample_first hseen]
    exact hstored
  | true =>
    rw [encoderSample_seen hseen]
    split
    · split
      · exact hstored
      · exact modDrive (n := n) (f := fun d => (d.sampled a b).toFault .encoder) hs (hd.toFault _) rfl
    · split
      · exact modDrive hs (f := fun d => (d.sampled a b).count (quadrature s.drives[n].encA a b)) hd rfl
      · exact hstored

/-- Every drive is UNHOMED at its target of 0 after reset, and every base is 0 (07 R154, 08 R175). -/
theorem afterReset (trip selLow : Bool) : (State.afterReset trip selLow).DrivesRight := fun n => by
  obtain ⟨-, hdrive, -⟩ := units_reset_right
  rw [afterReset_drive, afterReset_branch]
  exact ⟨hdrive, Nat.zero_le _⟩

end State.DrivesRight

/-- The drives: a claim that the laws of branches and drives keep. -/
theorem drivesRight_law : BranchLaw State.DrivesRight where
  frame {s t} hs h := hs.of_bases (congrArg Prod.snd h) fun m => by rw [show t.branches = s.branches from congrArg Prod.fst h]
  touch {s n f} h hs := hs.modBranch (by
    simp only [Branch.registers, Prod.mk.injEq] at h
    obtain ⟨-, -, -, -, -, -, hbase⟩ := h
    exact hbase)
  live _ hs := hs.modBranch rfl
  gateOpens _ hs := hs.modBranch rfl
  gateCloses _ hs := hs.modBranch rfl
  setMeter _ hs := hs.setMeter
  startCascade _ _ hs := hs.startCascade
  endCascade hs := hs.endCascade
  setBase {s n w} hw hs := hs.setBase hw
  storeTarget {s n v} hs := hs.modDrive ((hs n).1.storeTarget _) (Drive.storeTarget_travel ..)
  configureDrive {s n g} hs := hs.modBoth ((hs n).1.configure g _) (by
    rw [Drive.configure_travel]
    exact Nat.min_le_right _ _)
  homeValve hs := hs.homeValve
  stepExpires hs := hs.stepExpires
  homingExpires hs := hs.homingExpires
  encoderSample hs := hs.encoderSample
  reset := State.DrivesRight.afterReset

/-- Settles O57: every event of a drive leaves it right, and a base is written only within the travel, so every step keeps
both. -/
theorem everyStepKeepsDrives : Obligations.EveryStepKeepsDrives :=
  fun _ _ hs he => drivesRight_law.step hs he

end Sys2Proof.Machine
end

section
/-! PROOFS. A target received, and a step-timer expiry in MOVING (O36). -/

namespace Sys2Proof.Machine

/-! ## A target received -/

/-- The position of the excitation at or below a value in the travel (08 R159, R160). -/
theorem roundTarget_eq (e : Excitation) (travel v : Nat) {w : Nat} (hw : w = min travel v) :
    roundTarget e travel v = (match e with
      | .half => w
      | .wave => w / 2 * 2
      | .twoPhase => if w = 0 then 0 else (w - 1) / 2 * 2 + 1) := by
  subst hw
  unfold roundTarget
  cases e
  case half => rfl
  case wave => dsimp only; omega
  case twoPhase =>
    dsimp only
    split
    · rfl
    · split <;> omega

/-- The next position on the way up (08 R159). -/
theorem Drive.nextPosition_up {d : Drive} (h : d.position < d.target) : d.nextPosition = d.position +
    (match d.excitation with | .half => 1 | .wave => 2 | .twoPhase => if d.position = 0 then 1 else 2) := by
  unfold Drive.nextPosition
  rw [if_pos h]
  cases d.excitation
  case twoPhase => dsimp only; split <;> omega
  all_goals rfl

/-- The next position on the way down (08 R159). -/
theorem Drive.nextPosition_down {d : Drive} (h : d.target < d.position) : d.nextPosition = d.position -
    (match d.excitation with | .half => 1 | .wave => 2 | .twoPhase => if d.position = 1 then 1 else 2) := by
  unfold Drive.nextPosition
  rw [if_neg h.not_gt]
  cases d.excitation
  case twoPhase => dsimp only; split <;> omega
  all_goals rfl

/-- One step in either direction (08 R159, R161). -/
theorem Drive.takeStep_of {d : Drive} {k : Nat} (hk : d.nextPosition = k) :
    d.takeStep = { d with position := k, phase := k % 8, stepPending := true, timer := 1000000 / d.rate } := by
  subst hk
  rfl

/-- A drive that is not IDLE, or stands at its target, stays (08 R161). -/
theorem Drive.follow_stays {d : Drive} (h : d.state ≠ .idle ∨ d.target = d.position) : d.follow = d :=
  if_neg fun ⟨hidle, hne⟩ => h.elim (fun hs => hs hidle) hne

/-- An IDLE drive away from its target takes its first step (08 R161). -/
theorem Drive.follow_moves {d : Drive} (hidle : d.state = .idle) (hne : d.target ≠ d.position) {k : Nat}
    (hk : d.nextPosition = k) : d.follow = { d with
      state := .moving, position := k, phase := k % 8, stepPending := true, timer := 1000000 / d.rate } := by
  subst hk
  exact if_pos ⟨hidle, hne⟩

/-- A drive with a target stored (08 R160). -/
def Drive.aimed (d : Drive) (q : Nat) : Drive := { d with target := q }

/-- A target received is stored, and followed from IDLE (08 R160, R161). -/
theorem Drive.storeTarget_eq {d : Drive} {v q : Nat} (hq : roundTarget d.excitation d.travel v = q) :
    d.storeTarget v = (d.aimed q).follow := by
  subst hq
  rfl

/-! ## A step-timer expiry in MOVING -/

/-- The stall check (08 R166). -/
theorem Drive.stalled_iff {d : Drive} : d.stalled = true ↔
    d.stepPending = true ∧ (d.tolerance : Int) < |d.encoder - d.position * d.ratio| := by
  rw [Drive.stalled, Bool.and_eq_true, decide_eq_true_iff, ← Int.ofNat_lt, Int.natCast_natAbs, Drive.deviation,
    Nat.cast_mul]

theorem Drive.stalled_eq_false {d : Drive}
    (h : d.stepPending = false ∨ |d.encoder - d.position * d.ratio| ≤ (d.tolerance : Int)) : d.stalled = false := by
  rw [Bool.eq_false_iff, Ne, Drive.stalled_iff]
  rintro ⟨hpending, hover⟩
  rcases h with h | h
  · exact absurd (hpending.symm.trans h) (by decide)
  · exact absurd hover (not_lt.mpr h)

section expiry
variable {s : State} {n : Fin 8} (hset : s.Settled)
include hset

theorem exec_stepTimerExpiry_other (h : s.drives[n].state ≠ .moving) : exec (.stepTimerExpiry n) s = .next s :=
  congrArg _ ((congrArg State.finish (State.stepExpires_other h)).trans (State.finish_of_settled hset))

/-- A stall ends the move in FAULT (08 R166, R167). -/
theorem exec_stepTimerExpiry_stalled {d : Drive} (hd : s.drives[n] = d) (h : d.state = .moving) (hs : d.stalled = true) :
    exec (.stepTimerExpiry n) s = .next ({ s with
      drives := s.drives.set n (d.toFault .stall), att := s.att.raiseUnit .valveFault n } : State).attend := by
  subst hd
  exact congrArg _ ((congrArg State.finish (State.stepExpires_stalled h hs)).trans (State.finish_of_quiet hset.1))

/-- A passed check: arrival or the next step, which restarts the step timer (08 R161). -/
theorem exec_stepTimerExpiry_passed {d : Drive} (hd : s.drives[n] = d) (h : d.state = .moving) (hs : d.stalled = false) :
    exec (.stepTimerExpiry n) s = .next { s with
      drives := s.drives.set n d.advance
      now := { s.now with restarted := s.now.restarted.set n (d.position != d.target) } } := by
  subst hd
  exact congrArg _ ((congrArg State.finish (State.stepExpires_passed h hs)).trans (State.finish_of_settled hset))

end expiry

/-- The end of a move (08 R161). -/
theorem Drive.advance_arrived {d : Drive} (h : d.position = d.target) :
    d.advance = { d with state := .idle, timer := 0, stepPending := false } := if_pos h

theorem Drive.advance_away {d : Drive} (h : d.position ≠ d.target) : d.advance = d.takeStep := if_neg h

/-- Settles O36: a target stored from IDLE and an expiry away from the target take the same step. -/
theorem driveMovesToTarget : Obligations.DriveMovesToTarget := by
  refine ⟨fun d v w q hw hq => ?_, ?_⟩
  · rw [Drive.storeTarget_eq ((roundTarget_eq _ _ _ hw).trans hq.symm)]
    have hmoves {k : Nat} (hidle : d.state = .idle) (hne : q ≠ d.position) (hk : (d.aimed q).nextPosition = k) :=
      Drive.follow_moves (d := d.aimed q) hidle hne hk
    refine ⟨Drive.follow_stays (d := d.aimed q), fun hidle hlt k hk => ?_, fun hidle hlt k hk => ?_⟩
    · exact hmoves hidle hlt.ne' ((Drive.nextPosition_up (d := d.aimed q) hlt).trans hk.symm)
    · exact hmoves hidle hlt.ne ((Drive.nextPosition_down (d := d.aimed q) hlt).trans hk.symm)
  · rintro s n _ hset rfl
    refine ⟨exec_stepTimerExpiry_other hset, fun hm => ⟨fun hpending hover => ?_, fun hpass => ?_⟩⟩
    · exact exec_stepTimerExpiry_stalled hset rfl hm (Drive.stalled_iff.mpr ⟨hpending, hover⟩)
    · have hexec := exec_stepTimerExpiry_passed hset rfl hm (Drive.stalled_eq_false hpass)
      refine ⟨fun harrived => ?_, fun haway k hk => ?_⟩
      · rw [hexec, Drive.advance_arrived harrived, bne_eq_false_iff_eq.mpr harrived]
      · have hnext : s.drives[n].nextPosition = k := by
          rw [hk]
          split
          · next h => exact Drive.nextPosition_up h
          · next h => exact Drive.nextPosition_down (lt_of_le_of_ne (not_lt.mp h) haway.symm)
        rw [hexec, Drive.advance_away haway, Drive.takeStep_of hnext, bne_iff_ne.mpr haway]

end Sys2Proof.Machine
end

section
/-! PROOFS. HOME VALVE and the homing steps (O38). -/

namespace Sys2Proof.Machine

/-! ## The home event -/

/-- A drive at home, before it follows its target (08 R170). -/
def Drive.atHome (d : Drive) : Drive :=
  { d with
    state := .idle, known := true, homingSteps := 0, stepPending := false, coils := true, timer := 0, position := 0
    phase := 0, encoder := 0, reason := .none }

/-- A drive homed with its target at 0 stands there (08 R170). -/
theorem Drive.home_rests {d : Drive} (h : d.target = 0) : d.home = d.atHome := Drive.follow_stays (d := d.atHome) (.inr h)

/-- A drive homed below its target takes its first step, the seat step of TWO_PHASE being a half-step (08 R159, R170). -/
theorem Drive.home_moves {d : Drive} (h : 0 < d.target) {k : Nat} (hk : k = if d.excitation = .wave then 2 else 1) :
    d.home = { d.atHome with
      state := .moving, position := k, phase := k, stepPending := true, timer := 1000000 / d.rate } := by
  have hnext : d.atHome.nextPosition = k := by
    rw [Drive.nextPosition_up (d := d.atHome) h, hk]
    unfold Drive.atHome
    cases d.excitation <;> rfl
  have hmod : k % 8 = k := by rw [hk]; split <;> rfl
  have hmoves := Drive.follow_moves (d := d.atHome) rfl h.ne' hnext
  rw [hmod] at hmoves
  exact hmoves

/-- One closing homing step: an aligning one from a phase index that does not belong to the excitation (08 R169). -/
theorem Drive.homingStep_eq (d : Drive) {k : Nat} (hk : k = (match d.excitation with
      | .half => 1
      | .wave => if d.phase % 2 = 0 then 2 else 1
      | .twoPhase => if d.phase % 2 = 1 then 2 else 1)) : d.homingStep = { d with
    phase := (d.phase + 8 - k) % 8, homingSteps := d.homingSteps + 1, timer := 1000000 / d.rate } := by
  have hphase : homingPhase d.excitation d.phase = (d.phase + 8 - k) % 8 := by
    subst hk
    unfold homingPhase phaseBelongs
    cases d.excitation <;> simp only [beq_iff_eq]
  rw [← hphase]
  rfl

/-! ## HOME VALVE -/

theorem doHomeValve_badParam {s : State} {a : Byte} (ha : 7 < a.toNat) (home : Bool) :
    doHomeValve [a] home s = (s, .badParam) := withUnit_bad ha

theorem doHomeValve_eq {s : State} {n : Fin 8} {a : Byte} (ha : a.toNat = n.val) (home : Bool) :
    doHomeValve [a] home s = (s.homeValve n home, .ok) := withUnit_unit (u := n) ha

section command
variable {s : State} (h : s.Ready) {n : Fin 8} {a : Byte} (ha : a.toNat = n.val)
include h ha

/-- HOME VALVE on a ready port (08 R168). -/
theorem exec_homeValve (home : Bool) :
    exec (.homeValve [a] home) s = .next (((s.acting .homeValve 0 []).homeValve n home).closeWith .ok).finish :=
  congrArg _ (exec_one_act h .homeValve a home (doHomeValve_eq ha home))

theorem exec_homeValve_starts {d : Drive} (hd : s.drives[n] = d) : exec (.homeValve [a] false) s = .next { s with
    port := s.port.closed .ok
    drives := s.drives.set n { d.toHoming false with coils := true, timer := d.interval }
    now := { s.now with restarted := s.now.restarted.set n false } } := by
  have hact := State.modDrive_eq (s := (s.acting .homeValve 0 []).noteRestart n false) hd
    (fun d => { d.toHoming false with coils := true, timer := d.interval })
  rw [exec_homeValve h ha, State.homeValve_starts, hact]
  exact congrArg _ (State.finish_of_settled h.2.2)

theorem exec_homeValve_asserted {d : Drive} (hd : s.drives[n] = d) : exec (.homeValve [a] true) s = .next ({ s with
    port := s.port.closed .ok
    drives := s.drives.set n (d.toHoming true).home
    att := s.att.raiseUnit .homeDone n
    now := { s.now with restarted := s.now.restarted.set n false } } : State).attend := by
  have hact := State.modDrive_eq (s := (s.acting .homeValve 0 []).noteRestart n false) hd (fun d => (d.toHoming true).home)
  rw [exec_homeValve h ha, State.homeValve_asserted, hact]
  exact congrArg _ (State.finish_of_quiet h.2.2.1)

end command

/-! ## A step-timer expiry in HOMING -/

section expiry
variable {s : State} {n : Fin 8} (hset : s.Settled)
include hset

theorem exec_homingStepExpiry_other (h : s.drives[n].state ≠ .homing) (home : Bool) :
    exec (.homingStepExpiry n home) s = .next s :=
  congrArg _ ((congrArg State.finish (State.homingExpires_other h home)).trans (State.finish_of_settled hset))

variable {d : Drive} (hd : s.drives[n] = d) (h : d.state = .homing)
include hd h

theorem exec_homingStepExpiry_asserted : exec (.homingStepExpiry n true) s = .next ({ s with
    drives := s.drives.set n (d.switched true).home
    att := s.att.raiseUnit .homeDone n
    now := { s.now with restarted := s.now.restarted.set n (d.target != 0) } } : State).attend := by
  subst hd
  exact congrArg _ ((congrArg State.finish (State.homingExpires_asserted h)).trans (State.finish_of_quiet hset.1))

theorem exec_homingStepExpiry_limit (hl : d.travel + d.travel / 8 ≤ d.homingSteps) :
    exec (.homingStepExpiry n false) s = .next ({ s with
      drives := s.drives.set n ((d.switched false).toFault .homeLimit)
      att := s.att.raiseUnit .homeFailed n } : State).attend := by
  subst hd
  exact congrArg _ ((congrArg State.finish (State.homingExpires_limit h hl)).trans (State.finish_of_quiet hset.1))

theorem exec_homingStepExpiry_steps (hl : d.homingSteps < d.travel + d.travel / 8) :
    exec (.homingStepExpiry n false) s = .next { s with
      drives := s.drives.set n (d.switched false).homingStep
      now := { s.now with restarted := s.now.restarted.set n true } } := by
  subst hd
  exact congrArg _ ((congrArg State.finish (State.homingExpires_steps h hl)).trans (State.finish_of_settled hset))

end expiry

/-- Settles O38: both home events are one operation on the drive, which rests at a target of 0 and moves to any other. -/
theorem homingActs : Obligations.HomingActs := by
  refine ⟨fun s a h => ⟨fun home ha => ?_, ?_⟩, ?_⟩
  · exact congrArg _ (exec_one_refused h .homeValve a home (doHomeValve_badParam ha home))
  · rintro n _ ha rfl
    have hhome := exec_homeValve_asserted h ha rfl
    refine ⟨exec_homeValve_starts h ha rfl, fun hzero => ?_, fun hpos k hk => ?_⟩
    · rw [hhome, Drive.home_rests (d := s.drives[n].toHoming true) hzero]
      rfl
    · rw [hhome, Drive.home_moves (d := s.drives[n].toHoming true) hpos hk]
      rfl
  · rintro s n _ hset rfl
    refine ⟨exec_homingStepExpiry_other hset, fun hst => ?_⟩
    have hhome := exec_homingStepExpiry_asserted hset rfl hst
    refine ⟨fun hzero => ?_, fun hpos k hk => ?_, exec_homingStepExpiry_limit hset rfl hst, fun hlt _ k hk => ?_⟩
    · rw [hhome, Drive.home_rests (d := s.drives[n].switched true) hzero, bne_eq_false_iff_eq.mpr hzero]
      rfl
    · rw [hhome, Drive.home_moves (d := s.drives[n].switched true) hpos hk, bne_iff_ne.mpr hpos.ne']
      rfl
    · rw [exec_homingStepExpiry_steps hset rfl hst hlt, Drive.homingStep_eq (s.drives[n].switched false) hk]
      rfl

end Sys2Proof.Machine
end

section
/-! PROOFS. An encoder sample (O39). -/

namespace Sys2Proof.Machine

/-- Up is the direction in which VnENCA leads (08 R164). -/
theorem quadrature_up {a b a' b' : Bool} (h : (a, b, a', b') ∈ [(false, false, true, false), (true, false, true, true),
    (true, true, false, true), (false, true, false, false)]) :
    quadrature a a' b' = 1 ∧ quadrature a' a b = -1 ∧ ¬ (a ≠ a' ∧ b ≠ b') ∧ (a ≠ a' ∨ b ≠ b') := by
  revert a b a' b'
  decide

/-- A later sample: the drive knows already that one has been taken. -/
theorem Drive.sampled_seen {d : Drive} (h : d.encSeen = true) (a b : Bool) :
    d.sampled a b = { d with encA := a, encB := b } := by
  rw [Drive.sampled, ← h]

section sample
variable {s : State} {n : Fin 8} (hset : s.Settled) {d : Drive} (hd : s.drives[n] = d) {a b : Bool}
include hset hd

/-- The first sample after reset (assumption log 17). -/
theorem exec_encoderSample_first (h : d.encSeen = false) :
    exec (.encoderSample n a b) s = .next { s with drives := s.drives.set n (d.sampled a b) } := by
  subst hd
  exact congrArg _ ((congrArg State.finish (State.encoderSample_first h a b)).trans (State.finish_of_settled hset))

variable (h : d.encSeen = true)
include h

/-- A sample without a change, or with an illegal one in FAULT, is stored alone (08 R165). -/
theorem exec_encoderSample_stored (hc : (a = d.encA ∧ b = d.encB) ∨ (d.encA ≠ a ∧ d.encB ≠ b ∧ d.state = .fault)) :
    exec (.encoderSample n a b) s = .next { s with drives := s.drives.set n { d with encA := a, encB := b } } := by
  subst hd
  have hstored : s.encoderSample n a b = s.modDrive n (fun d => d.sampled a b) := by
    rw [State.encoderSample_seen h]
    rcases hc with ⟨rfl, rfl⟩ | ⟨ha, hb, hf⟩
    · rw [if_neg fun k => k.1 rfl, if_neg fun k => k.elim (· rfl) (· rfl)]
    · rw [if_pos ⟨ha, hb⟩, if_pos hf]
  rw [← Drive.sampled_seen h]
  exact congrArg _ ((congrArg State.finish hstored).trans (State.finish_of_settled hset))

/-- An illegal transition (08 R165, R167). -/
theorem exec_encoderSample_illegal (ha : d.encA ≠ a) (hb : d.encB ≠ b) (hf : d.state ≠ .fault) :
    exec (.encoderSample n a b) s = .next ({ s with
      drives := s.drives.set n (Drive.toFault { d with encA := a, encB := b } .encoder)
      att := s.att.raiseUnit .valveFault n } : State).attend := by
  subst hd
  have hfault := State.encoderSample_seen h a b
  rw [if_pos ⟨ha, hb⟩, if_neg hf] at hfault
  rw [← Drive.sampled_seen h]
  exact congrArg _ ((congrArg State.finish hfault).trans (State.finish_of_quiet hset.1))

/-- One changed input (08 R164). -/
theorem exec_encoderSample_counts (hno : ¬ (d.encA ≠ a ∧ d.encB ≠ b)) (hone : d.encA ≠ a ∨ d.encB ≠ b) {q : Int}
    (hq : quadrature d.encA a b = q) : exec (.encoderSample n a b) s = .next { s with
      drives := s.drives.set n (Drive.count { d with encA := a, encB := b } q) } := by
  subst hd hq
  have hcount := State.encoderSample_seen h a b
  rw [if_neg hno, if_pos hone] at hcount
  rw [← Drive.sampled_seen h]
  exact congrArg _ ((congrArg State.finish hcount).trans (State.finish_of_settled hset))

end sample

/-- Settles O39. -/
theorem encoderSampleActs : Obligations.EncoderSampleActs := by
  rintro s n _ a b hset rfl
  refine ⟨exec_encoderSample_first hset rfl, fun hseen => ⟨?_, ?_, ?_, fun hup => ?_, fun hdown => ?_⟩⟩
  · rintro rfl rfl
    rw [exec_encoderSample_stored hset rfl hseen (.inl ⟨rfl, rfl⟩)]
    exact congrArg (fun v => Host.Outcome.next { s with drives := v }) (Vector.set_getElem_self _)
  · exact fun ha hb hf => exec_encoderSample_stored hset rfl hseen (.inr ⟨ha.symm, hb.symm, hf⟩)
  · exact fun ha hb hf => exec_encoderSample_illegal hset rfl hseen ha.symm hb.symm hf
  · obtain ⟨hq, -, hno, hone⟩ := quadrature_up hup
    exact exec_encoderSample_counts hset rfl hseen hno hone hq
  · obtain ⟨-, hq, hno, hone⟩ := quadrature_up hdown
    exact exec_encoderSample_counts hset rfl hseen (fun k => hno ⟨k.1.symm, k.2.symm⟩)
      (hone.imp Ne.symm Ne.symm) hq

end Sys2Proof.Machine
end

section
/-! PROOFS. SET VALVE DRIVE on a ready port (O37). -/

namespace Sys2Proof.Machine

/-! ## The parameter bytes -/

/-- The three excitations have the codes 0 to 2 (08 section 8.2). -/
theorem excitationOf_code (x : Excitation) : excitationOf x.code = some x := by cases x <;> rfl

theorem excitationOf_eq_none {v : Nat} (h : 2 < v) : excitationOf v = none := by
  obtain ⟨w, rfl⟩ := Nat.exists_eq_add_of_lt h
  rw [show 2 + w + 1 = w + 3 by omega]
  rfl

/-- The five values of SET VALVE DRIVE, the travel, the rate and the ratio brought into their ranges from both sides and the
tolerance from below, as a byte is at most 255 (08 R157). -/
def DriveConfig.inRange (travel : Nat) (x : Excitation) (rate ratio tolerance : Nat) : DriveConfig :=
  { travel := max 400 (min 8000 travel), excitation := x, rate := max 50 (min 800 rate), ratio := max 1 (min 16 ratio)
    tolerance := max 4 tolerance }

theorem driveConfig_eq (x : Excitation) (a th tl e rh rl q v : Byte) : driveConfig [a, th, tl, e, rh, rl, q, v] x =
    .inRange (th.toNat * 256 + tl.toNat) x (rh.toNat * 256 + rl.toNat) q.toNat v.toNat := by
  have hv : min 255 v.toNat = v.toNat := Nat.min_eq_right (Nat.le_of_lt_succ v.isLt)
  rw [DriveConfig.inRange, ← hv]
  rfl

/-- The result of SET VALVE DRIVE: CLAMPED when a value was brought into its range (08 R157). -/
theorem setValveDrive_result (x : Excitation) (a th tl e rh rl q v : Byte) {t r : Nat} (ht : t = th.toNat * 256 + tl.toNat)
    (hr : r = rh.toNat * 256 + rl.toNat) : clampResult (driveClamped [a, th, tl, e, rh, rl, q, v]
      (driveConfig [a, th, tl, e, rh, rl, q, v] x)) = okOrClamped (!(400 ≤ t && t ≤ 8000 && 50 ≤ r && r ≤ 800 &&
        1 ≤ q.toNat && q.toNat ≤ 16 && 4 ≤ v.toNat)) := by
  subst ht hr
  have hv : v.toNat ≤ 255 := Nat.le_of_lt_succ v.isLt
  show clampResult (clampNat 400 8000 (th.toNat * 256 + tl.toNat) != th.toNat * 256 + tl.toNat ||
    clampNat 50 800 (rh.toNat * 256 + rl.toNat) != rh.toNat * 256 + rl.toNat || clampNat 1 16 q.toNat != q.toNat ||
    clampNat 4 255 v.toNat != v.toNat) = _
  rw [clampNat_bne (by decide), clampNat_bne (by decide), clampNat_bne (by decide), clampNat_bne (by decide),
    decide_eq_true hv, Bool.and_true]
  simp only [← Bool.not_and, Bool.and_assoc]
  rfl

theorem doSetValveDrive_badParam {s : State} {a e : Byte} (h : 7 < a.toNat ∨ 2 < e.toNat) (th tl rh rl q v : Byte) :
    doSetValveDrive [a, th, tl, e, rh, rl, q, v] s = (s, .badParam) := by
  by_cases ha : 7 < a.toNat
  · exact withUnit_bad ha
  · refine (withUnit_unit (u := ⟨a.toNat, by omega⟩) rfl).trans ?_
    show (match excitationOf e.toNat with | none => _ | some x => _ : State × Result) = _
    rw [excitationOf_eq_none (h.resolve_left ha)]

theorem doSetValveDrive_eq {s : State} {n : Fin 8} {a e : Byte} {x : Excitation} (ha : a.toNat = n.val)
    (he : e.toNat = x.code) (th tl rh rl q v : Byte) {g : DriveConfig}
    (hg : driveConfig [a, th, tl, e, rh, rl, q, v] x = g) : doSetValveDrive [a, th, tl, e, rh, rl, q, v] s =
      (s.configureDrive n g, clampResult (driveClamped [a, th, tl, e, rh, rl, q, v] g)) := by
  subst hg
  refine (withUnit_unit (u := n) ha).trans ?_
  show (match excitationOf e.toNat with | none => _ | some x => _ : State × Result) = _
  rw [he, excitationOf_code]

/-! ## The command -/

/-- The byte event that completes SET VALVE DRIVE, its eight parameter bytes sent to a ready port. -/
theorem State.send_setValveDrive {s : State} (h : s.Ready) (a th tl e rh rl q v : Byte) :
    s.send .setValveDrive [a, th, tl, e, rh, rl, q, v] false =
      ((s.acting .setValveDrive 7 [a, th, tl, e, rh, rl, q]).finishWhole .setValveDrive
        [a, th, tl, e, rh, rl, q, v] false).finish :=
  State.send_whole h rfl [a, th, tl, e, rh, rl, q] v false (by decide : 7 < 8) rfl rfl

/-- SET VALVE DRIVE accepted (08 R157, R158). -/
theorem exec_setValveDrive {s : State} (h : s.Ready) {n : Fin 8} {a e : Byte} {x : Excitation} (ha : a.toNat = n.val)
    (he : e.toNat = x.code) (th tl rh rl q v : Byte) {t r : Nat} (ht : t = th.toNat * 256 + tl.toNat)
    (hr : r = rh.toNat * 256 + rl.toNat) : exec (.setValveDrive [a, th, tl, e, rh, rl, q, v]) s = .next
      { s.configureDrive n (.inRange t x r q.toNat v.toNat) with
        port := s.port.closed (okOrClamped (!(400 ≤ t && t ≤ 8000 && 50 ≤ r && r ≤ 800 && 1 ≤ q.toNat && q.toNat ≤ 16 &&
          4 ≤ v.toNat))) } := by
  have hdo := doSetValveDrive_eq (s := s.acting .setValveDrive 7 [a, th, tl, e, rh, rl, q]) ha he th tl rh rl q v rfl
  rw [setValveDrive_result x a th tl e rh rl q v ht hr, driveConfig_eq, ← ht, ← hr] at hdo
  refine congrArg Host.Outcome.next ((State.send_setValveDrive h a th tl e rh rl q v).trans ?_)
  exact (State.finishWhole_act (c := .setValveDrive) hdo).trans (State.finish_of_settled h.2.2)

/-! ## The drive -/

/-- A drive with new values stored, and its target brought into the new travel (08 R158). -/
def Drive.configured (d : Drive) (g : DriveConfig) : Drive :=
  { d with travel := g.travel, excitation := g.excitation, rate := g.rate, ratio := g.ratio, tolerance := g.tolerance
           target := roundTarget g.excitation g.travel d.target }

/-- What a new configuration does besides: the position is lost where it does not mean what it meant, and an interval
restarted in the same moment runs at a new rate (08 R158, R173). -/
theorem Drive.configure_eq (d : Drive) (g : DriveConfig) (restarted : Bool) : d.configure g restarted =
    if d.travel ≠ g.travel ∨ d.excitation ≠ g.excitation ∨ d.ratio ≠ g.ratio then
      { d.configured g with
        state := .unhomed, timer := 0, coils := false, stepPending := false, known := false, homingSteps := 0 }
    else if restarted = true ∧ d.timer ≠ 0 ∧ g.rate ≠ d.rate then { d.configured g with timer := 1000000 / g.rate }
    else d.configured g := by
  have hrescaled : d.rescaled g = true ↔ d.travel ≠ g.travel ∨ d.excitation ≠ g.excitation ∨ d.ratio ≠ g.ratio := by
    simp only [Drive.rescaled, Bool.or_eq_true, bne_iff_ne, or_assoc]
  unfold Drive.configure
  simp only [hrescaled]
  split
  · rfl
  · split <;> rfl

/-- A new rate alone, of an interval that an expiry of the same moment restarted (08 R173). -/
theorem Drive.configure_restarted {d : Drive} {g : DriveConfig} (htravel : d.travel = g.travel)
    (hexc : d.excitation = g.excitation) (hratio : d.ratio = g.ratio) (htimer : d.timer = 1000000 / d.rate)
    (hruns : d.timer ≠ 0) : (d.configure g true).state = d.state ∧ (d.configure g true).timer = 1000000 / g.rate := by
  rw [Drive.configure_eq, if_neg (by simp [htravel, hexc, hratio])]
  split
  · exact ⟨rfl, rfl⟩
  · next hsame =>
    have hrate : g.rate = d.rate := by simpa [hruns] using hsame
    exact ⟨rfl, htimer.trans (by rw [hrate])⟩

/-- The drive that SET VALVE DRIVE has written. -/
theorem State.configureDrive_drive (s : State) (n : Fin 8) (g : DriveConfig) :
    (s.configureDrive n g).drives[n] = s.drives[n].configure g s.now.restarted[n] := 
  State.modDrive_get_self s n (fun d => d.configure g s.now.restarted[n])

/-- An expiry in MOVING that takes a step (08 R161): what SET VALVE DRIVE finds when it follows in the same moment. -/
theorem exec_stepTimerExpiry_steps {s : State} (h : s.Ready) {n : Fin 8} {d : Drive} (hd : s.drives[n] = d)
    (hm : d.state = .moving) (hs : d.stalled = false) (haway : d.position ≠ d.target) :
    ∃ t, exec (.stepTimerExpiry n) s = .next t ∧ t.Ready ∧ t.drives[n] = d.takeStep ∧ t.now.restarted[n] = true := by
  have hstep := exec_stepTimerExpiry_passed h.2.2 hd hm hs
  rw [Drive.advance_away haway, bne_iff_ne.mpr haway] at hstep
  exact ⟨_, hstep, h, (getElem_set_fin ..).trans (if_pos rfl), (getElem_set_fin ..).trans (if_pos rfl)⟩

/-- Settles O37: the values brought into range are those of `DriveConfig.inRange`; in the same moment as an expiry that took a
step, the drive it finds is the one that `exec_stepTimerExpiry_passed` left. -/
theorem setValveDriveActs : Obligations.SetValveDriveActs := by
  refine ⟨fun s a th tl e rh rl q v h => ⟨fun hbad => ?_, ?_⟩, ?_⟩
  · refine congrArg Host.Outcome.next ((State.send_setValveDrive h a th tl e rh rl q v).trans ?_)
    exact State.finishWhole_refused h.2.2 (doSetValveDrive_badParam hbad th tl rh rl q v)
  · rintro n x _ _ _ ha rfl he rfl rfl _ rfl
    rw [exec_setValveDrive h ha (x := x) he th tl rh rl q v rfl rfl, State.configureDrive,
      State.modDrive_eq rfl, Drive.configure_eq]
    rfl
  · intro s n d a th tl e rh rl q v h hd hm haway hpass hrlo hrhi htlo hthi hqlo hqhi ha ht he hq
    obtain ⟨t, hstep, hready, hdrive, hrestarted⟩ :=
      exec_stepTimerExpiry_steps h hd.symm hm (Drive.stalled_eq_false hpass) haway
    have hset := exec_setValveDrive hready ha (x := d.excitation) he th tl rh rl q v rfl rfl
    have hruns : 1000000 / d.rate ≠ 0 := (Nat.div_pos (by omega) (by omega)).ne'
    obtain ⟨hstate, htimer⟩ := Drive.configure_restarted (d := d.takeStep)
      (g := .inRange (th.toNat * 256 + tl.toNat) d.excitation (rh.toNat * 256 + rl.toNat) q.toNat v.toNat)
      (by show d.travel = max 400 (min 8000 _); omega) rfl (by show d.ratio = max 1 (min 16 _); omega) rfl hruns
    rw [← hdrive, ← hrestarted, ← State.configureDrive_drive] at hstate htimer
    exact ⟨t, _, hstep, by rw [hdrive]; rfl, hset, hstate.trans (by rw [hdrive]; exact hm), htimer⟩

end Sys2Proof.Machine
end

section
/-! PROOFS. Host commands are their bytes (O5); a port that does not hear SCK takes none (O4); bytes that belong to no
command (O7). -/

namespace Sys2Proof.Machine

/-! ## Host commands as bytes -/

/-- A host command is the bytes it is sent with (09 R182). -/
theorem exec_host {i : Instr} {c : Cmd} {p : List Byte} {home : Bool} (h : i.host = some (c, p, home)) (s : State) :
    exec i s = .next (s.send c p home) := by
  cases i <;> cases h <;> rfl

/-- A host command that takes no parameter bytes is sent with none (11 R208). -/
theorem Instr.params_eq_nil {i : Instr} {c : Cmd} {p : List Byte} {home : Bool} (h : i.host = some (c, p, home)) :
    c.paramCount = 0 → p = [] := by
  cases i <;> cases h <;> simp [Cmd.paramCount]

/-- The bytes of a host command reach a port that does not hear SCK without effect (09 R176). -/
theorem State.send_deaf {s : State} (h : s.port.listening = false) (c : Cmd) (p : List Byte) (home : Bool) :
    s.send c p home = s := by
  induction p using List.reverseRecOn with
  | nil => exact State.commandByte_deaf h _
  | append_singleton p b ih => rw [State.send_append, ih, State.paramByte_deaf h]

/-- A port that does not hear SCK takes no SCK edge (09 R176). -/
theorem State.fallingEdge_deaf {s : State} (h : s.port.listening = false) (rose : Option Bool) : s.fallingEdge rose = s := by
  unfold State.fallingEdge
  exact if_neg (by simp [h])

/-- Settles O4: a host command is its bytes, and the deaf port takes no byte and no edge. -/
theorem portDeafWhileDeselected : Obligations.PortDeafWhileDeselected := by
  intro i s hclocked hdeaf hsettled
  cases hi : i.host with
  | some x =>
    obtain ⟨c, p, home⟩ := x
    rw [exec_host hi, State.send_deaf hdeaf]
  | none =>
    have hevent : ∀ t : State, t = s → (Host.Outcome.next t : Answer) = .next s := fun _ h => congrArg _ h
    cases i
    case badCommand code => exact hevent _ (State.commandByte_deaf hdeaf code)
    case parameterByte b home => exact hevent _ (State.paramByte_deaf hdeaf b home)
    case dataBytePeriod => exact hevent _ (by rw [State.paramByte_deaf hdeaf, ite_self])
    case sckFallingEdge rose => exact hevent _ (by rw [State.fallingEdge_deaf hdeaf, State.finish_of_settled hsettled])
    all_goals simp [Instr.clocked, hi] at hclocked

/-! ## Parameter bytes on their own -/

/-- Of the port, placing a bit writes the bit's own mark and the capture. -/
theorem State.placeMsb_port (s : State) :
    ∃ cap held, s.placeMsb.port = { s.port with msb := true, captured := cap, held := held } := by
  unfold State.placeMsb State.capture
  split
  · next hmsb => exact ⟨_, _, by rw [← hmsb]⟩
  · split
    · split <;> exact ⟨_, _, rfl⟩
    · exact ⟨_, _, rfl⟩

/-- A byte period leaves the phase of the port alone. -/
theorem State.byteDone_phase (s : State) : s.byteDone.port.phase = s.port.phase := by
  obtain ⟨_, _, hport⟩ := s.placeMsb_port
  show s.placeMsb.port.phase = _
  rw [hport]

/-- A completed byte in DATA is one byte period, whatever its value (09 R180, R185). -/
theorem State.paramByte_data {s : State} (hl : s.port.listening = true) (hd : s.port.phase = .data) (b : Byte)
    (home : Bool) : s.paramByte b home = (s.byteDone.modPort Port.deliver).finish := by
  rw [State.paramByte, if_pos hl]
  simp only [State.byteDone_phase, hd]

/-- A DATA_BYTE_PERIOD event is a completed byte in DATA, of any value (09 R185). -/
theorem exec_dataBytePeriod_eq {s : State} (hd : s.port.phase = .data) (b : Byte) (home : Bool) :
    exec .dataBytePeriod s = .next (s.paramByte b home) := by
  refine congrArg Host.Outcome.next ((if_pos hd).trans ?_)
  cases hl : s.port.listening with
  | true => rw [State.paramByte_data hl hd, State.paramByte_data hl hd]
  | false => rw [State.paramByte_deaf hl, State.paramByte_deaf hl]

/-- Settles O5: `State.send` takes one byte after another, and a command that lacks bytes is `State.send_incomplete`. -/
theorem bytesMakeCommands : Obligations.BytesMakeCommands := by
  refine ⟨fun i c p home s hi => ⟨exec_host hi s, fun b => ?_⟩, fun i c p home s hi hr hk hp => ?_,
    fun c p b home s u hk hr hu => ?_, fun b home s hd => (exec_dataBytePeriod_eq hd b home).symm⟩
  · exact congrArg Host.Outcome.next (State.send_append s c p b home).symm
  · rw [exec_host hi, State.send_incomplete hr hk home hp]
  · have hnext : p.length < c.paramsNeeded p → exec (.parameterByte b home) u = .next (s.send c (p ++ [b]) home) := by
      intro hp
      rw [State.send_append, State.send_incomplete hr hk home hp, ← hu]
      rfl
    refine ⟨fun hmore => ?_, fun hp => ⟨hnext hp, fun i hi => (hnext hp).trans (exec_host hi s).symm⟩⟩
    have hlen : (p ++ [b]).length = p.length + 1 := by simp
    rw [← hlen] at hmore
    rw [hnext (Cmd.incomplete_of_append hmore).1, State.send_incomplete hr hk home hmore, hlen]

/-! ## Bytes of no command -/

/-- A code names no command when it is the code of none (11 R208). -/
theorem Cmd.ofCode_eq_none_iff {b : Byte} : Cmd.ofCode b = none ↔ ∀ c ∈ Cmd.all, c.code ≠ b := by
  simp [Cmd.ofCode]

/-- Settles O7: on a ready port a byte of no command completes a byte period and, sent as a command byte, leaves
BAD_COMMAND; the codes left over are read off the code table. -/
theorem bytesOfNoCommand : Obligations.BytesOfNoCommand := by
  refine ⟨fun code s hr hcode => ?_, fun b => ?_, fun b home s hr => ?_⟩
  · refine congrArg Host.Outcome.next ((State.commandByte_ready hr code).trans ?_)
    rw [hcode]
    exact State.finish_of_settled hr.2.2
  · rw [Cmd.ofCode_eq_none_iff]
    simp only [Cmd.all, List.cons_append, List.nil_append, List.forall_mem_cons, Cmd.code]
    simp only [List.not_mem_nil, false_imp_iff, implies_true, and_true]
    bv_omega
  · exact congrArg Host.Outcome.next ((State.paramByte_idle hr b home).trans (State.finish_of_settled hr.2.2))

end Sys2Proof.Machine
end

section
/-! PROOFS. SEL and SCK edges (O13): the most significant bit of the byte due out placed, with the capture this may be (09 R177,
R186). -/

namespace Sys2Proof.Machine

/-! ## The most significant bit placed -/

/-- A capture is due as the first data byte of an accepted read goes out (09 R186). -/
theorem Port.captureDue_iff {p : Port} : p.captureDue = true ↔
    p.phase = .data ∧ p.readOk = true ∧ 1 ≤ p.outPos ∧ p.captured = none := by
  simp [Port.captureDue, and_assoc]

/-- Of the port, read data show the result code and the stream pointer alone. -/
theorem State.readData_modPort (s : State) {f : Port → Port} (hr : (f s.port).result = s.port.result)
    (hp : (f s.port).pointer = s.port.pointer) (c : Cmd) (a : List Byte) :
    (s.modPort f).readData c a = s.readData c a := by
  cases c
  case readResult => exact congrArg (fun r : Result => b1 r.code) hr
  case streamReadTable => exact congrArg s.connImage hp
  all_goals rfl

/-- What the port holds captured once the most significant bit of the byte due out is placed, of any read but READ CHANGED
SET: a capture already held, or the read data as they stand (09 R186). -/
def State.Captures (s : State) (cap : Option (List Byte)) : Prop :=
  (s.port.captureDue = false ∨ s.port.msb = true) ∧ cap = s.port.captured ∨
    s.port.captureDue = true ∧ s.port.msb = false ∧
      ∃ c, s.port.cmd = some c ∧ c ≠ .readChangedSet ∧ cap = some (s.readData c s.port.field)

/-- Any read but READ CHANGED SET captures its read data and leaves the rest alone (09 R186). -/
theorem State.capture_image {s : State} {c : Cmd} (hc : s.port.cmd = some c) (hne : c ≠ .readChangedSet) :
    s.capture = s.modPort (fun p => { p with captured := some (s.readData c s.port.field) }) := by
  unfold State.capture
  split
  · next hnone => cases hc.symm.trans hnone
  · next hset => exact absurd (Option.some.inj (hc.symm.trans hset)) hne
  · next d _ hd => rw [Option.some.inj (hc.symm.trans hd)]

/-- The most significant bit placed, of any read but READ CHANGED SET (09 R186). -/
theorem State.placeMsb_of_captures {s : State} {cap : Option (List Byte)} (h : s.Captures cap) :
    s.placeMsb = s.modPort (fun p => { p with msb := true, captured := cap }) := by
  rcases h with ⟨hkept, rfl⟩ | ⟨hdue, hmsb, c, hc, hne, rfl⟩
  · unfold State.placeMsb
    split
    · next hmsb =>
      show s = { s with port := { s.port with msb := true } }
      rw [← hmsb]
    · next hmsb => rw [if_neg (by simpa [hmsb] using hkept)]; rfl
  · rw [State.placeMsb, if_neg (by simp [hmsb]), if_pos hdue, State.capture_image hc hne]
    rfl

/-- READ CHANGED SET captured and the live set emptied, as its first data bit is placed (10 R202). -/
def State.captureSet (s : State) : State :=
  { s with
    port := { s.port with msb := true, captured := some (changedImage s.att.changed), held := some s.att.changed }
    att := { s.att with changed := 0 } }

/-- The most significant bit of the first data byte of READ CHANGED SET placed (10 R202). -/
theorem State.placeMsb_changedSet {s : State} (hc : s.port.cmd = some .readChangedSet) (hdue : s.port.captureDue = true)
    (hmsb : s.port.msb = false) : s.placeMsb = s.captureSet := by
  rw [State.placeMsb, if_neg (by simp [hmsb]), if_pos hdue]
  unfold State.capture
  rw [hc]
  rfl

/-- Placing a bit raises no trigger and no attention cause. -/
theorem State.placeMsb_settled {s : State} (h : s.Settled) : s.placeMsb.Settled := by
  unfold State.placeMsb State.capture
  split
  · exact h
  · split
    · split <;> exact h
    · exact h

/-! ## Edges -/

/-- The port as SEL is asserted: no bits held (09 R177, R193). -/
def Port.select (p : Port) : Port := { p with selLow := true, seenHigh := true, bitCount := 0, bits := 0 }

/-- What a read captures does not depend on the byte assembler. -/
theorem State.capture_modPort_select (s : State) : (s.modPort Port.select).capture = s.capture.modPort Port.select := by
  have hcmd : (s.modPort Port.select).port.cmd = s.port.cmd := rfl
  unfold State.capture
  rw [hcmd]
  split
  · rfl
  · rfl
  · rw [State.readData_modPort s rfl rfl]
    rfl

/-- The bit placed as SEL is asserted is the bit due. -/
theorem State.placeMsb_modPort_select (s : State) : (s.modPort Port.select).placeMsb = s.placeMsb.modPort Port.select := by
  have hmsb : (s.modPort Port.select).port.msb = s.port.msb := rfl
  have hdue : (s.modPort Port.select).port.captureDue = s.port.captureDue := rfl
  unfold State.placeMsb
  rw [hmsb, hdue, State.capture_modPort_select]
  split
  · rfl
  · split <;> rfl

/-- SEL asserted places the bit that a falling edge would, on an empty assembler (09 R177). -/
theorem exec_selAssert {s : State} (h : s.Settled) (hsel : s.port.selLow = false) :
    exec .selAssert s = .next (s.placeMsb.modPort Port.select).driveSdo := by
  refine congrArg Host.Outcome.next ?_
  have hselect : s.selectPort = (s.placeMsb.modPort Port.select).driveSdo := by
    rw [State.selectPort, if_neg (by simp [hsel]), ← State.placeMsb_modPort_select]
    rfl
  rw [hselect]
  exact State.finish_of_settled (State.placeMsb_settled h)

/-- A falling edge alone places the bit due (09 R186). -/
theorem exec_sckFallingEdge_none {s : State} (h : s.Settled) (hl : s.port.listening = true) :
    exec (.sckFallingEdge none) s = .next s.placeMsb.driveSdo := by
  refine congrArg Host.Outcome.next ?_
  rw [State.fallingEdge, if_pos hl]
  exact State.finish_of_settled (State.placeMsb_settled h)

/-- A falling edge after a sample within a byte shifts it in and places the next bit (09 R177, R186). -/
theorem exec_sckFallingEdge_some {s : State} (h : s.Settled) (hl : s.port.listening = true) (hb : s.port.bitCount < 7)
    (b : Bool) : exec (.sckFallingEdge (some b)) s = .next (s.placeMsb.modPort (·.shiftIn b)).driveSdo := by
  refine congrArg Host.Outcome.next ?_
  rw [State.fallingEdge, if_pos hl]
  exact (congrArg State.finish (if_pos hb)).trans (State.finish_of_settled (State.placeMsb_settled h))

/-- Settles O13: every edge that is heard places the bit of `State.placeMsb_of_captures`. -/
theorem selAndSckEdges : Obligations.SelAndSckEdges := by
  refine ⟨fun s cap hsel hs hcap => ?_, fun s hs => ?_, fun s b cap hl hs hcap => ⟨?_, fun hb => ?_⟩⟩
  · rw [exec_selAssert hs hsel, State.placeMsb_of_captures hcap]
    rfl
  · exact congrArg Host.Outcome.next (State.finish_of_settled hs)
  · rw [exec_sckFallingEdge_none hs hl, State.placeMsb_of_captures hcap]
    rfl
  · rw [exec_sckFallingEdge_some hs hl hb, State.placeMsb_of_captures hcap]
    have hbit : 6 - s.port.bitCount = 7 - (s.port.bitCount + 1) := by omega
    rw [hbit]
    rfl

end Sys2Proof.Machine
end

section
/-! PROOFS. Byte periods in DATA (09 R185, R186): what goes out and what is kept, and a read whose data are captured once
(O9). -/

namespace Sys2Proof.Machine

/-! ## The byte due out and what its delivery leaves -/

/-- The byte due out of an accepted read past its dummy byte (09 R185). -/
theorem Port.outByte_data {p : Port} {img : List Byte} (hd : p.phase = .data) (hok : p.readOk = true) (ho : 1 ≤ p.outPos)
    (hc : p.captured = some img) : p.outByte = img.getD p.outIndex 0 := by
  rw [Port.outByte, if_pos ⟨hd, hok, ho⟩, hc]
  rfl

/-- The place of the byte due out, but of a stream. -/
theorem Port.outIndex_of_not_stream {p : Port} (h : p.cmd ≠ some .streamReadTable) : p.outIndex = p.outPos - 1 := if_neg h

/-- The place of the byte due out of a stream, within its image (09 R190). -/
theorem Port.outIndex_stream {p : Port} (h : p.cmd = some .streamReadTable) : p.outIndex = (p.outPos - 1) % 30 := if_pos h

/-- A byte delivered, of any read but a stream and READ CHANGED SET (09 R185). -/
theorem Port.deliver_plain {p : Port} (hs : p.cmd ≠ some .streamReadTable) (hc : p.cmd ≠ some .readChangedSet) :
    p.deliver = { p with outPos := p.outPos + 1 } := by
  have hends : p.imageEnds = false := by simp [Port.imageEnds, hs]
  have hset : p.setDelivered = false := by simp [Port.setDelivered, hc]
  simp only [Port.deliver, hends, hset, Bool.false_eq_true, if_false]

/-- A byte of a stream delivered: the last of an image moves the stream pointer on (09 R190). -/
theorem Port.deliver_stream {p : Port} (h : p.cmd = some .streamReadTable) (ho : 1 ≤ p.outPos) :
    p.deliver = { p with
      outPos := p.outPos + 1
      captured := if (p.outPos - 1) % 30 = 29 then none else p.captured
      pointer := if (p.outPos - 1) % 30 = 29 then p.pointer + 1 else p.pointer } := by
  have hends : p.imageEnds = true ↔ (p.outPos - 1) % 30 = 29 := by
    simp [Port.imageEnds, h, ho, Port.outIndex_stream h, Config.imageBytes]
  have hset : p.setDelivered = false := by simp [Port.setDelivered, h]
  simp only [Port.deliver, hends, hset, Bool.false_eq_true, if_false]

/-- A byte of READ CHANGED SET delivered: after the twelfth nothing is to be given back (10 R202). -/
theorem Port.deliver_changedSet {p : Port} (h : p.cmd = some .readChangedSet) :
    p.deliver = { p with outPos := p.outPos + 1, held := if p.outPos = 12 then none else p.held } := by
  have hends : p.imageEnds = false := by simp [Port.imageEnds, h]
  have hset : p.setDelivered = true ↔ p.outPos = 12 := by simp [Port.setDelivered, h]
  simp only [Port.deliver, hends, hset, Bool.false_eq_true, if_false]

/-- One byte period in DATA (09 R185, R186). -/
theorem exec_dataBytePeriod {s : State} (h : s.Settled) (hl : s.port.listening = true) (hd : s.port.phase = .data) :
    exec .dataBytePeriod s = .next (s.placeMsb.modPort fun p => (p.period p.outByte).deliver) := by
  rw [exec_dataBytePeriod_eq hd 0 false, State.paramByte_data hl hd]
  exact congrArg Host.Outcome.next (State.finish_of_settled (State.placeMsb_settled h))

/-- One byte period of any read but READ CHANGED SET, whose data are `img` once placed (09 R185, R186). -/
theorem exec_dataBytePeriod_captures {s : State} (h : s.Settled) (hl : s.port.listening = true) (hd : s.port.phase = .data)
    {cap : Option (List Byte)} (hcap : s.Captures cap) : exec .dataBytePeriod s = .next { s with
      port := ({ s.port.period ({ s.port with captured := cap } : Port).outByte with captured := cap } : Port).deliver } := by
  rw [exec_dataBytePeriod h hl hd, State.placeMsb_of_captures hcap]
  rfl

/-! ## A read whose data are captured once -/

/-- The port of a read after `k` byte periods: the dummy byte, then the data `img` of an accepted read (09 R185). -/
def Port.sent (p : Port) (img : List Byte) (k : Nat) : Port :=
  { p.period (if p.readOk = true ∧ 2 ≤ k then img.getD (k - 2) 0 else 0) with
    outPos := k
    captured := if p.readOk = true ∧ 2 ≤ k then some img else none }

/-- The port after the dummy byte and `k` byte periods more. -/
theorem Port.sent_succ (p : Port) (img : List Byte) (k : Nat) : p.sent img (k + 1) =
    { p.period (if p.readOk = true ∧ 1 ≤ k then img.getD (k - 1) 0 else 0) with
      outPos := k + 1
      captured := if p.readOk = true ∧ 1 ≤ k then some img else none } := by
  have hk : 2 ≤ k + 1 ↔ 1 ≤ k := Nat.succ_le_succ_iff
  have hsub : k + 1 - 2 = k - 1 := rfl
  simp only [Port.sent, hk, hsub]

/-- The byte that goes out in the period after the `k`-th: a data byte of an accepted read past its dummy byte, or 00 (09
R185, R186). -/
theorem Port.outByte_sent {p : Port} (hd : p.phase = .data) (hs : p.cmd ≠ some .streamReadTable) (img : List Byte) (k : Nat) :
    ({ p.sent img k with captured := if p.readOk = true ∧ 1 ≤ k then some img else none } : Port).outByte =
      if p.readOk = true ∧ 1 ≤ k then img.getD (k - 1) 0 else 0 := by
  by_cases hout : p.readOk = true ∧ 1 ≤ k
  · rw [if_pos hout, if_pos hout, Port.outByte_data (p := { p.sent img k with captured := some img }) hd hout.1 hout.2 rfl,
      Port.outIndex_of_not_stream (p := { p.sent img k with captured := some img }) hs]
    rfl
  · rw [if_neg hout, if_neg hout]
    exact if_neg fun h => hout h.2

section Periods

variable {s : State} {c : Cmd}

/-- What a read holds captured once the first bit after `k` byte periods is placed (09 R186). -/
theorem State.captures_sent (hd : s.port.phase = .data) (hc : s.port.cmd = some c) (hset : c ≠ .readChangedSet) (k : Nat) :
    (s.modPort (·.sent (s.readData c s.port.field) k)).Captures
      (if s.port.readOk = true ∧ 1 ≤ k then some (s.readData c s.port.field) else none) := by
  by_cases hfirst : s.port.readOk = true ∧ k = 1
  · obtain ⟨hok, rfl⟩ := hfirst
    refine .inr ⟨Port.captureDue_iff.mpr ⟨hd, hok, Nat.le_refl 1, if_neg (by simp)⟩, rfl, c, hc, hset, ?_⟩
    rw [if_pos ⟨hok, Nat.le_refl 1⟩]
    exact congrArg some (State.readData_modPort s rfl rfl c s.port.field).symm
  · have hkept : s.port.readOk = true ∧ 1 ≤ k ↔ s.port.readOk = true ∧ 2 ≤ k := and_congr_right fun hok => by
      have hk : k ≠ 1 := fun e => hfirst ⟨hok, e⟩
      omega
    refine .inl ⟨.inl (Bool.eq_false_iff.mpr fun hdue => ?_), if_congr hkept rfl rfl⟩
    obtain ⟨_, hok, ho, hnone⟩ := Port.captureDue_iff.mp hdue
    cases hnone.symm.trans (if_pos (hkept.mp ⟨hok, ho⟩))

/-- One byte period more of a read (09 R185, R186). -/
theorem exec_dataBytePeriod_sent (h : s.Settled) (hl : s.port.listening = true) (hd : s.port.phase = .data)
    (hc : s.port.cmd = some c) (hstream : c ≠ .streamReadTable) (hset : c ≠ .readChangedSet) (k : Nat) :
    exec .dataBytePeriod (s.modPort (·.sent (s.readData c s.port.field) k)) =
      .next (s.modPort (·.sent (s.readData c s.port.field) (k + 1))) := by
  have hstream' : s.port.cmd ≠ some .streamReadTable := fun e => hstream (Option.some.inj (hc.symm.trans e))
  have hset' : s.port.cmd ≠ some .readChangedSet := fun e => hset (Option.some.inj (hc.symm.trans e))
  rw [exec_dataBytePeriod_captures (s := s.modPort (·.sent (s.readData c s.port.field) k)) h hl hd
    (State.captures_sent hd hc hset k)]
  refine congrArg (fun p => Host.Outcome.next { s with port := p }) ?_
  rw [State.modPort_port, Port.outByte_sent hd hstream', Port.deliver_plain]
  · exact (Port.sent_succ s.port _ k).symm
  · exact hstream'
  · exact hset'

/-- The commands that wait are no part of any read data. -/
theorem State.readData_pending (s : State) (q : List Instr) (c : Cmd) (a : List Byte) :
    ({ s with pending := q } : State).readData c a = s.readData c a := by
  cases c <;> rfl

/-- A run whose first step is known. -/
theorem run_of_next {u t : State} (h : step u = .next t) (n : Nat) :
    Host.Core.run core (n + 1) u = Host.Core.run core n t := by
  have hcore : core.step u = .next t := h
  simp only [Host.Core.run, hcore]

/-- A run of byte periods of a read (09 R185, R186). -/
theorem run_dataBytePeriods (h : s.Settled) (hl : s.port.listening = true) (hd : s.port.phase = .data)
    (hc : s.port.cmd = some c) (hstream : c ≠ .streamReadTable) (hset : c ≠ .readChangedSet) (n k : Nat) :
    Host.Core.run core n { s.modPort (·.sent (s.readData c s.port.field) k) with
        pending := List.replicate n .dataBytePeriod } =
      .next { s.modPort (·.sent (s.readData c s.port.field) (k + n)) with pending := [] } := by
  induction n generalizing k with
  | zero => rfl
  | succ n ih =>
    have hstep := exec_dataBytePeriod_sent (s := { s with pending := List.replicate n .dataBytePeriod }) h hl hd hc hstream
      hset k
    rw [State.readData_pending] at hstep
    have hsucc : k + (n + 1) = k + 1 + n := by omega
    rw [hsucc, ← ih (k + 1)]
    refine run_of_next ?_ n
    exact hstep

end Periods

/-- A read just entered has completed no byte period. -/
theorem Port.sent_reading (p : Port) (c : Cmd) (a : List Byte) (ok : Bool) (r : Result) (img : List Byte) :
    (p.reading c a ok r).sent img 0 = p.reading c a ok r := by
  have hzero : ¬ ((p.reading c a ok r).readOk = true ∧ 2 ≤ 0) := fun h => absurd h.2 (by decide)
  rw [Port.sent, if_neg hzero, if_neg hzero]
  rfl

/-- Settles O9: a read just entered has sent no byte, and `run_dataBytePeriods` counts them from there. -/
theorem readReturnsDummyThenData : Obligations.ReadReturnsDummyThenData := by
  refine ⟨fun s c a ok r k h _ hstream hset => ?_, fun s c img hl hs hd hc hstream hset hok hcap ho => ?_⟩
  · obtain ⟨hl, _, hs⟩ := h
    have hrun := run_dataBytePeriods (s := { s with port := s.port.reading c a ok r }) hs hl rfl rfl hstream hset (k + 1) 0
    rw [State.modPort, Port.sent_reading, State.modPort, Nat.zero_add, Port.sent_succ] at hrun
    exact ⟨_, hrun, rfl, rfl, rfl, rfl, rfl, rfl, rfl, rfl, rfl, rfl, rfl, rfl, rfl⟩
  · have hkept : s.Captures (some img) := .inl ⟨.inl (by simp [Port.captureDue, hcap]), hcap.symm⟩
    have hstream' : s.port.cmd ≠ some .streamReadTable := fun e => hstream (Option.some.inj (hc.symm.trans e))
    have hset' : s.port.cmd ≠ some .readChangedSet := fun e => hset (Option.some.inj (hc.symm.trans e))
    rw [exec_dataBytePeriod_captures hs hl hd hkept, ← hcap, Port.outByte_data hd hok ho hcap,
      Port.outIndex_of_not_stream hstream', Port.deliver_plain]
    · rfl
    · exact hstream'
    · exact hset'

end Sys2Proof.Machine
end

section
/-! PROOFS. Streams and READ CHANGED SET (O12). -/

namespace Sys2Proof.Machine

/-! ## A stream -/

/-- The image a stream delivers is the one held, or the one its first byte captures (09 R186, R190). -/
theorem State.captures_stream {s : State} {img : List Byte} (hd : s.port.phase = .data)
    (hc : s.port.cmd = some .streamReadTable) (hok : s.port.readOk = true) (ho : 1 ≤ s.port.outPos)
    (himg : s.port.captured = some img ∨ s.port.captured = none ∧ s.port.msb = false ∧ img = s.connImage s.port.pointer) :
    s.Captures (some img) := by
  obtain hheld | ⟨hnone, hmsb, himage⟩ := himg
  · exact .inl ⟨.inl (by simp [Port.captureDue, hheld]), hheld.symm⟩
  · exact .inr ⟨Port.captureDue_iff.mpr ⟨hd, hok, ho, hnone⟩, hmsb, .streamReadTable, hc, nofun, congrArg some himage⟩

/-- One byte period of a stream (09 R190). -/
theorem exec_dataBytePeriod_stream {s : State} {img : List Byte} (h : s.Settled) (hl : s.port.listening = true)
    (hd : s.port.phase = .data) (hc : s.port.cmd = some .streamReadTable) (hok : s.port.readOk = true)
    (ho : 1 ≤ s.port.outPos) (hcap : s.Captures (some img)) :
    exec .dataBytePeriod s = .next { s with port := { s.port.period (img.getD ((s.port.outPos - 1) % 30) 0) with
      outPos := s.port.outPos + 1
      captured := if (s.port.outPos - 1) % 30 = 29 then none else some img
      pointer := if (s.port.outPos - 1) % 30 = 29 then s.port.pointer + 1 else s.port.pointer } } := by
  rw [exec_dataBytePeriod_captures h hl hd hcap,
    Port.outByte_data (p := { s.port with captured := some img }) hd hok ho rfl,
    Port.outIndex_stream (p := { s.port with captured := some img }) hc, Port.deliver_stream]
  · rfl
  · exact hc
  · exact ho

/-! ## READ CHANGED SET -/

/-- One byte period of READ CHANGED SET with its capture held (10 R202). -/
theorem exec_dataBytePeriod_held {s : State} {img : List Byte} (h : s.Settled) (hl : s.port.listening = true)
    (hd : s.port.phase = .data) (hc : s.port.cmd = some .readChangedSet) (hok : s.port.readOk = true)
    (hcap : s.port.captured = some img) (ho : 1 ≤ s.port.outPos) :
    exec .dataBytePeriod s = .next { s with port := { s.port.period (img.getD (s.port.outPos - 1) 0) with
      outPos := s.port.outPos + 1, held := if s.port.outPos = 12 then none else s.port.held } } := by
  have hkept : s.Captures (some img) := .inl ⟨.inl (by simp [Port.captureDue, hcap]), hcap.symm⟩
  have hstream : s.port.cmd ≠ some .streamReadTable := by simp [hc]
  rw [exec_dataBytePeriod_captures h hl hd hkept, ← hcap, Port.outByte_data hd hok ho hcap,
    Port.outIndex_of_not_stream hstream, Port.deliver_changedSet]
  · rfl
  · exact hc

/-- The first bit of the first data byte captures the set and empties it (10 R202). -/
theorem State.placeMsb_firstByte {s : State} (hd : s.port.phase = .data) (hc : s.port.cmd = some .readChangedSet)
    (hok : s.port.readOk = true) (hmsb : s.port.msb = false) (ho : s.port.outPos = 1) (hcap : s.port.captured = none) :
    s.placeMsb = s.captureSet :=
  State.placeMsb_changedSet hc (Port.captureDue_iff.mpr ⟨hd, hok, ho.ge, hcap⟩) hmsb

/-- The first data byte of the captured set is due out (10 R202). -/
theorem State.captureSet_outByte {s : State} (hd : s.port.phase = .data) (hc : s.port.cmd = some .readChangedSet)
    (hok : s.port.readOk = true) (ho : s.port.outPos = 1) :
    s.captureSet.port.outByte = (changedImage s.att.changed).getD 0 0 := by
  have hindex : s.captureSet.port.outIndex = 0 := by
    rw [Port.outIndex_of_not_stream (by simp [State.captureSet, hc])]
    exact congrArg (· - 1) ho
  rw [Port.outByte_data (p := s.captureSet.port) hd hok ho.ge rfl, hindex]

/-- The first of the twelve data bytes delivered (10 R202). -/
theorem Port.deliver_firstByte {p : Port} (h : p.cmd = some .readChangedSet) (ho : p.outPos = 1) :
    p.deliver = { p with outPos := 2 } := by
  rw [Port.deliver_changedSet h, ho]
  rfl

/-- Settles O12: a stream's image is captured as any read's is; every edge that places the first bit of READ CHANGED SET
captures it by `State.placeMsb_firstByte`. -/
theorem streamsAndChangedSet : Obligations.StreamsAndChangedSet := by
  refine ⟨fun s img hl hs hd hc hok ho himg => ?_,
    fun s hl hs hd hc hok hmsb => ⟨fun ho hcap => ?_, fun img hcap ho => ?_⟩, ?_⟩
  · exact exec_dataBytePeriod_stream hs hl hd hc hok ho (State.captures_stream hd hc hok ho himg)
  · have himg : s.readData .readChangedSet [] = changedImage s.att.changed := rfl
    rw [exec_sckFallingEdge_none hs hl, State.placeMsb_firstByte hd hc hok hmsb ho hcap, himg,
      ← State.captureSet_outByte hd hc hok ho]
    rfl
  · exact exec_dataBytePeriod_held hs hl hd hc hok hcap ho
  · rintro s img u hs hd hc hok hmsb ho hcap rfl rfl
    have hplace := State.placeMsb_firstByte hd hc hok hmsb ho hcap
    have hout := State.captureSet_outByte hd hc hok ho
    have himg : s.readData .readChangedSet [] = changedImage s.att.changed := rfl
    rw [himg, ← hout]
    refine ⟨fun hsel => ?_, fun hl => ⟨?_, fun hb b => ?_, ?_⟩⟩
    · rw [exec_selAssert hs hsel, hplace]
      rfl
    · rw [exec_sckFallingEdge_none hs hl, hplace]
      rfl
    · have hbit : 6 - s.port.bitCount = 7 - (s.port.bitCount + 1) := by omega
      rw [exec_sckFallingEdge_some hs hl hb, hplace, hbit]
      rfl
    · rw [exec_dataBytePeriod hs hl hd, hplace]
      refine congrArg (fun p => Host.Outcome.next { s.captureSet with port := p }) ?_
      exact Port.deliver_firstByte (p := s.captureSet.port.period s.captureSet.port.outByte) hc ho

end Sys2Proof.Machine
end

section
/-! PROOFS. A command byte while a command is open (O6): what the open command leaves, and the byte taken as if none had been
open. -/

namespace Sys2Proof.Machine

/-! ## A command byte in two parts -/

/-- The second part of a command byte, the open command being ended: its code opens a command or names none (09 R181). -/
def State.takeCode (s : State) (code : Byte) : State :=
  match Cmd.ofCode code with
  | some c => s.openCmd c
  | none => s.badCode

/-- A command byte ends the open command and is then taken (09 R181). -/
theorem State.commandByte_listening {s : State} (hl : s.port.listening = true) (code : Byte) :
    s.commandByte code = (s.byteDone.endOpen.takeCode code).finish := if_pos hl

/-- A pass that starts, or is wanted, reads nothing of the port. -/
theorem State.startOrRerun_modPort (s : State) (f : Port → Port) :
    (s.modPort f).startOrRerun = s.startOrRerun.modPort f := by
  have hcomputing : (s.modPort f).computing = s.computing := rfl
  unfold State.startOrRerun
  rw [hcomputing]
  split <;> rfl

/-- The end of an event reads nothing of the port. -/
theorem State.finish_modPort (s : State) (f : Port → Port) : (s.modPort f).finish = s.finish.modPort f := by
  cases hu : s.urgent with
  | false =>
    rw [State.finish_of_quiet hu, State.finish_of_quiet (s := s.modPort f) hu]
    rfl
  | true =>
    rw [State.finish_of_urgent hu, State.finish_of_urgent (s := s.modPort f) hu]
    exact congrArg State.attend (State.startOrRerun_modPort { s with urgent := false } f)

/-- The end of an event leaves the port as it was. -/
theorem State.finish_port (s : State) : s.finish.port = s.port := by
  cases hu : s.urgent with
  | false => rw [State.finish_of_quiet hu, State.attend_port]
  | true => rw [State.finish_of_urgent hu]; exact State.startOrRerun_port _

/-- A whole command without parameter bytes reads nothing of the port. -/
theorem wholeAct_modPort {c : Cmd} (hn : c.paramCount = 0) (s : State) (f : Port → Port) :
    wholeAct c [] false (s.modPort f) = ((wholeAct c [] false s).1.modPort f, (wholeAct c [] false s).2) := by
  cases c <;> cases hn
  case clearTrip =>
    by_cases hlevel : s.plant.level = true
    · have hs : doClearTrip s = (s, .badState) := if_pos hlevel
      have hf : doClearTrip (s.modPort f) = (s.modPort f, .badState) := if_pos hlevel
      rw [wholeAct, wholeAct, hs, hf]
    · have hs : doClearTrip s = (s.clearLatch, .ok) := if_neg hlevel
      have hf : doClearTrip (s.modPort f) = ((s.modPort f).clearLatch, .ok) := if_neg hlevel
      rw [wholeAct, wholeAct, hs, hf]
      rfl
  all_goals rfl

/-- A command byte opens the same command whatever byte went out in its byte period. -/
theorem State.takeCode_period (s : State) (out code : Byte) :
    (s.modPort (·.period out)).takeCode code = (s.takeCode code).modPort (·.period out) := by
  unfold State.takeCode
  split
  · next c _ =>
    unfold State.openCmd
    split
    · next hn =>
      split
      · rfl
      · rw [State.finishWhole, wholeAct_modPort hn]
        rfl
    · rfl
  · rfl

/-! ## The command that was open -/

/-- A command open in COLLECTING is left INCOMPLETE (09 R181). -/
theorem State.endOpen_collecting {s : State} (hp : s.port.phase = .collecting) :
    s.byteDone.endOpen = { s with port := s.port.closed .incomplete } := by
  rw [State.byteDone_of_not_data (by simp [hp])]
  simp only [State.endOpen, Port.period_phase, hp]
  rfl

/-- A closed port has no command to end (09 R181). -/
theorem State.endOpen_closed (s : State) (p : Port) (r : Result) :
    ({ s with port := p.closed r } : State).byteDone.endOpen = { s with port := p.closed r } := by
  rw [State.byteDone_of_not_data (by simp [Port.closed, Port.reset])]
  rfl

/-- The state after a read in DATA is ended: it keeps its result, and the changed-connection ids it did not deliver go back
(09 R181, 10 R202). -/
def State.readEnded (s : State) : State :=
  { s.placeMsb with
    port := s.placeMsb.port.closed s.port.result
    att := { s.placeMsb.att with changed := s.placeMsb.att.changed ||| s.placeMsb.port.held.getD 0 } }

/-- A read in DATA is ended in the byte period that sends its byte due out (09 R181). -/
theorem State.endOpen_data {s : State} (hd : s.port.phase = .data) :
    s.byteDone.endOpen = s.readEnded.modPort (·.period s.placeMsb.port.outByte) := by
  have hphase := s.byteDone_phase.trans hd
  obtain ⟨cap, held, hport⟩ := s.placeMsb_port
  have hresult : s.placeMsb.port.result = s.port.result := by rw [hport]
  unfold State.endOpen
  rw [hphase, State.readEnded, ← hresult]
  rfl

/-- A command byte in COLLECTING is taken as if no command had been open (09 R181). -/
theorem State.commandByte_collecting {s : State} (hl : s.port.listening = true) (hp : s.port.phase = .collecting)
    (code : Byte) : s.commandByte code = ({ s with port := s.port.closed .incomplete } : State).commandByte code := by
  rw [State.commandByte_listening hl, State.endOpen_collecting hp,
    State.commandByte_listening (s := { s with port := s.port.closed .incomplete }) hl, State.endOpen_closed]

/-- After a read in DATA is ended the port still hears SCK. -/
theorem State.readEnded_listening {s : State} (hl : s.port.listening = true) : s.readEnded.port.listening = true := by
  obtain ⟨cap, held, hport⟩ := s.placeMsb_port
  show s.placeMsb.port.listening = true
  rw [hport]
  exact hl

/-- After a read in DATA is ended a command byte has no command to end (09 R181). -/
theorem State.commandByte_readEnded {s : State} (hl : s.port.listening = true) (code : Byte) :
    s.readEnded.commandByte code = (s.readEnded.takeCode code).finish := by
  have hended : s.readEnded.byteDone.endOpen = s.readEnded :=
    State.endOpen_closed s.readEnded s.placeMsb.port s.port.result
  rw [State.commandByte_listening (State.readEnded_listening hl), hended]

/-- A command byte in DATA is taken as if no command had been open, in a byte period that sends the byte due out (09
R181). -/
theorem State.commandByte_data {s : State} (hl : s.port.listening = true) (hd : s.port.phase = .data) (code : Byte) :
    s.commandByte code = (s.readEnded.commandByte code).modPort (·.period s.placeMsb.port.outByte) := by
  rw [State.commandByte_listening hl, State.endOpen_data hd, State.takeCode_period, State.finish_modPort,
    State.commandByte_readEnded hl]

/-! ## The bytes that follow -/

/-- A command with parameter bytes is open after its command byte (09 R181). -/
theorem State.commandByte_opened {s : State} {code : Byte} {c : Cmd} (hl : s.port.listening = true)
    (hcode : Cmd.ofCode code = some c) (hn : c.paramCount ≠ 0) :
    (s.readEnded.commandByte code).port = s.readEnded.port.opened c 0 [] 0 false := by
  rw [State.commandByte_readEnded hl, State.finish_port]
  unfold State.takeCode
  rw [hcode]
  simp only [State.openCmd, if_neg hn]
  rfl

/-- Outside DATA a parameter byte does the same whatever byte went out before it. -/
theorem State.paramByte_modPort_period {s : State} (hl : s.port.listening = true) (hd : s.port.phase ≠ .data)
    (out b : Byte) (home : Bool) : (s.modPort (·.period out)).paramByte b home = s.paramByte b home := by
  have hdone : (s.modPort (·.period out)).byteDone = s.byteDone := by
    rw [State.byteDone_of_not_data hd, State.byteDone_of_not_data (s := s.modPort (·.period out)) hd]
    rfl
  have hheard : (s.modPort (·.period out)).port.listening = true := hl
  rw [State.paramByte, State.paramByte, if_pos hl, if_pos hheard, hdone]

/-- A host command or a code of no command is a command byte and the parameter bytes sent with it (09 R181, R182). -/
theorem exec_bytes {i : Instr} {c : Cmd} {p : List Byte} {home : Bool}
    (hi : i.host = some (c, p, home) ∨ ∃ code, i = .badCommand code ∧ p = []) :
    ∃ code, (p ≠ [] → ∃ d, Cmd.ofCode code = some d ∧ d.paramCount ≠ 0) ∧
      ∀ s, exec i s = .next (p.foldl (fun t b => t.paramByte b home) (s.commandByte code)) := by
  obtain hhost | ⟨code, rfl, rfl⟩ := hi
  · exact ⟨c.code, fun hp => ⟨c, Cmd.ofCode_code c, mt (Instr.params_eq_nil hhost) hp⟩, exec_host hhost⟩
  · exact ⟨code, fun hp => absurd rfl hp, fun s => rfl⟩

/-- Settles O6: the command byte acts on a port whose command is ended, and only the byte that went out remembers it, until
the next byte. -/
theorem commandByteEndsOpenCommand : Obligations.CommandByteEndsOpenCommand := by
  intro i c p home s hi hl _
  obtain ⟨code, hparams, hexec⟩ := exec_bytes hi
  refine ⟨fun hp => ?_, ?_⟩
  · rw [hexec, hexec, State.commandByte_collecting hl hp]
  · rintro hd u rfl
    refine ⟨_, hexec s.readEnded, ?_⟩
    rw [hexec, State.commandByte_data hl hd]
    match p, hparams with
    | [], _ => rfl
    | b :: q, hparams =>
      obtain ⟨d, hcode, hn⟩ := hparams (List.cons_ne_nil b q)
      have hport := State.commandByte_opened hl hcode hn
      have hopen : (s.readEnded.commandByte code).port.listening = true := by
        rw [hport]
        exact State.readEnded_listening hl
      rw [if_neg (List.cons_ne_nil b q), List.foldl_cons, State.paramByte_modPort_period hopen (by rw [hport]; nofun)]
      rfl

end Sys2Proof.Machine
end
